-- ==== Sys2Proof/Word.lean ====
section
/-! DEFINITION. Sys2Proof/Word.lean: the byte, and the table type in which every fixed set of records is held. -/

namespace Sys2Proof

/-- One byte of a frame (R214). -/
abbrev Byte := BitVec 8

/-- A table of `n` entries given by what each index holds. -/
def table {α : Type} {n : Nat} (f : Fin n → α) : Vector α n :=
  ⟨⟨(List.finRange n).map f⟩, by simp⟩

@[simp] theorem table_get {α : Type} {n : Nat} (f : Fin n → α) (i : Fin n) : (table f)[i] = f i := by
  simp [table]

end Sys2Proof
end

