-- ==== Sys2Proof/Config.lean ====
section
/-! DEFINITION. Sys2Proof/Config.lean: what one part fixes, and the values the manual leaves open. -/

namespace Sys2Proof

/-- Entries of one notice queue (R210). -/
def Config.noticeRoom : Nat := 16

/-- Pages of the page queue (R168). -/
def Config.pageRoom : Nat := 48

/-- Entries of the retention list (R183). -/
def Config.retentionRoom : Nat := 8

/-- Labels of the rack label queue (R129). -/
def Config.labelRoom : Nat := 8

/-- Rack records in the machine (R130). -/
def Config.rackRoom : Nat := 10

/-- The service clock is a 32-bit count of seconds (0.5.2). -/
def Config.clockSpan : Nat := 4294967296

/-- DESIGN CHOICE (log entry 8): how many reports between the blocks one event may cause before the model stops
following them. The log entry counts how many one event can cause at most, and that is fewer. -/
def Config.reportBound : Nat := 131072

/-- FREE VALUE (log entry 2): what an unsigned 32-bit plate count holds after an addition whose exact sum does not
fit (R85, R143). The manual gives the width and no result, so nothing is known of it. -/
opaque Config.countOverflow : Nat → BitVec 32

end Sys2Proof
end

