-- ==== Sys2Proof/Syntax.lean ====
section
/-! DEFINITION. Sys2Proof/Syntax.lean: the index names of 0.5.3, the field images that commands carry (10.4, 10.5), and the
commands and events of the part, one constructor for each row of spec/opcode_table.json. -/

namespace Sys2Proof

/-- Stations and station ports S0..S3. -/
abbrev Station := Fin 4
/-- Oven channels C0..C11. -/
abbrev Chan := Fin 12
/-- Warmers W0..W7. -/
abbrev WarmerIx := Fin 8
/-- Loads L0..L21. -/
abbrev LoadIx := Fin 22
/-- Probes P0..P33. -/
abbrev ProbeIx := Fin 34
/-- Plate kinds K0..K3. -/
abbrev Kind := Fin 4
/-- Badges B0..B95. -/
abbrev BadgeIx := Fin 96
/-- Step records 0..511. -/
abbrev StepIx := Fin 512
/-- Reservations 0..15. -/
abbrev ResIx := Fin 16
/-- Fault groups 0..5 (R186). -/
abbrev Group := Fin 6

/-- The page submission payload of R218, field by field as carried (its byte 15 is 0 and carries nothing). -/
structure PageImage where
  priority : Byte
  ackPolicy : Byte
  form : Byte
  value : BitVec 16
  presence : Byte
  qualifier : Byte
  escForm : Byte
  escValue : BitVec 16
  escQualifier : Byte
  message : BitVec 16
  parameter : BitVec 16
  deriving DecidableEq, Repr

/-- The 37-byte step image of R216, field by field as carried. -/
structure StepImage where
  kind : Byte
  flags : Byte
  setpoint : BitVec 16
  band : BitVec 16
  duration : BitVec 16
  limit : BitVec 16
  coreTarget : BitVec 16
  presence : Byte
  plateKind : Byte
  count : Byte
  nextIndex : BitVec 16
  noteCode : BitVec 16
  holdSetpoint : BitVec 16
  page : PageImage
  deriving DecidableEq, Repr

/-- The seven fields of SET LOAD (R61). -/
structure LoadImage where
  rating : BitVec 16
  tripLimit : BitVec 16
  check : BitVec 16
  pb : BitVec 16
  bias : BitVec 16
  nextPeriod : BitVec 16
  minOn : BitVec 16
  deriving DecidableEq, Repr

/-- The six fields of SET WARMER (R93). -/
structure WarmerImage where
  kind : Byte
  capacity : Byte
  pitch : Byte
  soakTime : BitVec 16
  setpoint : BitVec 16
  band : BitVec 16
  deriving DecidableEq, Repr

/-- The fifteen settings of SET DISH, in the order of the table of R126. -/
structure DishImage where
  rinseSetpoint : BitVec 16
  washSetpoint : BitVec 16
  rinseMin : BitVec 16
  dwellMin : BitVec 16
  dwellMax : BitVec 16
  groupM : BitVec 16
  mmPerPulse : BitVec 16
  machineLength : BitVec 16
  high : BitVec 16
  low : BitVec 16
  holdTime : BitVec 16
  clearingRole : Byte
  holdMessage : BitVec 16
  releaseMessage : BitVec 16
  dishStation : Byte
  deriving DecidableEq, Repr

/-- The ten values of SET PAGING (R180): enables of filters 3 to 8, windows URGENT, HIGH, NORMAL, LOW. -/
structure PagingImage where
  enables : Vector Byte 6
  windows : Vector (BitVec 16) 4
  deriving DecidableEq, Repr

/-- The commands and events of the part. `x` is the station a command comes from, or the port an event belongs to.
A station command's other operands are the fields of its payload as carried (10.4), so a field may hold a value that
the owning rule refuses or clamps. -/
inductive Instr where
  /-- Power-on or the RESET pin (0.5.5). -/
  | deviceReset
  /-- A frame with LENGTH the number of bytes of `body` (COMMAND and PAYLOAD) and these CHECKSUM bytes has arrived whole. -/
  | commandFrame (x : Station) (body : List Byte) (checksum : BitVec 16)
  | byteGapExpiry (x : Station)
  | responseSent (x : Station)
  | writeStep (x : Station) (index : BitVec 16) (give : Byte) (image : StepImage)
  | readStep (x : Station) (index : BitVec 16)
  | start (x : Station) (chan : Byte) (first : BitVec 16)
  | halt (x : Station) (chan : Byte)
  | releaseHold (x : Station) (chan : Byte)
  | resetChannel (x : Station) (chan : Byte)
  | setChannel (x : Station) (chan : Byte) (fallback : BitVec 16)
  | readChannel (x : Station) (chan : Byte)
  | setLoad (x : Station) (load : Byte) (image : LoadImage)
  | resetLoad (x : Station) (load : Byte)
  | testCutout (x : Station) (load : Byte)
  | readLoad (x : Station) (load : Byte)
  | readProbe (x : Station) (probe : Byte)
  | setCap (x : Station) (cap : BitVec 16)
  | setBudget (x : Station) (cap unmanaged : BitVec 16) (interval : Byte)
  | readBudget (x : Station)
  | inventorySet (x : Station) (kind : Byte) (stock : BitVec 32)
  | returnPlates (x : Station) (kind : Byte) (n : BitVec 16)
  | requeue (x : Station) (kind : Byte) (n : BitVec 16)
  | discard (x : Station) (kind : Byte) (n : BitVec 16)
  | warmerCount (x : Station) (warmer n : Byte)
  | setWarmer (x : Station) (warmer : Byte) (image : WarmerImage)
  | readPool (x : Station) (selector : Byte)
  | reserve (x : Station) (kind n : Byte)
  | cancelReservation (x : Station) (index : Byte) (creation : BitVec 16)
  | readReservation (x : Station) (index : Byte)
  | labelRack (x : Station) (kind count : Byte)
  | setDish (x : Station) (image : DishImage)
  | readDish (x : Station) (selector position : Byte)
  | setBadge (x : Station) (badge : Byte) (address : BitVec 24) (role zone : Byte)
  | badgeState (x : Station) (badge state : Byte)
  | assignFunction (x : Station) (badge : Byte) (function : BitVec 16)
  | clearFunctions (x : Station) (badge : Byte)
  | readBadge (x : Station) (form : Byte) (value : BitVec 24)
  | page (x : Station) (image : PageImage)
  | cancelPage (x : Station) (number : BitVec 16)
  | readPage (x : Station) (number : BitVec 16)
  | setPaging (x : Station) (image : PagingImage)
  | clearFaults (x : Station) (groups : Byte)
  | setFaultMask (x : Station) (masks : Vector Byte 6)
  | subscribeFaults (x : Station) (groups : Byte)
  | setFaultPaging (x : Station) (paging : Vector (Byte × Byte) 6)
  | readFaults (x : Station)
  | fetchNotice (x : Station)
  | setPort (x : Station) (port short : Byte) (long : BitVec 16) (action : Byte)
  | readPort (x : Station) (port : Byte)
  | shortTimerExpiry (x : Station)
  | longTimerExpiry (x : Station)
  | txDone (number : Byte) (address : BitVec 24) (ok : Bool)
  | ack (address : BitVec 24) (number : Byte)
  | key (address : BitVec 24) (value : Byte)
  | unreadableBaseFrame
  | transmissionTimerExpiry
  | retryExpiry
  | deadlineExpiry (number : Byte)
  /-- `elapsed` is the microseconds that have passed on the line since the model last brought its CAPTURE COUNTER up
  to date (log entry 3). -/
  | probeRisingEdge (p : ProbeIx) (elapsed : BitVec 16)
  | probeFallingEdge (p : ProbeIx) (elapsed : BitVec 16)
  | captureOverflow (p : ProbeIx)
  | outputTick (l : LoadIx)
  | cutoutTestCompletion (l : LoadIx)
  | verificationExpiry
  | intervalExpiry
  /-- The accepted levels of phases A and B, `true` for HIGH. -/
  | encoderTransition (w : WarmerIx) (a b : Bool)
  /-- The accepted level of the load switch, `true` for open. -/
  | loadSwitchChange (w : WarmerIx) (isOpen : Bool)
  | soakTimerExpiry (w : WarmerIx)
  | stepTimerExpiry (c : Chan)
  | rackEntry
  | rackExit
  | jamCheck
  /-- `elapsed` is the milliseconds that have passed since the model last brought the BASE COUNTER up to date. -/
  | conveyorPulse (elapsed : BitVec 16)
  | stallExpiry
  | refreshExpiry
  | receivedByte (x : Station) (b : Byte)
  deriving DecidableEq, Repr

end Sys2Proof
end

