-- ==== Sys2Proof/Decode.lean ====
section
/-! DEFINITION. Sys2Proof/Decode.lean: the command index (10.4) and the command layouts (R214, R216, R218): reading a COMMAND byte and
PAYLOAD into a command, and writing one. The rows of spec/opcode_table.json themselves carry no bits. -/

namespace Sys2Proof

/-- No row of the table gives bits, so no word spells a command. -/
def decodeTableWord (nbits w : Nat) : Option Instr :=
  match nbits, w with
  | _, _ => none

/-! ### Fields, high byte first (R214) -/

/-- The byte at offset `o` of a payload. -/
def at1 (p : List Byte) (o : Nat) : Byte := p.getD o 0
/-- The two-byte field at offset `o`. -/
def at2 (p : List Byte) (o : Nat) : BitVec 16 := at1 p o ++ at1 p (o + 1)
/-- The three-byte field at offset `o`. -/
def at3 (p : List Byte) (o : Nat) : BitVec 24 := at1 p o ++ at2 p (o + 1)
/-- The four-byte field at offset `o`. -/
def at4 (p : List Byte) (o : Nat) : BitVec 32 := at2 p o ++ at2 p (o + 2)

/-- The bytes of a two-byte field. -/
def bytes2 (v : BitVec 16) : List Byte := [v.extractLsb' 8 8, v.extractLsb' 0 8]
/-- The bytes of a three-byte field. -/
def bytes3 (v : BitVec 24) : List Byte := [v.extractLsb' 16 8, v.extractLsb' 8 8, v.extractLsb' 0 8]
/-- The bytes of a four-byte field. -/
def bytes4 (v : BitVec 32) : List Byte :=
  [v.extractLsb' 24 8, v.extractLsb' 16 8, v.extractLsb' 8 8, v.extractLsb' 0 8]

/-- The page submission payload at offset `o` (R218). -/
def pageImageAt (p : List Byte) (o : Nat) : PageImage where
  priority := at1 p (o + 0)
  ackPolicy := at1 p (o + 1)
  form := at1 p (o + 2)
  value := at2 p (o + 3)
  presence := at1 p (o + 5)
  qualifier := at1 p (o + 6)
  escForm := at1 p (o + 7)
  escValue := at2 p (o + 8)
  escQualifier := at1 p (o + 10)
  message := at2 p (o + 11)
  parameter := at2 p (o + 13)

/-- The bytes of a page submission payload; byte 15 is 0 (R218). -/
def pageImageBytes (i : PageImage) : List Byte :=
  [i.priority] ++ [i.ackPolicy] ++ [i.form] ++ bytes2 i.value ++ [i.presence] ++ [i.qualifier] ++ [i.escForm] ++ bytes2 i.escValue ++ [i.escQualifier] ++ bytes2 i.message ++ bytes2 i.parameter ++ [0]

/-- The step record image at offset `o` (R216). -/
def stepImageAt (p : List Byte) (o : Nat) : StepImage where
  kind := at1 p (o + 0)
  flags := at1 p (o + 1)
  setpoint := at2 p (o + 2)
  band := at2 p (o + 4)
  duration := at2 p (o + 6)
  limit := at2 p (o + 8)
  coreTarget := at2 p (o + 10)
  presence := at1 p (o + 12)
  plateKind := at1 p (o + 13)
  count := at1 p (o + 14)
  nextIndex := at2 p (o + 15)
  noteCode := at2 p (o + 17)
  holdSetpoint := at2 p (o + 19)
  page := pageImageAt p (o + 21)

/-- The bytes of a step record image (R216). -/
def stepImageBytes (i : StepImage) : List Byte :=
  [i.kind] ++ [i.flags] ++ bytes2 i.setpoint ++ bytes2 i.band ++ bytes2 i.duration ++ bytes2 i.limit ++ bytes2 i.coreTarget ++ [i.presence] ++ [i.plateKind] ++ [i.count] ++ bytes2 i.nextIndex ++ bytes2 i.noteCode ++ bytes2 i.holdSetpoint ++ pageImageBytes i.page

/-! ### The command index (10.4) -/

/-- What a COMMAND byte and PAYLOAD are (R205). -/
inductive Decoded
  /-- The index does not list the COMMAND byte. -/
  | unknown
  /-- The PAYLOAD has another length than the index gives. -/
  | badLength
  /-- A command of the index. -/
  | command (i : Instr)
  deriving DecidableEq, Repr

/-- A payload of `n` bytes is read, any other refused (R205). -/
def ofLength (n : Nat) (p : List Byte) (i : Instr) : Decoded :=
  if p.length = n then .command i else .badLength

/-- The command that station `x` sends with this COMMAND byte and PAYLOAD (R205, 10.4). -/
def decodeCommand (x : Station) (code : Byte) (p : List Byte) : Decoded :=
  match code.toNat with
  | 0x10 => ofLength 40 p (.writeStep x (at2 p 0) (at1 p 2) (stepImageAt p 3))
  | 0x11 => ofLength 2 p (.readStep x (at2 p 0))
  | 0x12 => ofLength 3 p (.start x (at1 p 0) (at2 p 1))
  | 0x13 => ofLength 1 p (.halt x (at1 p 0))
  | 0x14 => ofLength 1 p (.releaseHold x (at1 p 0))
  | 0x15 => ofLength 1 p (.resetChannel x (at1 p 0))
  | 0x16 => ofLength 3 p (.setChannel x (at1 p 0) (at2 p 1))
  | 0x17 => ofLength 1 p (.readChannel x (at1 p 0))
  | 0x20 => ofLength 15 p (.setLoad x (at1 p 0) { rating := at2 p 1, tripLimit := at2 p 3, check := at2 p 5, pb := at2 p 7, bias := at2 p 9, nextPeriod := at2 p 11, minOn := at2 p 13 })
  | 0x21 => ofLength 1 p (.resetLoad x (at1 p 0))
  | 0x22 => ofLength 1 p (.testCutout x (at1 p 0))
  | 0x23 => ofLength 1 p (.readLoad x (at1 p 0))
  | 0x24 => ofLength 1 p (.readProbe x (at1 p 0))
  | 0x30 => ofLength 2 p (.setCap x (at2 p 0))
  | 0x31 => ofLength 5 p (.setBudget x (at2 p 0) (at2 p 2) (at1 p 4))
  | 0x32 => ofLength 0 p (.readBudget x)
  | 0x40 => ofLength 5 p (.inventorySet x (at1 p 0) (at4 p 1))
  | 0x41 => ofLength 3 p (.returnPlates x (at1 p 0) (at2 p 1))
  | 0x42 => ofLength 3 p (.requeue x (at1 p 0) (at2 p 1))
  | 0x43 => ofLength 3 p (.discard x (at1 p 0) (at2 p 1))
  | 0x44 => ofLength 2 p (.warmerCount x (at1 p 0) (at1 p 1))
  | 0x45 => ofLength 10 p (.setWarmer x (at1 p 0) { kind := at1 p 1, capacity := at1 p 2, pitch := at1 p 3, soakTime := at2 p 4, setpoint := at2 p 6, band := at2 p 8 })
  | 0x46 => ofLength 1 p (.readPool x (at1 p 0))
  | 0x50 => ofLength 2 p (.reserve x (at1 p 0) (at1 p 1))
  | 0x51 => ofLength 3 p (.cancelReservation x (at1 p 0) (at2 p 1))
  | 0x52 => ofLength 1 p (.readReservation x (at1 p 0))
  | 0x60 => ofLength 2 p (.labelRack x (at1 p 0) (at1 p 1))
  | 0x61 => ofLength 28 p (.setDish x { rinseSetpoint := at2 p 0, washSetpoint := at2 p 2, rinseMin := at2 p 4, dwellMin := at2 p 6, dwellMax := at2 p 8, groupM := at2 p 10, mmPerPulse := at2 p 12, machineLength := at2 p 14, high := at2 p 16, low := at2 p 18, holdTime := at2 p 20, clearingRole := at1 p 22, holdMessage := at2 p 23, releaseMessage := at2 p 25, dishStation := at1 p 27 })
  | 0x62 => ofLength 2 p (.readDish x (at1 p 0) (at1 p 1))
  | 0x70 => ofLength 6 p (.setBadge x (at1 p 0) (at3 p 1) (at1 p 4) (at1 p 5))
  | 0x71 => ofLength 2 p (.badgeState x (at1 p 0) (at1 p 1))
  | 0x72 => ofLength 3 p (.assignFunction x (at1 p 0) (at2 p 1))
  | 0x73 => ofLength 1 p (.clearFunctions x (at1 p 0))
  | 0x74 => ofLength 4 p (.readBadge x (at1 p 0) (at3 p 1))
  | 0x80 => ofLength 16 p (.page x (pageImageAt p 0))
  | 0x81 => ofLength 2 p (.cancelPage x (at2 p 0))
  | 0x82 => ofLength 2 p (.readPage x (at2 p 0))
  | 0x83 => ofLength 14 p (.setPaging x { enables := #v[at1 p 0, at1 p 1, at1 p 2, at1 p 3, at1 p 4, at1 p 5], windows := #v[at2 p 6, at2 p 8, at2 p 10, at2 p 12] })
  | 0x90 => ofLength 1 p (.clearFaults x (at1 p 0))
  | 0x91 => ofLength 6 p (.setFaultMask x #v[at1 p 0, at1 p 1, at1 p 2, at1 p 3, at1 p 4, at1 p 5])
  | 0x92 => ofLength 1 p (.subscribeFaults x (at1 p 0))
  | 0x93 => ofLength 12 p (.setFaultPaging x #v[(at1 p 0, at1 p 1), (at1 p 2, at1 p 3), (at1 p 4, at1 p 5), (at1 p 6, at1 p 7), (at1 p 8, at1 p 9), (at1 p 10, at1 p 11)])
  | 0x94 => ofLength 0 p (.readFaults x)
  | 0xA0 => ofLength 0 p (.fetchNotice x)
  | 0xA1 => ofLength 5 p (.setPort x (at1 p 0) (at1 p 1) (at2 p 2) (at1 p 4))
  | 0xA2 => ofLength 1 p (.readPort x (at1 p 0))
  | _ => .unknown

/-- COMMAND and PAYLOAD of a station command (10.4); nothing for an event, which no frame carries. -/
def encodeCommand (i : Instr) : List Byte :=
  match i with
  | .writeStep _ index give image => 0x10#8 :: (bytes2 index ++ [give] ++ stepImageBytes image)
  | .readStep _ index => 0x11#8 :: (bytes2 index)
  | .start _ chan first => 0x12#8 :: ([chan] ++ bytes2 first)
  | .halt _ chan => 0x13#8 :: ([chan])
  | .releaseHold _ chan => 0x14#8 :: ([chan])
  | .resetChannel _ chan => 0x15#8 :: ([chan])
  | .setChannel _ chan fallback => 0x16#8 :: ([chan] ++ bytes2 fallback)
  | .readChannel _ chan => 0x17#8 :: ([chan])
  | .setLoad _ load image => 0x20#8 :: ([load] ++ bytes2 image.rating ++ bytes2 image.tripLimit ++ bytes2 image.check ++ bytes2 image.pb ++ bytes2 image.bias ++ bytes2 image.nextPeriod ++ bytes2 image.minOn)
  | .resetLoad _ load => 0x21#8 :: ([load])
  | .testCutout _ load => 0x22#8 :: ([load])
  | .readLoad _ load => 0x23#8 :: ([load])
  | .readProbe _ probe => 0x24#8 :: ([probe])
  | .setCap _ cap => 0x30#8 :: (bytes2 cap)
  | .setBudget _ cap unmanaged interval => 0x31#8 :: (bytes2 cap ++ bytes2 unmanaged ++ [interval])
  | .readBudget _ => 0x32#8 :: ([])
  | .inventorySet _ kind stock => 0x40#8 :: ([kind] ++ bytes4 stock)
  | .returnPlates _ kind n => 0x41#8 :: ([kind] ++ bytes2 n)
  | .requeue _ kind n => 0x42#8 :: ([kind] ++ bytes2 n)
  | .discard _ kind n => 0x43#8 :: ([kind] ++ bytes2 n)
  | .warmerCount _ warmer n => 0x44#8 :: ([warmer] ++ [n])
  | .setWarmer _ warmer image => 0x45#8 :: ([warmer] ++ [image.kind] ++ [image.capacity] ++ [image.pitch] ++ bytes2 image.soakTime ++ bytes2 image.setpoint ++ bytes2 image.band)
  | .readPool _ selector => 0x46#8 :: ([selector])
  | .reserve _ kind n => 0x50#8 :: ([kind] ++ [n])
  | .cancelReservation _ index creation => 0x51#8 :: ([index] ++ bytes2 creation)
  | .readReservation _ index => 0x52#8 :: ([index])
  | .labelRack _ kind count => 0x60#8 :: ([kind] ++ [count])
  | .setDish _ image => 0x61#8 :: (bytes2 image.rinseSetpoint ++ bytes2 image.washSetpoint ++ bytes2 image.rinseMin ++ bytes2 image.dwellMin ++ bytes2 image.dwellMax ++ bytes2 image.groupM ++ bytes2 image.mmPerPulse ++ bytes2 image.machineLength ++ bytes2 image.high ++ bytes2 image.low ++ bytes2 image.holdTime ++ [image.clearingRole] ++ bytes2 image.holdMessage ++ bytes2 image.releaseMessage ++ [image.dishStation])
  | .readDish _ selector position => 0x62#8 :: ([selector] ++ [position])
  | .setBadge _ badge address role zone => 0x70#8 :: ([badge] ++ bytes3 address ++ [role] ++ [zone])
  | .badgeState _ badge state => 0x71#8 :: ([badge] ++ [state])
  | .assignFunction _ badge function => 0x72#8 :: ([badge] ++ bytes2 function)
  | .clearFunctions _ badge => 0x73#8 :: ([badge])
  | .readBadge _ form value => 0x74#8 :: ([form] ++ bytes3 value)
  | .page _ image => 0x80#8 :: (pageImageBytes image)
  | .cancelPage _ number => 0x81#8 :: (bytes2 number)
  | .readPage _ number => 0x82#8 :: (bytes2 number)
  | .setPaging _ image => 0x83#8 :: ([image.enables[0], image.enables[1], image.enables[2], image.enables[3], image.enables[4], image.enables[5]] ++ bytes2 image.windows[0] ++ bytes2 image.windows[1] ++ bytes2 image.windows[2] ++ bytes2 image.windows[3])
  | .clearFaults _ groups => 0x90#8 :: ([groups])
  | .setFaultMask _ masks => 0x91#8 :: ([masks[0], masks[1], masks[2], masks[3], masks[4], masks[5]])
  | .subscribeFaults _ groups => 0x92#8 :: ([groups])
  | .setFaultPaging _ paging => 0x93#8 :: ([paging[0].1, paging[0].2, paging[1].1, paging[1].2, paging[2].1, paging[2].2, paging[3].1, paging[3].2, paging[4].1, paging[4].2, paging[5].1, paging[5].2])
  | .readFaults _ => 0x94#8 :: ([])
  | .fetchNotice _ => 0xA0#8 :: ([])
  | .setPort _ port short long action => 0xA1#8 :: ([port] ++ [short] ++ bytes2 long ++ [action])
  | .readPort _ port => 0xA2#8 :: ([port])
  | .deviceReset | .commandFrame _ _ _ | .byteGapExpiry _ | .responseSent _ | .shortTimerExpiry _
  | .longTimerExpiry _ | .txDone _ _ _ | .ack _ _ | .key _ _ | .unreadableBaseFrame
  | .transmissionTimerExpiry | .retryExpiry | .deadlineExpiry _ | .probeRisingEdge _ _ | .probeFallingEdge _ _
  | .captureOverflow _ | .outputTick _ | .cutoutTestCompletion _ | .verificationExpiry | .intervalExpiry
  | .encoderTransition _ _ _ | .loadSwitchChange _ _ | .soakTimerExpiry _ | .stepTimerExpiry _ | .rackEntry
  | .rackExit | .jamCheck | .conveyorPulse _ | .stallExpiry | .refreshExpiry
  | .receivedByte _ _ => []

/-- The station a command comes from; none for an event of the part's own (10.1). -/
def senderOf (i : Instr) : Option Station :=
  match i with
  | .writeStep x _ _ _ => some x
  | .readStep x _ => some x
  | .start x _ _ => some x
  | .halt x _ => some x
  | .releaseHold x _ => some x
  | .resetChannel x _ => some x
  | .setChannel x _ _ => some x
  | .readChannel x _ => some x
  | .setLoad x _ _ => some x
  | .resetLoad x _ => some x
  | .testCutout x _ => some x
  | .readLoad x _ => some x
  | .readProbe x _ => some x
  | .setCap x _ => some x
  | .setBudget x _ _ _ => some x
  | .readBudget x => some x
  | .inventorySet x _ _ => some x
  | .returnPlates x _ _ => some x
  | .requeue x _ _ => some x
  | .discard x _ _ => some x
  | .warmerCount x _ _ => some x
  | .setWarmer x _ _ => some x
  | .readPool x _ => some x
  | .reserve x _ _ => some x
  | .cancelReservation x _ _ => some x
  | .readReservation x _ => some x
  | .labelRack x _ _ => some x
  | .setDish x _ => some x
  | .readDish x _ _ => some x
  | .setBadge x _ _ _ _ => some x
  | .badgeState x _ _ => some x
  | .assignFunction x _ _ => some x
  | .clearFunctions x _ => some x
  | .readBadge x _ _ => some x
  | .page x _ => some x
  | .cancelPage x _ => some x
  | .readPage x _ => some x
  | .setPaging x _ => some x
  | .clearFaults x _ => some x
  | .setFaultMask x _ => some x
  | .subscribeFaults x _ => some x
  | .setFaultPaging x _ => some x
  | .readFaults x => some x
  | .fetchNotice x => some x
  | .setPort x _ _ _ _ => some x
  | .readPort x _ => some x
  | .deviceReset | .commandFrame _ _ _ | .byteGapExpiry _ | .responseSent _ | .shortTimerExpiry _
  | .longTimerExpiry _ | .txDone _ _ _ | .ack _ _ | .key _ _ | .unreadableBaseFrame
  | .transmissionTimerExpiry | .retryExpiry | .deadlineExpiry _ | .probeRisingEdge _ _ | .probeFallingEdge _ _
  | .captureOverflow _ | .outputTick _ | .cutoutTestCompletion _ | .verificationExpiry | .intervalExpiry
  | .encoderTransition _ _ _ | .loadSwitchChange _ _ | .soakTimerExpiry _ | .stepTimerExpiry _ | .rackEntry
  | .rackExit | .jamCheck | .conveyorPulse _ | .stallExpiry | .refreshExpiry
  | .receivedByte _ _ => none

end Sys2Proof
end

