-- ==== Sys2Proof/Machine/State.lean ====
section
/-! DEFINITION. Sys2Proof/Machine/State.lean: every record the manual gives the part, the reset values, and the reasons a step
could stop. Quantities are integers in the units of 0.5.2; none of them holds a function. -/

namespace Sys2Proof.Machine

open Sys2Proof

/-! ### Chapter 1: step store and channels -/

/-- OWNER of a step record (R1). -/
inductive Owner | station | engine
  deriving DecidableEq, Repr

/-- KIND of a step record (R1); `finish` is END. -/
inductive StepKind | heat | soak | core | waitPlates | drawPlates | call | note | finish
  deriving DecidableEq, Repr

/-- Outcomes of a step and of a chain (R29). -/
inductive StepOutcome
  | notRun | normal | early | notPosted | timeout | unanswered | short | noReservation | halted | fault
  | probeFault | linkLost | conflict | starved | skipped
  deriving DecidableEq, Repr

/-- The seven flags of a step record (R1). -/
structure StepFlags where
  link : Bool
  skip : Bool
  tolerate : Bool
  critical : Bool
  retain : Bool
  waitAck : Bool
  notify : Bool
  deriving DecidableEq, Repr

/-- The completion record (R1, R6). -/
structure Completion where
  outcome : StepOutcome
  endedAt : Nat
  elapsed : Nat
  counted : Nat
  cavityMin : Int
  cavityMax : Int
  channel : Option Chan
  deriving DecidableEq, Repr

/-- A step record (R1). -/
structure StepRec where
  owner : Owner
  claim : Option Chan
  kind : StepKind
  setpoint : Int
  band : Int
  duration : Nat
  limit : Nat
  coreTarget : Option Int
  plateKind : Byte
  count : Nat
  page : PageImage
  noteCode : Nat
  holdSetpoint : Option Int
  nextIndex : Nat
  flags : StepFlags
  completion : Completion
  deriving DecidableEq, Repr

/-- STATE of a channel (R8). -/
inductive ChanState | idle | run | hold | stopped
  deriving DecidableEq, Repr

/-- An ending record (R8). -/
structure Ending where
  channel : Chan
  lastStep : StepIx
  outcome : StepOutcome
  entered : ChanState
  endedAt : Nat
  superseded : Bool
  owedTo : Station
  deriving DecidableEq, Repr

/-- A channel record (R8), with what R19 keeps for the step in hand: its one-second timer, its cavity extremes, and
an end that waits for the first expiry because the record began again within one event. -/
structure ChanRec where
  state : ChanState
  owner : Option Station
  current : Option StepIx
  prefetched : Option StepIx
  elapsed : Nat
  counted : Nat
  reservation : Option (ResIx × Nat)
  page : Option Nat
  inForce : Int
  holdSetpoint : Int
  fallback : Int
  stacked : Option Ending
  lastEnding : Option Ending
  stepTimer : Bool
  extremes : Option (Int × Int)
  repeated : Bool
  delayedEnd : Option StepOutcome
  deriving DecidableEq, Repr

/-- The Fire Schedule Engine: step store, channels, and its two waiting sets with their LAST SERVED channels (R9). -/
structure Fse where
  steps : Vector StepRec 512
  channels : Vector ChanRec 12
  entryWaiters : List Chan
  entryServed : Chan
  placeWaiters : List Chan
  placeServed : Chan
  deriving DecidableEq, Repr

/-! ### Chapter 2: probes and loads -/

/-- The two levels of a probe line (R38). -/
inductive Level | high | low
  deriving DecidableEq, Repr

/-- LAST CONVERSION: a value marked VALID, or the mark INVALID without a value (R43). -/
inductive Conversion | valid (v : Int) | invalid
  deriving DecidableEq, Repr

/-- A probe record (R38). `settled` is STATUS; `lost` carries the STUCK LEVEL. -/
structure ProbeRec where
  lineLevel : Level
  capture : Nat
  periodOpen : Bool
  highTime : Option Nat
  stale : Nat
  window : List Int
  validRun : Nat
  invalidRun : Nat
  settled : Bool
  reading : Int
  lastConversion : Option Conversion
  lost : Option Level
  range : Bool
  deriving DecidableEq, Repr

/-- LAST TEST RESULT (R47). -/
inductive TestResult | none | pass | fail
  deriving DecidableEq, Repr

/-- The derived STATE of a load (R47). -/
inductive LoadState | testing | faulted | tripped | enabled
  deriving DecidableEq, Repr

/-- A load record (R47), with the station that a running cutout test's notice goes to (R58). -/
structure LoadRec where
  rating : Nat
  tripLimit : Int
  check : Nat
  setpoint : Int
  active : Bool
  pb : Nat
  bias : Nat
  nextPeriod : Nat
  period : Nat
  minOn : Nat
  trip : Bool
  cutoutFail : Bool
  checkFail : Bool
  testing : Bool
  lastTest : TestResult
  request : Nat
  grant : Nat
  preload : Nat
  shadow : Nat
  phase : Nat
  output : Bool
  testStation : Option Station
  deriving DecidableEq, Repr

/-- The Heat Loop Unit: probes, loads and the seconds left on the verification timer (R60). -/
structure Hlu where
  probes : Vector ProbeRec 34
  loads : Vector LoadRec 22
  verifyLeft : Nat
  deriving DecidableEq, Repr

/-! ### Chapter 3: the budget -/

/-- CAUSE of an allocation (R76). -/
inductive AllocCause | interval | cut
  deriving DecidableEq, Repr

/-- CLASS OUTCOME (R76). -/
inductive ClassOutcome | full | scaled
  deriving DecidableEq, Repr

/-- One load of an allocation record (R76); `cls` is CLASS less 1. -/
structure LoadGrant where
  installed : Bool
  cls : Fin 3
  demand : Nat
  grant : Nat
  fraction : Nat
  belowMin : Bool
  deriving DecidableEq, Repr

/-- An allocation record (R76). -/
structure Allocation where
  at_ : Nat
  cause : AllocCause
  aUsed : Nat
  pointerUsed : LoadIx
  unused : Nat
  sums : Vector Nat 3
  outcomes : Vector ClassOutcome 3
  loads : Vector LoadGrant 22
  deriving DecidableEq, Repr

/-- The budget record (R63), with the source that NO HEADROOM keeps while set (R81). -/
structure Pba where
  cap : Nat
  unmanaged : Nat
  available : Nat
  inForce : Nat
  interval : Nat
  timerLeft : Nat
  pointer : LoadIx
  count : Nat
  last : Allocation
  noHeadroom : Bool
  headroomSource : Option LoadIx
  deriving DecidableEq, Repr

/-! ### Chapters 4 and 5: pool, warmers, reservations -/

/-- A pool record (R85). -/
structure PoolRec where
  warm : Nat
  cool : Nat
  floor : Nat
  soiled : Nat
  wash : Nat
  quar : Nat
  stock : Nat
  found : Nat
  deriving DecidableEq, Repr

/-- Levels of encoder phases A and B, `true` for HIGH (R91). -/
structure Pair where
  a : Bool
  b : Bool
  deriving DecidableEq, Repr

/-- MODE of a warmer (R91). -/
inductive Mode | loading | serving
  deriving DecidableEq, Repr

/-- READINESS of a warmer (R91). -/
inductive Readiness | cold | soaking | ready
  deriving DecidableEq, Repr

/-- A warmer record (R91), with the accepted level of its load switch (R98, R107). -/
structure WarmerRec where
  kind : Kind
  capacity : Nat
  pitch : Nat
  count : Nat
  sub : Int
  pair : Pair
  errorRun : Nat
  encoderFault : Bool
  mode : Mode
  readiness : Readiness
  soakTime : Nat
  soakLeft : Nat
  setpoint : Int
  band : Int
  switchOpen : Bool
  deriving DecidableEq, Repr

/-- OWNER of a reservation (R108). -/
inductive ResOwner | channel (c : Chan) | station (x : Station)
  deriving DecidableEq, Repr

/-- STATE of a live reservation (R108). -/
inductive ResState | waiting | ready | drawing
  deriving DecidableEq, Repr

/-- A live entry of the reservation table (R108). -/
structure ResRec where
  kind : Kind
  count : Nat
  requested : Nat
  drawn : Nat
  owner : ResOwner
  state : ResState
  shortened : Bool
  creation : Nat
  createdAt : Nat
  deriving DecidableEq, Repr

/-- How a reservation ends (R120). -/
inductive ResEnd | done | short | cancelled
  deriving DecidableEq, Repr

/-- The Plate Pool Unit; a free reservation entry is `none`, and `ageList` is the AGE LIST, oldest first (R108). -/
structure Ppu where
  pools : Vector PoolRec 4
  warmers : Vector WarmerRec 8
  entries : Vector (Option ResRec) 16
  ageList : List ResIx
  nextCreation : Nat
  deriving DecidableEq, Repr

/-! ### Chapter 6: dish line -/

/-- The fifteen dish settings (R126). -/
structure DishSettings where
  rinseSetpoint : Int
  washSetpoint : Int
  rinseMin : Int
  dwellMin : Nat
  dwellMax : Nat
  groupM : Nat
  mmPerPulse : Nat
  machineLength : Nat
  high : Nat
  low : Nat
  holdTime : Nat
  clearingRole : Nat
  holdMessage : Nat
  releaseMessage : Nat
  dishStation : Station
  deriving DecidableEq, Repr

/-- A rack label (R129). -/
structure Label where
  kind : Kind
  count : Nat
  deriving DecidableEq, Repr

/-- A rack record (R130); KIND is `none` for UNLABELLED. -/
structure RackRec where
  sequence : Nat
  kind : Option Kind
  count : Nat
  enteredAt : Nat
  minRinse : Int
  rinseFault : Bool
  jam : Bool
  deriving DecidableEq, Repr

/-- The conveyor record (R139); `moving` is CONVEYOR STATE. The base counter runs while a group is open. -/
structure Conveyor where
  moving : Bool
  seen : Bool
  pulses : Nat
  groupOpen : Bool
  base : Nat
  spannedStall : Bool
  speed : Nat
  lastGroupMs : Nat
  deriving DecidableEq, Repr

/-- OWED PAGE (R143). -/
inductive Owed | none | hold | release
  deriving DecidableEq, Repr

/-- Flow control (R143); `holding` is FLOW STATE. -/
structure Flow where
  holding : Bool
  soiledTotal : Nat
  owed : Owed
  refreshLeft : Option Nat
  deriving DecidableEq, Repr

/-- The Dish Line Unit. -/
structure Dlu where
  settings : DishSettings
  labels : List Label
  racks : List RackRec
  nextSequence : Nat
  conveyor : Conveyor
  flow : Flow
  deriving DecidableEq, Repr

/-! ### Chapters 7 and 8: roster and page queue -/

/-- STATE of a badge (R150). -/
inductive BadgeState | offShift | available | onBreak
  deriving DecidableEq, Repr

/-- A badge record (R150). -/
structure BadgeRec where
  address : Option Nat
  role : Nat
  zone : Nat
  state : BadgeState
  functions : Vector Bool 64
  deriving DecidableEq, Repr

/-- The forms of a page target (R159). -/
inductive Target
  | badge (b : BadgeIx) | role (r : Nat) | zone (z : Nat) | function (f : Nat) | all
  deriving DecidableEq, Repr

/-- A target with its role qualifier (R159). -/
structure Addressee where
  target : Target
  qualifier : Option Nat
  deriving DecidableEq, Repr

/-- PRIORITY (R166). -/
inductive Priority | urgent | high | normal | low
  deriving DecidableEq, Repr

/-- ACK POLICY (R166). -/
inductive AckPolicy | any | all | none
  deriving DecidableEq, Repr

/-- ORIGINATOR (R166). -/
inductive Originator | station (x : Station) | channel (c : Chan) | dishLine | faultMonitor
  deriving DecidableEq, Repr

/-- REPORT TO (R166). -/
inductive ReportTo | channel | station | none
  deriving DecidableEq, Repr

/-- STATE of a page (R166). -/
inductive PageState | queued | sending | sent
  deriving DecidableEq, Repr

/-- Outcomes of a page (R169). -/
inductive PageOutcome | done | partial_ | unanswered | noRecipient | cancelled | displaced
  deriving DecidableEq, Repr

/-- A page record (R166); `escalated` is LEVEL 1. -/
structure PageRec where
  number : Nat
  priority : Priority
  originator : Originator
  noticeStation : Option Station
  reportTo : ReportTo
  addressee : Addressee
  escalation : Option Addressee
  message : Nat
  parameter : Nat
  ackPolicy : AckPolicy
  escalated : Bool
  state : PageState
  arrival : Nat
  sendingOrder : Nat
  recipients : List BadgeIx
  pending : List BadgeIx
  acked : List BadgeIx
  deadline : Option Nat
  submittedAt : Nat
  deriving DecidableEq, Repr

/-- An entry of the retention list (R183). -/
structure Retained where
  number : Nat
  originator : Originator
  noticeStation : Option Station
  priority : Priority
  message : Nat
  parameter : Nat
  outcome : PageOutcome
  endedAt : Nat
  unanswered : List (BadgeIx × Nat)
  deriving DecidableEq, Repr

/-- The in-flight record, with the seconds left on the transmission timer (R178). -/
structure InFlight where
  number : Nat
  badge : BadgeIx
  address : Nat
  orphaned : Bool
  left : Nat
  deriving DecidableEq, Repr

/-- A TRANSMIT frame on the paging base link (R175). -/
structure Transmit where
  number : Nat
  address : Nat
  message : Nat
  parameter : Nat
  priority : Priority
  deriving DecidableEq, Repr

/-- The Paging Unit. `retryLeft` is the retry timer, `none` when stopped; `sent` is the last TRANSMIT frame sent. -/
structure Pgu where
  badges : Vector BadgeRec 96
  enables : Vector Bool 6
  windows : Vector Nat 4
  queue : List PageRec
  retention : List Retained
  nextNumber : Nat
  order : Nat
  linkUp : Bool
  failures : Nat
  retryLeft : Option Nat
  inFlight : Option InFlight
  sent : Option Transmit
  deriving DecidableEq, Repr

/-! ### Chapter 9: the fault monitor -/

/-- The 23 fault conditions of R186, in the order of its table. -/
inductive Cond
  | probeLost | probeRange | overheat | cutoutTestFail | configCheck
  | noHeadroom | safetyShort
  | stockDrift | encoder | shorted
  | unlabelled | overfill | spuriousExit | jam | rinseLow | conveyorFast | stall
  | radioDown | urgentNotQueued | unansweredUrgent
  | slow | lost | frameError
  deriving DecidableEq, Repr

/-- A condition record (R187); ACTIVE SOURCES ascending. -/
structure CondRec where
  latched : Bool
  firstSource : Option Nat
  firstAt : Nat
  occurrences : Nat
  active : List Nat
  deriving DecidableEq, Repr

/-- The settings of a fault group (R187). -/
structure GroupRec where
  masked : Bool
  paging : Bool
  pageRole : Nat
  deriving DecidableEq, Repr

/-- The Fault Monitor; `alert` is the ALERT output. -/
structure Fm where
  conds : Vector CondRec 23
  groups : Vector GroupRec 6
  subs : Vector (Vector Bool 6) 4
  alert : Bool
  deriving DecidableEq, Repr

/-! ### Chapter 10: station ports and notices -/

/-- SOURCE KIND of a notice (R217). -/
inductive SourceKind | channel | load | reservation | dishLine | page | fault
  deriving DecidableEq, Repr

/-- CODE of a notice (R217). -/
inductive NoticeCode
  | stepNote | stepDone | ended | testResult | reservationReady | reservationRevoked | reservationEnded
  | rackQuarantined | flowHold | flowRelease | pageEnded | lateAnswer | fault
  deriving DecidableEq, Repr

/-- A notice record (R210). -/
structure Notice where
  source : SourceKind
  index : Nat
  code : NoticeCode
  p1 : Nat
  p2 : Nat
  p3 : Nat
  time : Nat
  deriving DecidableEq, Repr

/-- The notice queue of a station with its OVERFLOW flag, waiting set and LAST SERVED (R210). -/
structure NoticeQueue where
  notices : List Notice
  overflow : Bool
  waiting : List Chan
  served : Chan
  deriving DecidableEq, Repr

/-- Results of a response (R206). -/
inductive Result
  | ok | clamped | accepted | empty | busy | notOwner | badArgument | full | notFound | stepOwned | statusPending
  | unavailable | frameError | unknownCommand
  deriving DecidableEq, Repr

/-- What a response carries: its result and its payload (R205). -/
structure Response where
  result : Result
  payload : List Byte
  deriving DecidableEq, Repr

/-- The answer last given to a station: the COMMAND byte echoed, the result and the payload. -/
structure Answer where
  command : Byte
  response : Response
  deriving DecidableEq, Repr

/-- A complete frame waiting to be taken, with its checksum verdict (R204). -/
structure HeldFrame where
  body : List Byte
  valid : Bool
  deriving DecidableEq, Repr

/-- A port record (R201). `inFrame` is RECEIVER, a stopped silence timer is `none`. `answer` and `line` are what the
port gives the station: the last answer, and the response frame now being sent. -/
structure PortRec where
  inFrame : Bool
  soFar : List Byte
  outstanding : Bool
  buffered : Option HeldFrame
  attached : Bool
  shortSilence : Nat
  longSilence : Nat
  holdAction : Bool
  shortLeft : Option Nat
  longLeft : Option Nat
  slow : Bool
  lost : Bool
  lastValidAt : Nat
  answer : Option Answer
  line : List Byte
  deriving DecidableEq, Repr

/-- The Station Ports; `atn` holds the attention lines ATN0..ATN3 (R211). -/
structure Sp where
  ports : Vector PortRec 4
  queues : Vector NoticeQueue 4
  atn : Vector Bool 4
  deriving DecidableEq, Repr

/-! ### The whole part -/

/-- The levels that stand on the probe and encoder lines, which a device reset does not change and reads (R39, R92). -/
structure Pins where
  probes : Vector Level 34
  encoders : Vector Pair 8
  deriving DecidableEq, Repr

/-- The part: the service clock, its eight blocks, its field lines, and the commands and events that wait. -/
structure State where
  clock : Nat
  fse : Fse
  hlu : Hlu
  pba : Pba
  ppu : Ppu
  dlu : Dlu
  pgu : Pgu
  fm : Fm
  sp : Sp
  pins : Pins
  pending : List Instr
  deriving DecidableEq, Repr

/-- Reasons for a stop: the manual gives the part none, so no meaning of this model faults. -/
inductive Fault
  /-- Raised by no meaning: the manual tells of no event that stops the part. Safe, since it is never raised. -/
  | stopped
  deriving DecidableEq, Repr

/-- Reasons for a refusal. -/
inductive Refusal
  /-- Raised by an arm of exec whose row has no meaning yet. Safe: nothing is claimed of that row. -/
  | notModelled (mnemonic : String)
  deriving DecidableEq, Repr

/-! ### Reset values -/

/-- A page image of zeros. -/
def zeroPageImage : PageImage := ⟨0, 0, 0, 0, 0, 0, 0, 0, 0, 0, 0⟩

/-- The completion record of a record not yet run (R4, R7). -/
def Completion.fresh : Completion := ⟨.notRun, 0, 0, 0, 0, 0, none⟩

/-- A step record after reset (R7). DESIGN CHOICE (log entry 32): R7 names HOLD SETPOINT alone as absent; the model has
the other optional fields, CORE TARGET and those of the page, absent as well. -/
def StepRec.reset : StepRec where
  owner := .station
  claim := none
  kind := .finish
  setpoint := 0
  band := 0
  duration := 0
  limit := 0
  coreTarget := none
  plateKind := 0
  count := 0
  page := zeroPageImage
  noteCode := 0
  holdSetpoint := none
  nextIndex := 0
  flags := ⟨false, false, false, false, false, false, false⟩
  completion := Completion.fresh

/-- A channel record after reset (R9). -/
def ChanRec.reset : ChanRec where
  state := .idle
  owner := none
  current := none
  prefetched := none
  elapsed := 0
  counted := 0
  reservation := none
  page := none
  inForce := 0
  holdSetpoint := 0
  fallback := 650
  stacked := none
  lastEnding := none
  stepTimer := false
  extremes := none
  repeated := false
  delayedEnd := none

/-- The Fire Schedule Engine after reset (R7, R9). -/
def Fse.reset : Fse where
  steps := Vector.replicate 512 StepRec.reset
  channels := Vector.replicate 12 ChanRec.reset
  entryWaiters := []
  entryServed := 11
  placeWaiters := []
  placeServed := 11

/-- A probe record after reset, with the level its line has then (R39). -/
def ProbeRec.reset (level : Level) : ProbeRec where
  lineLevel := level
  capture := 0
  periodOpen := false
  highTime := none
  stale := 0
  window := []
  validRun := 0
  invalidRun := 0
  settled := false
  reading := 0
  lastConversion := none
  lost := none
  range := false

/-- Load Ln after reset (R48). CHECK is what R60 computes for RATING 0, TRIP LIMIT 3000 and n. -/
def LoadRec.reset (l : LoadIx) : LoadRec where
  rating := 0
  tripLimit := 3000
  check := 65535 - (8000 + 4096 * l.val) % 65536
  setpoint := 0
  active := false
  pb := 100
  bias := 0
  nextPeriod := 200
  period := 200
  minOn := 50
  trip := false
  cutoutFail := false
  checkFail := false
  testing := false
  lastTest := .none
  request := 0
  grant := 0
  preload := 0
  shadow := 0
  phase := 0
  output := false
  testStation := none

/-- A load of the empty allocation record (R64). -/
def LoadGrant.reset : LoadGrant := ⟨false, 2, 0, 0, 0, false⟩

/-- The empty allocation record (R64). -/
def Allocation.reset : Allocation where
  at_ := 0
  cause := .interval
  aUsed := 0
  pointerUsed := 0
  unused := 0
  sums := Vector.replicate 3 0
  outcomes := Vector.replicate 3 .full
  loads := Vector.replicate 22 LoadGrant.reset

/-- The budget record after reset (R64). -/
def Pba.reset : Pba where
  cap := 0
  unmanaged := 0
  available := 0
  inForce := 0
  interval := 2
  timerLeft := 2
  pointer := 0
  count := 0
  last := Allocation.reset
  noHeadroom := false
  headroomSource := none

/-- A pool record after reset (R86). -/
def PoolRec.reset : PoolRec := ⟨0, 0, 0, 0, 0, 0, 0, 0⟩

/-- A warmer record after reset, with the phase levels present then (R92). -/
def WarmerRec.reset (pair : Pair) : WarmerRec where
  kind := 0
  capacity := 0
  pitch := 8
  count := 0
  sub := 0
  pair := pair
  errorRun := 0
  encoderFault := false
  mode := .loading
  readiness := .cold
  soakTime := 300
  soakLeft := 0
  setpoint := 800
  band := 50
  switchOpen := false

/-- The dish settings after reset (R126). -/
def DishSettings.reset : DishSettings where
  rinseSetpoint := 0
  washSetpoint := 0
  rinseMin := 820
  dwellMin := 20
  dwellMax := 180
  groupM := 16
  mmPerPulse := 25
  machineLength := 3000
  high := 400
  low := 200
  holdTime := 300
  clearingRole := 0
  holdMessage := 1
  releaseMessage := 2
  dishStation := 1

/-- The conveyor record after reset (R139). -/
def Conveyor.reset : Conveyor := ⟨false, false, 0, false, 0, false, 0, 0⟩

/-- The Dish Line Unit after reset (R126, R129, R130, R139, R143). -/
def Dlu.reset : Dlu where
  settings := DishSettings.reset
  labels := []
  racks := []
  nextSequence := 0
  conveyor := Conveyor.reset
  flow := ⟨false, 0, .none, none⟩

/-- A badge record after reset (R151). -/
def BadgeRec.reset : BadgeRec := ⟨none, 0, 0, .offShift, Vector.replicate 64 false⟩

/-- The Paging Unit after reset (R151, R168, R180). -/
def Pgu.reset : Pgu where
  badges := Vector.replicate 96 BadgeRec.reset
  enables := Vector.replicate 6 true
  windows := #v[30, 60, 120, 300]
  queue := []
  retention := []
  nextNumber := 0
  order := 0
  linkUp := true
  failures := 0
  retryLeft := none
  inFlight := none
  sent := none

/-- A condition record after reset (R188). -/
def CondRec.reset : CondRec := ⟨false, none, 0, 0, []⟩

/-- The Fault Monitor after reset (R188). -/
def Fm.reset : Fm where
  conds := Vector.replicate 23 CondRec.reset
  groups := Vector.replicate 6 ⟨false, false, 0⟩
  subs := Vector.replicate 4 (Vector.replicate 6 false)
  alert := false

/-- A port record after reset (R201). -/
def PortRec.reset : PortRec where
  inFrame := false
  soFar := []
  outstanding := false
  buffered := none
  attached := false
  shortSilence := 15
  longSilence := 120
  holdAction := false
  shortLeft := none
  longLeft := none
  slow := false
  lost := false
  lastValidAt := 0
  answer := none
  line := []

/-- A notice queue after reset (R210). -/
def NoticeQueue.reset : NoticeQueue := ⟨[], false, [], 11⟩

/-- The Station Ports after reset (R201, R210). -/
def Sp.reset : Sp where
  ports := Vector.replicate 4 PortRec.reset
  queues := Vector.replicate 4 NoticeQueue.reset
  atn := Vector.replicate 4 false

/-- The levels on the field lines before any event is known. DESIGN CHOICE (log entry 4): every probe line and phase
line is low. -/
def Pins.reset : Pins where
  probes := Vector.replicate 34 .low
  encoders := Vector.replicate 8 ⟨false, false⟩

/-- The part right after a device reset, with the given levels on its field lines. -/
def State.resetWith (pins : Pins) : State where
  clock := 0
  fse := Fse.reset
  hlu :=
    { probes := table (fun p => ProbeRec.reset pins.probes[p])
      loads :=
        let loads := table LoadRec.reset
        -- R94: the warmer setpoints are handed after a device reset, no warmer being installed.
        table (fun l => if 12 ≤ l.val ∧ l.val < 20 then { loads[l] with setpoint := 800 } else loads[l])
      verifyLeft := 10 }
  pba := Pba.reset
  ppu :=
    { pools := Vector.replicate 4 PoolRec.reset
      warmers := table (fun w => WarmerRec.reset pins.encoders[w])
      entries := Vector.replicate 16 none
      ageList := []
      nextCreation := 0 }
  dlu := Dlu.reset
  pgu := Pgu.reset
  fm := Fm.reset
  sp := Sp.reset
  pins := pins
  pending := []

/-- The machine right after reset. -/
def State.reset : State := State.resetWith Pins.reset

end Sys2Proof.Machine
end

