-- ==== Sys2Proof/Machine/Codec.lean ====
section
/-! DEFINITION. Sys2Proof/Machine/Codec.lean: the codes and encodings of R203 and R214 to R218 that responses are written with. -/

namespace Sys2Proof.Machine

open Sys2Proof

/-! ### Numbers (R214, R215) -/

def u8 (n : Nat) : List Byte := [BitVec.ofNat 8 n]
def u16 (n : Nat) : List Byte := bytes2 (BitVec.ofNat 16 n)
def u24 (n : Nat) : List Byte := bytes3 (BitVec.ofNat 24 n)
def u32 (n : Nat) : List Byte := bytes4 (BitVec.ofNat 32 n)
def s8 (v : Int) : List Byte := [BitVec.ofInt 8 v]
def s16 (v : Int) : List Byte := bytes2 (BitVec.ofInt 16 v)

/-- A yes-or-no, set-or-clear or present-or-absent mark (R215). -/
def mark (b : Bool) : List Byte := u8 (if b then 1 else 0)

/-- An enumerated field of two values whose first listed value stands while `first` holds: 0 for that one, 1 for the
other (R215). -/
def listed (first : Bool) : List Byte := u8 (if first then 0 else 1)

/-- An index that may be none, in one byte (R214). -/
def opt8 (o : Option Nat) : List Byte := u8 (o.getD 255)
/-- An index that may be none, in two bytes (R214). -/
def opt16 (o : Option Nat) : List Byte := u16 (o.getD 65535)

/-- Any other optional field: a presence byte and the field, whose bytes are 0 when it is absent (R215). -/
def optional {α : Type} (zero : α) (enc : α → List Byte) (o : Option α) : List Byte :=
  mark o.isSome ++ match o with
    | some v => enc v
    | none => (enc zero).map (fun _ => 0)

/-- A list or set: a one-byte count and its members (R215). -/
def counted {α : Type} (enc : α → List Byte) (l : List α) : List Byte :=
  u8 l.length ++ (l.map enc).flatten

/-- The byte whose bit `k` is the entry `8 * o + k` of a set of numbered entries (R215). -/
def mapByte (v : Vector Bool 64) (o : Fin 8) : Byte :=
  BitVec.ofNat 8 ((List.finRange 8).foldl
    (fun n k => n + if v[(⟨8 * o.val + k.val, by omega⟩ : Fin 64)] then 2 ^ k.val else 0) 0)

/-- FUNCTION SET as a bit map, entry 0 in bit 0 of the last byte (R215). -/
def bitMap (v : Vector Bool 64) : List Byte := (List.finRange 8).map (fun o => mapByte v o.rev)

/-! ### Codes (R214, R215, R217) -/

def Owner.code : Owner → Nat
  | .station => 0 | .engine => 1

def StepKind.code : StepKind → Nat
  | .heat => 0 | .soak => 1 | .core => 2 | .waitPlates => 3 | .drawPlates => 4 | .call => 5 | .note => 6 | .finish => 7

/-- KIND from its byte; a byte above 7 is none of the eight (R216). -/
def StepKind.ofCode (b : Byte) : Option StepKind :=
  match b.toNat with
  | 0 => some .heat | 1 => some .soak | 2 => some .core | 3 => some .waitPlates | 4 => some .drawPlates
  | 5 => some .call | 6 => some .note | 7 => some .finish | _ => none

def StepOutcome.code : StepOutcome → Nat
  | .notRun => 0 | .normal => 1 | .early => 2 | .notPosted => 3 | .timeout => 4 | .unanswered => 5 | .short => 6
  | .noReservation => 7 | .halted => 8 | .fault => 9 | .probeFault => 10 | .linkLost => 11 | .conflict => 12
  | .starved => 13 | .skipped => 14

def ChanState.code : ChanState → Nat
  | .idle => 0 | .run => 1 | .hold => 2 | .stopped => 3

def Level.code : Level → Nat
  | .high => 0 | .low => 1

def TestResult.code : TestResult → Nat
  | .none => 0 | .pass => 1 | .fail => 2

def LoadState.code : LoadState → Nat
  | .testing => 0 | .faulted => 1 | .tripped => 2 | .enabled => 3

def AllocCause.code : AllocCause → Nat
  | .interval => 0 | .cut => 1

def ClassOutcome.code : ClassOutcome → Nat
  | .full => 0 | .scaled => 1

def Mode.code : Mode → Nat
  | .loading => 0 | .serving => 1

def Readiness.code : Readiness → Nat
  | .cold => 0 | .soaking => 1 | .ready => 2

/-- OWNER of a reservation: the channels, then the stations (R108, R215). -/
def ResOwner.code : ResOwner → Nat
  | .channel c => c.val | .station x => 12 + x.val

def ResState.code : ResState → Nat
  | .waiting => 0 | .ready => 1 | .drawing => 2

/-- The code of STATE FREE of READ RESERVATION, next after the states of a live entry (R125, R215). -/
def freeCode : Nat := 3

def ResEnd.code : ResEnd → Nat
  | .done => 0 | .short => 1 | .cancelled => 2

def Owed.code : Owed → Nat
  | .none => 0 | .hold => 1 | .release => 2

def BadgeState.code : BadgeState → Nat
  | .offShift => 0 | .available => 1 | .onBreak => 2

def Priority.code : Priority → Nat
  | .urgent => 0 | .high => 1 | .normal => 2 | .low => 3

def AckPolicy.code : AckPolicy → Nat
  | .any => 0 | .all => 1 | .none => 2

/-- TARGET FORM (R218). -/
def Target.form : Target → Nat
  | .badge _ => 0 | .role _ => 1 | .zone _ => 2 | .function _ => 3 | .all => 4

/-- TARGET VALUE (R218). -/
def Target.value : Target → Nat
  | .badge b => b.val | .role r => r | .zone z => z | .function f => f | .all => 0

/-- ORIGINATOR: stations, channels, DISH LINE, FAULT MONITOR (R166, R215). -/
def Originator.code : Originator → Nat
  | .station x => x.val | .channel c => 4 + c.val | .dishLine => 16 | .faultMonitor => 17

def ReportTo.code : ReportTo → Nat
  | .channel => 0 | .station => 1 | .none => 2

def PageState.code : PageState → Nat
  | .queued => 0 | .sending => 1 | .sent => 2

def PageOutcome.code : PageOutcome → Nat
  | .done => 0 | .partial_ => 1 | .unanswered => 2 | .noRecipient => 3 | .cancelled => 4 | .displaced => 5

def SourceKind.code : SourceKind → Nat
  | .channel => 0 | .load => 1 | .reservation => 2 | .dishLine => 3 | .page => 4 | .fault => 5

def NoticeCode.code : NoticeCode → Nat
  | .stepNote => 1 | .stepDone => 2 | .ended => 3 | .testResult => 4 | .reservationReady => 5
  | .reservationRevoked => 6 | .reservationEnded => 7 | .rackQuarantined => 8 | .flowHold => 9 | .flowRelease => 10
  | .pageEnded => 11 | .lateAnswer => 12 | .fault => 13

def Result.code : Result → Nat
  | .ok => 0x00 | .clamped => 0x01 | .accepted => 0x02 | .empty => 0x03 | .busy => 0x10 | .notOwner => 0x11
  | .badArgument => 0x12 | .full => 0x13 | .notFound => 0x14 | .stepOwned => 0x15 | .statusPending => 0x16
  | .unavailable => 0x17 | .frameError => 0x20 | .unknownCommand => 0x21

/-! ### Frames (R203, R214) -/

/-- Bytes taken two at a time as 16-bit words, an odd last byte paired with a zero byte (R203). -/
def wordsOf : List Byte → List Nat
  | [] => []
  | [a] => [a.toNat * 256]
  | a :: b :: rest => (a.toNat * 256 + b.toNat) :: wordsOf rest

/-- Ones' complement addition of two 16-bit words: a carry out of the top is added back into the bottom (R203). -/
def onesAdd (s w : Nat) : Nat := if 65536 ≤ s + w then s + w - 65535 else s + w

/-- The check value over some bytes: their folded sum, inverted (R203). -/
def checkValue (l : List Byte) : Nat := 65535 - (wordsOf l).foldl onesAdd 0

/-- The check value of a command frame with this COMMAND and PAYLOAD, formed from LENGTH on (R203). -/
def frameCheck (body : List Byte) : BitVec 16 := BitVec.ofNat 16 (checkValue (u8 body.length ++ body))

/-- A response frame on the line (R214). -/
def responseFrame (a : Answer) : List Byte :=
  let content := u16 (a.response.payload.length + 2) ++ [a.command] ++ u8 a.response.result.code ++ a.response.payload
  0x5A#8 :: content ++ u16 (checkValue content)

/-- The 14-byte notice record (R217). -/
def Notice.bytes (n : Notice) : List Byte :=
  u8 n.source.code ++ u16 n.index ++ u8 n.code.code ++ u16 n.p1 ++ u16 n.p2 ++ u16 n.p3 ++ u32 n.time

/-- The 11-byte ending record (R217). -/
def Ending.bytes (n : Ending) : List Byte :=
  u8 n.channel.val ++ u16 n.lastStep.val ++ u8 n.outcome.code ++ u8 n.entered.code ++ u32 n.endedAt
    ++ mark n.superseded ++ u8 n.owedTo.val

end Sys2Proof.Machine
end

