-- ==== Sys2Proof/Machine/Operands.lean ====
section
/-! DEFINITION. Sys2Proof/Machine/Operands.lean: how the fields a command carries are judged: an index or an enumerated value in its
range, a number brought to its range, a page submission with its structural checks (R206, R159, R170, R218). -/

namespace Sys2Proof.Machine

open Sys2Proof

/-- An index that names one of `n` objects; none where it is out of range. -/
def index (n v : Nat) : Option (Fin n) := if h : v < n then some ⟨v, h⟩ else none

/-- A number brought to the nearest bound of its range (R206). -/
def clampNat (lo hi v : Nat) : Nat := if v < lo then lo else if hi < v then hi else v

/-- A signed number brought to the nearest bound of its range (R206). -/
def clampInt (lo hi v : Int) : Int := if v < lo then lo else if hi < v then hi else v

/-- A temperature field as carried: two's complement (R214). -/
def dC (v : BitVec 16) : Int := v.toInt

/-- OK, or CLAMPED where a field was brought to a bound (R206). -/
def taken (clamped : Bool) : Result := if clamped then .clamped else .ok

/-- A refused command: its result and an empty payload (R205). -/
def refuse (r : Result) : Response := ⟨r, []⟩

/-- An enumerated byte of two values (R206, 10.4). -/
def twoValued (b : Byte) : Option Bool := if b = 0 then some false else if b = 1 then some true else none

/-- A group set of one byte, none where it names a group above 5 (10.4). -/
def groupSet (b : Byte) : Option (Vector Bool 6) :=
  if b.toNat < 64 then some (table fun g => b.getLsbD g.val) else none

/-! ### Page submissions -/

/-- What a submission carries (R170). -/
structure Submission where
  priority : Priority
  addressee : Addressee
  escalation : Option Addressee
  message : Nat
  parameter : Nat
  ackPolicy : AckPolicy
  deriving DecidableEq, Repr

def Priority.ofCode (b : Byte) : Option Priority :=
  match b.toNat with
  | 0 => some .urgent | 1 => some .high | 2 => some .normal | 3 => some .low | _ => none

def AckPolicy.ofCode (b : Byte) : Option AckPolicy :=
  match b.toNat with
  | 0 => some .any | 1 => some .all | 2 => some .none | _ => Option.none

/-- A target of the given form, its value read by the form: badge, role or zone in the low byte, a function number in
both (R218). None for a structural error of R159. -/
def targetOf (form : Byte) (value : BitVec 16) : Option Target :=
  match form.toNat with
  | 0 => (index 96 (value.toNat % 256)).map .badge
  | 1 => some (.role (value.toNat % 256))
  | 2 => if value.toNat % 256 ≤ 15 then some (.zone (value.toNat % 256)) else none
  | 3 => some (.function value.toNat)
  | 4 => some .all
  | _ => none

/-- Whether a form allows a role qualifier (R159). -/
def Target.qualifiable : Target → Bool
  | .zone _ => true
  | .function _ => true
  | .badge _ => false
  | .role _ => false
  | .all => false

/-- A target with its qualifier, none for a structural error (R159). -/
def addresseeOf (form : Byte) (value : BitVec 16) (qualified : Bool) (qualifier : Byte) : Option Addressee :=
  match targetOf form value with
  | none => none
  | some t =>
    if qualified then
      if t.qualifiable then some ⟨t, some qualifier.toNat⟩ else none
    else some ⟨t, none⟩

/-- The escalation target of a payload: none where it has a structural error, and otherwise the target or its absence.
An ESCALATION FORM that is not 0 while its PRESENCE bit is clear is an error (R218). An escalation qualifier without
an escalation target stands with form 0, which allows none. -/
def escalationOf (i : PageImage) : Option (Option Addressee) :=
  if i.presence.getLsbD 1 then
    (addresseeOf i.escForm i.escValue (i.presence.getLsbD 2) i.escQualifier).map some
  else if i.escForm = 0 ∧ i.presence.getLsbD 2 = false then some none
  else none

/-- A page submission, none where it has a structural error (R159, R170, R218). -/
def submissionOf (i : PageImage) : Option Submission :=
  match Priority.ofCode i.priority, AckPolicy.ofCode i.ackPolicy,
      addresseeOf i.form i.value (i.presence.getLsbD 0) i.qualifier, escalationOf i with
  | some priority, some policy, some addressee, some escalation =>
    some { priority := priority, addressee := addressee, escalation := escalation, message := i.message.toNat,
           parameter := i.parameter.toNat, ackPolicy := policy }
  | _, _, _, _ => none

end Sys2Proof.Machine
end

