-- ==== Sys2Proof/Machine/Ops.lean ====
section
/-! DEFINITION. Sys2Proof/Machine/Ops.lean: an event in progress, the reports that reach the Fire Schedule Engine within it (0.3),
the named updates of the blocks' records, and the notice queues (R210, R211). -/

namespace Sys2Proof.Machine

open Sys2Proof

/-- What the other blocks hand the Fire Schedule Engine (0.3), and the engine's own move to a next record (R32). -/
inductive Report
  /-- The channel moves on to this record (R32). -/
  | moveOn (c : Chan) (next : Option StepIx)
  /-- A reading update of the cavity probe (R44). -/
  | cavityReading (c : Chan)
  /-- A reading update of the core probe (R44). -/
  | coreReading (c : Chan)
  /-- The cavity probe entered a fault, the oven load became TRIPPED or FAULTED, or its RATING was set to 0 (R17). -/
  | ovenFault (c : Chan)
  /-- The core probe entered a fault (R17). -/
  | coreFault (c : Chan)
  /-- An entry owned by the channel became READY (R124). -/
  | entryReady (c : Chan) (r : ResIx) (creation : Nat)
  /-- An entry owned by the channel ended DONE, or SHORT (R124). -/
  | entryEnded (c : Chan) (r : ResIx) (creation : Nat) (short : Bool)
  /-- A reservation entry has become free (R120). -/
  | entryFree
  /-- A page whose REPORT TO is the channel has ended (R169). -/
  | pageEnded (c : Chan) (number : Nat) (outcome : PageOutcome)
  /-- A page queue place has become free (R169). -/
  | placeFree
  /-- The station has reached its LONG SILENCE with ACTION HOLD (R18). -/
  | linkLost (c : Chan) (x : Station)
  deriving DecidableEq, Repr

/-- An event in progress: the state so far, the reports handed to the Fire Schedule Engine and not yet taken, the
records each channel has begun within the event, and the channels that have begun one of them again (R19). -/
structure Ev where
  s : State
  work : List Report
  begun : List (Chan × StepIx)
  again : List Chan
  deriving DecidableEq, Repr

/-- An event opens on a state with nothing handed on. -/
def Ev.start (s : State) : Ev := ⟨s, [], [], []⟩

/-- A change of the state within the event. -/
def Ev.on (f : State → State) (e : Ev) : Ev := { e with s := f e.s }

/-- A report is handed to the Fire Schedule Engine, after those handed before it. -/
def Ev.hand (r : Report) (e : Ev) : Ev := { e with work := e.work ++ [r] }

/-- The engine's own next act, taken before any report that waits. -/
def Ev.handFirst (r : Report) (e : Ev) : Ev := { e with work := r :: e.work }

/-! ### Updates of single records -/

def State.setStep (i : StepIx) (r : StepRec) (s : State) : State :=
  { s with fse := { s.fse with steps := s.fse.steps.set i r } }

def State.setChan (c : Chan) (r : ChanRec) (s : State) : State :=
  { s with fse := { s.fse with channels := s.fse.channels.set c r } }

def State.setProbe (p : ProbeIx) (r : ProbeRec) (s : State) : State :=
  { s with hlu := { s.hlu with probes := s.hlu.probes.set p r } }

def State.setLoad (l : LoadIx) (r : LoadRec) (s : State) : State :=
  { s with hlu := { s.hlu with loads := s.hlu.loads.set l r } }

def State.setPba (b : Pba) (s : State) : State := { s with pba := b }

def State.setPool (k : Kind) (r : PoolRec) (s : State) : State :=
  { s with ppu := { s.ppu with pools := s.ppu.pools.set k r } }

def State.setWarmer (w : WarmerIx) (r : WarmerRec) (s : State) : State :=
  { s with ppu := { s.ppu with warmers := s.ppu.warmers.set w r } }

def State.setEntry (i : ResIx) (r : Option ResRec) (s : State) : State :=
  { s with ppu := { s.ppu with entries := s.ppu.entries.set i r } }

def State.setDlu (d : Dlu) (s : State) : State := { s with dlu := d }

def State.setConveyor (c : Conveyor) (s : State) : State := { s with dlu := { s.dlu with conveyor := c } }

def State.setFlow (f : Flow) (s : State) : State := { s with dlu := { s.dlu with flow := f } }

def State.setRacks (l : List RackRec) (s : State) : State := { s with dlu := { s.dlu with racks := l } }

def State.setPgu (p : Pgu) (s : State) : State := { s with pgu := p }

def State.setFm (f : Fm) (s : State) : State := { s with fm := f }

def State.setPort (x : Station) (r : PortRec) (s : State) : State :=
  { s with sp := { s.sp with ports := s.sp.ports.set x r } }

/-- A notice queue changes, and with it, within the event, the level of its ATN line (R211). -/
def State.setQueue (x : Station) (q : NoticeQueue) (s : State) : State :=
  { s with sp := { s.sp with queues := s.sp.queues.set x q, atn := s.sp.atn.set x (!q.notices.isEmpty) } }

/-! ### Notices (R210) -/

/-- Whether the notice queue of a station has room (R210). -/
def State.noticeRoom (x : Station) (s : State) : Bool := decide (s.sp.queues[x].notices.length < Config.noticeRoom)

/-- A droppable notice is appended, or dropped with OVERFLOW set where the queue is full (R210). -/
def State.postNotice (x : Station) (n : Notice) (s : State) : State :=
  let q := s.sp.queues[x]
  if s.noticeRoom x then s.setQueue x { q with notices := q.notices ++ [n] }
  else s.setQueue x { q with overflow := true }

/-- A notice of the source, code and parameters given, timed by the service clock. -/
def State.notice (source : SourceKind) (index : Nat) (code : NoticeCode) (p1 p2 p3 : Nat) (s : State) : Notice :=
  ⟨source, index, code, p1, p2, p3, s.clock⟩

/-! ### Small list and clock operations -/

/-- Seconds from one service clock value to a later one of a 32-bit count (0.5.2). -/
def secondsSince (earlier now : Nat) : Nat := (now + Config.clockSpan - earlier) % Config.clockSpan

/-- The service clock some seconds on. -/
def clockAfter (now seconds : Nat) : Nat := (now + seconds) % Config.clockSpan

/-- The first element of a list in the order `before`. -/
def pickFirst {α : Type} (before : α → α → Bool) : List α → Option α
  | [] => none
  | a :: l => some (l.foldl (fun best x => if before x best then x else best) a)

/-- An element put in its place in a list ordered by `before`, after those it does not precede. -/
def insertBy {α : Type} (before : α → α → Bool) (x : α) : List α → List α
  | [] => [x]
  | a :: l => if before x a then x :: a :: l else a :: insertBy before x l

/-- A list put in the order `before`. -/
def sortBy {α : Type} (before : α → α → Bool) (l : List α) : List α := l.foldl (fun acc x => insertBy before x acc) []

/-- The channels in rotation from the one after `served`, C11 followed by C0 (R24, R213). -/
def rotation (served : Chan) : List Chan := (List.finRange 12).map (fun k => served + 1 + k)

/-- The channel of a waiting set that is served next (R24, R213). -/
def nextServed (served : Chan) (waiting : List Chan) : Option Chan :=
  (rotation served).find? (fun c => waiting.contains c)

end Sys2Proof.Machine
end

