-- ==== Sys2Proof/Machine/Paging.lean ====
section
/-! DEFINITION. Sys2Proof/Machine/Paging.lean: the page queue (chapter 8) and the eligibility chain (chapter 7): numbering, ending,
evaluation, selection, transmission and the four kinds of submission. -/

namespace Sys2Proof.Machine

open Sys2Proof

/-! ### Order and numbers (R166 to R168) -/

/-- How an order value stands against the present counter: the older, the lower (R166). -/
def orderAge (counter order : Nat) : Nat := (order + 65536 - counter) % 65536

/-- QUEUED pages: higher PRIORITY first, then older ARRIVAL ORDER (R168). -/
def PageRec.queuedBefore (counter : Nat) (p q : PageRec) : Bool :=
  decide (p.priority.code < q.priority.code)
    || (decide (p.priority = q.priority) && decide (orderAge counter p.arrival < orderAge counter q.arrival))

/-- SENDING pages: higher PRIORITY first, then older SENDING ORDER (R176). -/
def PageRec.sendingBefore (counter : Nat) (p q : PageRec) : Bool :=
  decide (p.priority.code < q.priority.code)
    || (decide (p.priority = q.priority) && decide (orderAge counter p.sendingOrder < orderAge counter q.sendingOrder))

def Pgu.inState (st : PageState) (g : Pgu) : List PageRec := g.queue.filter (fun p => decide (p.state = st))

/-- The head of the queue (R168). -/
def Pgu.head (g : Pgu) : Option PageRec := pickFirst (PageRec.queuedBefore g.order) (g.inState .queued)

/-- The foremost SENDING page (R176). -/
def Pgu.foremost (g : Pgu) : Option PageRec := pickFirst (PageRec.sendingBefore g.order) (g.inState .sending)

/-- The page in the queue that holds a number. -/
def Pgu.find (g : Pgu) (n : Nat) : Option PageRec := g.queue.find? (fun p => decide (p.number = n))

/-- Whether a number is held in the queue or the retention list (R167). -/
def Pgu.numberHeld (g : Pgu) (n : Nat) : Bool :=
  g.queue.any (fun p => decide (p.number = n)) || g.retention.any (fun r => decide (r.number = n))

/-- The first number from `n` on, wrapping from 255 to 0, that is not held; `tries` numbers are looked at (R167). -/
def Pgu.freeNumber (g : Pgu) : Nat → Nat → Nat
  | 0, n => n
  | tries + 1, n => if g.numberHeld n then g.freeNumber tries ((n + 1) % 256) else n

/-- The next value of the order counter, and the counter raised by its use (R166). -/
def Pgu.bump (g : Pgu) : Pgu := { g with order := (g.order + 1) % 65536 }

/-- Every page holding number `n` is changed by `f`; numbers are distinct (R168). -/
def Pgu.change (n : Nat) (f : PageRec → PageRec) (g : Pgu) : Pgu :=
  { g with queue := g.queue.map (fun p => if p.number = n then f p else p) }

/-! ### The eligibility chain (R155, R157, R162, R163) -/

/-- The function hash index (R155). -/
def hashIndex (f : Nat) : Fin 64 :=
  let v := BitVec.ofNat 16 f
  ⟨(v ^^^ (v >>> 6) ^^^ (v >>> 12)).toNat % 64, Nat.mod_lt _ (by decide)⟩

/-- Whether a page engages a badge (R157). -/
def PageRec.engages (b : BadgeIx) (p : PageRec) : Bool :=
  (decide (p.state = .sending) || decide (p.state = .sent)) && decide (p.ackPolicy ≠ .none)
    && p.recipients.contains b && !p.pending.contains b && !p.acked.contains b

/-- The pages that engage a badge (R157). -/
def Pgu.engaging (g : Pgu) (b : BadgeIx) : List PageRec := g.queue.filter (PageRec.engages b)

/-- ENGAGED (R157). -/
def Pgu.engaged (g : Pgu) (b : BadgeIx) : Bool := g.queue.any (PageRec.engages b)

/-- A badge meets a role qualifier where there is one (R163). -/
def BadgeRec.meets (q : Option Nat) (r : BadgeRec) : Bool :=
  match q with
  | none => true
  | some role => decide (r.role = role)

/-- The eligibility chain for one badge: whether it is accepted (R162). -/
def Pgu.accepts (g : Pgu) (priority : Priority) (t : Addressee) (b : BadgeIx) : Bool :=
  let r := g.badges[b]
  if r.state = .offShift then false
  else if t.target = .badge b then true
  else if g.enables[0] ∧ r.state = .onBreak ∧ priority ≠ .urgent then false
  else if g.enables[1] ∧ g.engaged b ∧ priority ≠ .urgent ∧ t.target ≠ .all then false
  else match t.target with
    | .badge _ => false
    | .role role => g.enables[2] && decide (r.role = role)
    | .zone z => g.enables[3] && decide (r.zone = z) && r.meets t.qualifier
    | .function f => g.enables[4] && r.functions[hashIndex f] && r.meets t.qualifier
    | .all => g.enables[5]

/-- The accepted badges in index order (R161). -/
def Pgu.accepted (g : Pgu) (priority : Priority) (t : Addressee) : List BadgeIx :=
  (List.finRange 96).filter (g.accepts priority t)

/-! ### Ending a page (R169, R183) -/

/-- The retention entry of a page (R183). -/
def Pgu.retained (g : Pgu) (p : PageRec) (outcome : PageOutcome) (now : Nat) : Retained where
  number := p.number
  originator := p.originator
  noticeStation := p.noticeStation
  priority := p.priority
  message := p.message
  parameter := p.parameter
  outcome := outcome
  endedAt := now
  unanswered := (p.recipients.filter (fun b => !p.pending.contains b && !p.acked.contains b)).map
    (fun b => (b, (g.badges[b]).address.getD 0))

/-- An entry enters the retention list, the oldest leaving a full one (R183). -/
def Pgu.retain (g : Pgu) (r : Retained) : Pgu :=
  { g with retention := (if Config.retentionRoom ≤ g.retention.length then g.retention.drop 1 else g.retention) ++ [r] }

/-- The page leaves the queue, its transmission in flight is orphaned, and an UNANSWERED or PARTIAL page is retained:
steps 1 to 3 of R169. -/
def Pgu.leave (g : Pgu) (p : PageRec) (outcome : PageOutcome) (now : Nat) : Pgu :=
  let g1 : Pgu :=
    { g with
      queue := g.queue.filter (fun q => decide (q.number ≠ p.number))
      inFlight := g.inFlight.map (fun f => if f.number = p.number ∧ f.orphaned = false then { f with orphaned := true } else f) }
  if outcome = .unanswered ∨ outcome = .partial_ then g1.retain (g.retained p outcome now) else g1

/-- The end is reported by REPORT TO, unless the party it would be reported to asked for it, and a free place is
reported: steps 5 and 6 of R169. -/
def Ev.reportPageEnd (p : PageRec) (outcome : PageOutcome) (tell : Bool) (e : Ev) : Ev :=
  let e1 :=
    if tell then
      match p.reportTo, p.originator, p.noticeStation with
      | .channel, .channel c, _ => e.hand (.pageEnded c p.number outcome)
      | .station, _, some x =>
        e.on (fun s => s.postNotice x (s.notice .page p.number .pageEnded outcome.code p.acked.length p.recipients.length))
      | _, _, _ => e
    else e
  e1.hand .placeFree

/-- A page ends with an outcome that raises no fault (R169). -/
def Ev.endPage (p : PageRec) (outcome : PageOutcome) (tell : Bool) (e : Ev) : Ev :=
  (e.on (fun s => s.setPgu (s.pgu.leave p outcome s.clock))).reportPageEnd p outcome tell

/-! ### What becomes of a page after an evaluation or a transmission (R177, R178, R180) -/

/-- The page is QUEUED again at LEVEL 1 with the next ARRIVAL ORDER (R177, R182). -/
def Ev.requeue (p : PageRec) (e : Ev) : Ev :=
  e.on (fun s => s.setPgu ((s.pgu.change p.number (fun q =>
    { q with escalated := true, state := .queued, arrival := s.pgu.order, deadline := none })).bump))

/-- A page without recipients escalates where it can, and otherwise ends NO RECIPIENT (R177). -/
def Ev.withoutRecipient (p : PageRec) (e : Ev) : Ev :=
  if p.escalated = false ∧ p.escalation.isSome then e.requeue p else e.endPage p .noRecipient true

/-- The acknowledgement window of a priority (R180). -/
def Pgu.window (g : Pgu) (p : Priority) : Nat :=
  match p with
  | .urgent => g.windows[0]
  | .high => g.windows[1]
  | .normal => g.windows[2]
  | .low => g.windows[3]

/-- A page becomes SENT, or ends DONE under ACK POLICY NONE (R180). -/
def Ev.becomeSent (p : PageRec) (e : Ev) : Ev :=
  if p.ackPolicy = .none then e.endPage p .done true
  else e.on (fun s => s.setPgu (s.pgu.change p.number (fun q =>
    { q with state := .sent, deadline := some (clockAfter s.clock (s.pgu.window p.priority)) })))

/-- The table of R177 for a SENDING page whose recipients have changed. -/
def Ev.settlePage (p : PageRec) (e : Ev) : Ev :=
  if p.recipients = [] then e.withoutRecipient p
  else if p.pending = [] then e.becomeSent p
  else e

/-! ### Selection (R176, R178) -/

/-- The head becomes SENDING and the accepted set is handed to it (R161, R176, R177). -/
def Ev.selectHead (h : PageRec) (e : Ev) : Ev :=
  let g := e.s.pgu
  let accepted := g.accepted h.priority (match h.escalated, h.escalation with
    | true, some t => t
    | _, _ => h.addressee)
  let h1 : PageRec :=
    { h with
      state := .sending
      sendingOrder := g.order
      recipients := (List.finRange 96).filter (fun b => h.recipients.contains b || accepted.contains b)
      pending := (List.finRange 96).filter (fun b =>
        h.pending.contains b || (accepted.contains b && !h.recipients.contains b)) }
  (e.on (fun s => s.setPgu ((g.change h.number (fun _ => h1)).bump))).settlePage h1

/-- TRANSMIT is sent to a badge, the transmitter is busy and its 2 s timer starts (R178). -/
def Ev.transmit (p : PageRec) (b : BadgeIx) (e : Ev) : Ev :=
  e.on (fun s =>
    let address := (s.pgu.badges[b]).address.getD 0
    s.setPgu { s.pgu with
      inFlight := some ⟨p.number, b, address, false, 2⟩
      sent := some ⟨p.number, address, p.message, p.parameter, p.priority⟩ })

/-- One selection: heads are evaluated while one stands strictly above every SENDING page, and then the foremost
SENDING page transmits to its lowest pending badge (R176). The first argument bounds the heads looked at. -/
def Ev.selectFrom : Nat → Ev → Ev
  | 0, e => e
  | n + 1, e =>
    match e.s.pgu.head, e.s.pgu.foremost with
    | some h, none => (e.selectHead h).selectFrom n
    | some h, some f =>
      if h.priority.code < f.priority.code then (e.selectHead h).selectFrom n
      else match f.pending with
        | b :: _ => e.transmit f b
        | [] => e
    | none, some f =>
      match f.pending with
      | b :: _ => e.transmit f b
      | [] => e
    | none, none => e

/-- A selection. Each turn but the last takes a page out of QUEUED or raises its LEVEL, so twice the queue and one
more turns are enough. -/
def Ev.select (e : Ev) : Ev := e.selectFrom (2 * e.s.pgu.queue.length + 1)

/-- A selection where the transmitter is free and the link is UP (R176). -/
def Ev.trySelect (e : Ev) : Ev := if e.s.pgu.inFlight.isNone ∧ e.s.pgu.linkUp then e.select else e

/-! ### Submissions (R170 to R174) -/

/-- Whether the queue has room (R168). -/
def Pgu.room (g : Pgu) : Bool := decide (g.queue.length < Config.pageRoom)

/-- The page record a submission makes (R170). DESIGN CHOICE (log entry 24): SENDING ORDER is 0 until the page first becomes
SENDING. -/
def Pgu.newPage (g : Pgu) (sub : Submission) (originator : Originator) (noticeStation : Option Station)
    (reportTo : ReportTo) (now : Nat) : PageRec where
  number := g.freeNumber 256 g.nextNumber
  priority := sub.priority
  originator := originator
  noticeStation := noticeStation
  reportTo := reportTo
  addressee := sub.addressee
  escalation := sub.escalation
  message := sub.message
  parameter := sub.parameter
  ackPolicy := sub.ackPolicy
  escalated := false
  state := .queued
  arrival := g.order
  sendingOrder := 0
  recipients := []
  pending := []
  acked := []
  deadline := none
  submittedAt := now

/-- A page enters the queue under its number (R167, R170). -/
def Pgu.enter (g : Pgu) (p : PageRec) : Pgu :=
  { g.bump with queue := g.queue ++ [p], nextNumber := (p.number + 1) % 256 }

/-- A taken submission: the page record is made, and a selection follows where it may (R170). -/
def Ev.submit (sub : Submission) (originator : Originator) (noticeStation : Option Station) (reportTo : ReportTo)
    (e : Ev) : Ev :=
  (e.on (fun s => s.setPgu (s.pgu.enter (s.pgu.newPage sub originator noticeStation reportTo s.clock)))).trySelect

/-- The number the next taken submission receives (R167). -/
def Pgu.comingNumber (g : Pgu) : Nat := g.freeNumber 256 g.nextNumber

/-- A flow page is submitted by the dish line; true for TAKEN, false for FULL (R173). -/
def Ev.submitFlow (sub : Submission) (e : Ev) : Ev × Bool :=
  match (e.s.pgu.inState .queued).find? (fun p => decide (p.originator = .dishLine)) with
  | some p =>
    (e.on (fun s => s.setPgu (s.pgu.change p.number (fun q =>
      { q with addressee := sub.addressee, message := sub.message, parameter := sub.parameter }))), true)
  | none => if e.s.pgu.room then (e.submit sub .dishLine none .none, true) else (e, false)

/-- The page a fault page displaces: of the QUEUED pages below URGENT those of the lowest priority, and of these the
newest by ARRIVAL ORDER (R174). -/
def Pgu.displaceable (g : Pgu) : Option PageRec :=
  pickFirst (fun p q => PageRec.queuedBefore g.order q p) ((g.inState .queued).filter (fun p => decide (p.priority ≠ .urgent)))

/-- A fault page is submitted, displacing a lower one from a full queue; false where none can be displaced (R174). -/
def Ev.submitFault (sub : Submission) (e : Ev) : Ev × Bool :=
  if e.s.pgu.room then (e.submit sub .faultMonitor none .none, true)
  else match e.s.pgu.displaceable with
    | some p => ((e.endPage p .displaced true).submit sub .faultMonitor none .none, true)
    | none => (e, false)

/-- What a CANCEL or a DETACH of the engine finds: a page of that number whose ORIGINATOR is the channel and whose
REPORT TO is CHANNEL. QUEUED or SENDING, it ends CANCELLED without a report to the channel. SENT, it is detached (R172). -/
def Ev.releasePage (c : Chan) (number : Nat) (e : Ev) : Ev :=
  match e.s.pgu.find number with
  | none => e
  | some p =>
    if p.originator = .channel c ∧ p.reportTo = .channel then
      if p.state = .sent then
        e.on (fun s => s.setPgu (s.pgu.change number (fun q => { q with reportTo := .station })))
      else e.endPage p .cancelled false
    else e

end Sys2Proof.Machine
end

