-- ==== Sys2Proof/Machine/Flags.lean ====
section
/-! DEFINITION. Sys2Proof/Machine/Flags.lean: the Fault Monitor (chapter 9): the conditions and their groups, latching, ALERT, fault
notices and fault pages, and clearing. -/

namespace Sys2Proof.Machine

open Sys2Proof

/-! ### The table of R186 -/

/-- The place of a condition in the table of R186. -/
def Cond.index : Cond → Fin 23
  | .probeLost => 0 | .probeRange => 1 | .overheat => 2 | .cutoutTestFail => 3 | .configCheck => 4
  | .noHeadroom => 5 | .safetyShort => 6
  | .stockDrift => 7 | .encoder => 8 | .shorted => 9
  | .unlabelled => 10 | .overfill => 11 | .spuriousExit => 12 | .jam => 13 | .rinseLow => 14 | .conveyorFast => 15
  | .stall => 16
  | .radioDown => 17 | .urgentNotQueued => 18 | .unansweredUrgent => 19
  | .slow => 20 | .lost => 21 | .frameError => 22

/-- The 23 conditions in the order of R186. -/
def Cond.all : List Cond :=
  [.probeLost, .probeRange, .overheat, .cutoutTestFail, .configCheck, .noHeadroom, .safetyShort,
   .stockDrift, .encoder, .shorted, .unlabelled, .overfill, .spuriousExit, .jam, .rinseLow, .conveyorFast, .stall,
   .radioDown, .urgentNotQueued, .unansweredUrgent, .slow, .lost, .frameError]

/-- The group of a condition (R186). -/
def Cond.group : Cond → Group
  | .probeLost | .probeRange | .overheat | .cutoutTestFail | .configCheck => 0
  | .noHeadroom | .safetyShort => 1
  | .stockDrift | .encoder | .shorted => 2
  | .unlabelled | .overfill | .spuriousExit | .jam | .rinseLow | .conveyorFast | .stall => 3
  | .radioDown | .urgentNotQueued | .unansweredUrgent => 4
  | .slow | .lost | .frameError => 5

/-- The number of a condition within its group (R186). -/
def Cond.number : Cond → Nat
  | .probeLost => 0 | .probeRange => 1 | .overheat => 2 | .cutoutTestFail => 3 | .configCheck => 4
  | .noHeadroom => 0 | .safetyShort => 1
  | .stockDrift => 0 | .encoder => 1 | .shorted => 2
  | .unlabelled => 0 | .overfill => 1 | .spuriousExit => 2 | .jam => 3 | .rinseLow => 4 | .conveyorFast => 5
  | .stall => 6
  | .radioDown => 0 | .urgentNotQueued => 1 | .unansweredUrgent => 2
  | .slow => 0 | .lost => 1 | .frameError => 2

/-- Whether a condition is condition-type; the others are event-type (R186). -/
def Cond.lasting : Cond → Bool
  | .probeLost | .probeRange | .overheat | .noHeadroom | .encoder | .conveyorFast | .stall | .radioDown | .slow
  | .lost => true
  | .cutoutTestFail | .configCheck | .safetyShort | .stockDrift | .shorted | .unlabelled | .overfill | .spuriousExit
  | .jam | .rinseLow | .urgentNotQueued | .unansweredUrgent | .frameError => false

/-- The conditions of a group, in number order. -/
def Cond.ofGroup (g : Group) : List Cond := Cond.all.filter (fun c => decide (c.group = g))

/-! ### Latching (R189 to R194) -/

/-- A group is latched while one of its conditions is (R187). -/
def Fm.groupLatched (f : Fm) (g : Group) : Bool := (Cond.ofGroup g).any (fun c => (f.conds[c.index]).latched)

/-- ALERT as R194 judges it: an unmasked group holds a latched condition. -/
def Fm.judged (f : Fm) : Bool := (List.finRange 6).any (fun g => !(f.groups[g]).masked && f.groupLatched g)

/-- ALERT is judged anew (R194). -/
def Fm.judgeAlert (f : Fm) : Fm := { f with alert := f.judged }

/-- A condition record is written. -/
def Fm.setCond (f : Fm) (c : Cond) (r : CondRec) : Fm := { f with conds := f.conds.set c.index r }

/-- The fault notice of a latching (R192). -/
def Fm.faultNotice (c : Cond) (source now : Nat) : Notice where
  source := .fault
  index := c.group.val
  code := .fault
  p1 := c.number
  p2 := source
  p3 := if c.lasting then 1 else 0
  time := now

/-- The fault notice is posted to each subscribed station (R191, R192). -/
def State.tellSubscribers (c : Cond) (source : Nat) (s : State) : State :=
  (List.finRange 4).foldl (fun (t : State) (x : Station) =>
    if (s.fm.subs[x])[c.group] then t.postNotice x (Fm.faultNotice c source s.clock) else t) s

/-- The fault page of a latching (R193). -/
def Fm.faultPage (f : Fm) (c : Cond) (source : Nat) : Submission where
  priority := .urgent
  addressee := ⟨.role (f.groups[c.group]).pageRole, none⟩
  escalation := none
  message := 4096 + 16 * c.group.val + c.number
  parameter := source % 65536
  ackPolicy := .any

/-- A report latches a condition that is clear and counts at one that is latched (R189, R190). The answer is true for
a clear-to-latched transition of a group whose PAGING is ENABLED, which owes a fault page (R191). -/
def State.latch (c : Cond) (source : Nat) (s : State) : State × Bool :=
  let r := s.fm.conds[c.index]
  if r.latched then
    (s.setFm (s.fm.setCond c { r with occurrences := min 255 (r.occurrences + 1) }), false)
  else
    let f := s.fm.setCond c { r with latched := true, firstSource := some source, firstAt := s.clock, occurrences := 1 }
    ((s.setFm f.judgeAlert).tellSubscribers c source,
      !s.fm.groupLatched c.group && (s.fm.groups[c.group]).paging)

/-- An event-type report, or the latching part of a condition-type one, with the fault page it may owe and the URGENT
NOT QUEUED that a lost fault page raises (R174, R191, R193). R193 bounds the turns: a lost page raises URGENT NOT
QUEUED, whose own lost page finds the PAGE group latched. -/
def Ev.raiseIn : Nat → Cond → Nat → Ev → Ev
  | depth, c, source, e =>
    let l := e.s.latch c source
    let e1 : Ev := { e with s := l.1 }
    if l.2 then
      match depth with
      | 0 => e1
      | d + 1 =>
        let p := e1.submitFault (e1.s.fm.faultPage c source)
        if p.2 then p.1 else p.1.raiseIn d .urgentNotQueued c.group.val
    else e1

/-- A fault report of an event-type condition (R190). -/
def Ev.raise (c : Cond) (source : Nat) (e : Ev) : Ev := e.raiseIn 2 c source

/-- A report that a condition holds for a source (R189). -/
def Ev.condHolds (c : Cond) (source : Nat) (e : Ev) : Ev :=
  let r := e.s.fm.conds[c.index]
  if r.active.contains source then e
  else
    (e.on (fun s => s.setFm (s.fm.setCond c { r with active := insertBy (fun a b => decide (a < b)) source r.active }))).raise
      c source

/-- A report that a condition ends for a source (R189). -/
def Ev.condEnds (c : Cond) (source : Nat) (e : Ev) : Ev :=
  e.on (fun s =>
    let r := s.fm.conds[c.index]
    s.setFm (s.fm.setCond c { r with active := r.active.filter (fun a => decide (a ≠ source)) }))

/-! ### Clearing (R196) -/

/-- A condition record after a clear at clock `now`: re-latched where it is condition-type with a source for which it
holds. -/
def CondRec.cleared (r : CondRec) (now : Nat) : CondRec :=
  match r.active with
  | [] => { r with latched := false, firstSource := none, firstAt := 0, occurrences := 0 }
  | lowest :: _ => { r with latched := true, firstSource := some lowest, firstAt := now, occurrences := 1 }

/-- The conditions of a set of groups are cleared and ALERT is judged (R196). -/
def Fm.clearGroups (f : Fm) (groups : Vector Bool 6) (now : Nat) : Fm :=
  (Cond.all.foldl (fun g c => if groups[c.group] then g.setCond c (g.conds[c.index].cleared now) else g) f).judgeAlert

/-- The conditions of a group that are latched. -/
def Fm.latchedIn (f : Fm) (g : Group) : List Cond := (Cond.ofGroup g).filter (fun c => (f.conds[c.index]).latched)

end Sys2Proof.Machine
end

