-- ==== Sys2Proof/Machine/Flow.lean ====
section
/-! DEFINITION. Sys2Proof/Machine/Flow.lean: soiled-plate flow control of the dish line (6.6). -/

namespace Sys2Proof.Machine

open Sys2Proof

/-- The two flow pages (R147). -/
inductive FlowPage | hold | release
  deriving DecidableEq, Repr

/-- The fields of a flow page, from the settings as they stand (R147). -/
def DishSettings.flowPage (d : DishSettings) (kind : FlowPage) : Submission where
  priority := .high
  addressee := ⟨.role d.clearingRole, none⟩
  escalation := none
  message := match kind with
    | .hold => d.holdMessage
    | .release => d.releaseMessage
  parameter := match kind with
    | .hold => d.holdTime
    | .release => 0
  ackPolicy := .none

/-- OWED PAGE after a FULL answer (R147). -/
def FlowPage.owed : FlowPage → Owed
  | .hold => .hold
  | .release => .release

/-- A flow page is submitted, and OWED PAGE follows the answer; true where the page was TAKEN (R147). -/
def Ev.sendFlow (kind : FlowPage) (e : Ev) : Ev × Bool :=
  let r := e.submitFlow (e.s.dlu.settings.flowPage kind)
  (r.1.on (fun s => s.setFlow { s.dlu.flow with owed := if r.2 then .none else kind.owed }), r.2)

/-- The refresh interval (R144, R146). -/
def DishSettings.refresh (d : DishSettings) : Nat := d.holdTime / 2

/-- A droppable notice of the dish line goes to DISH STATION as it stands (R148). -/
def State.dishNotice (index : Nat) (code : NoticeCode) (p1 p2 p3 : Nat) (s : State) : State :=
  s.postNotice s.dlu.settings.dishStation (s.notice .dishLine index code p1 p2 p3)

/-- FLOWING becomes HOLDING (R144). -/
def Ev.enterHolding (total : Nat) (e : Ev) : Ev :=
  let e1 := e.on (fun s => s.setFlow { s.dlu.flow with holding := true })
  let e2 := (e1.sendFlow .hold).1
  e2.on (fun s =>
    (s.setFlow { s.dlu.flow with refreshLeft := some s.dlu.settings.refresh }).dishNotice 0 .flowHold (min 65535 total)
      s.dlu.settings.high s.dlu.settings.holdTime)

/-- HOLDING becomes FLOWING (R145). -/
def Ev.enterFlowing (total : Nat) (e : Ev) : Ev :=
  let e1 := e.on (fun s => s.setFlow { s.dlu.flow with holding := false })
  let r := e1.sendFlow .release
  r.1.on (fun s =>
    let f := s.dlu.flow
    (s.setFlow { f with refreshLeft := if r.2 then none else f.refreshLeft }).dishNotice 0 .flowRelease (min 65535 total)
      s.dlu.settings.low 0)

/-- The pool hands a new soiled total, judged once against the state it finds (R143 to R145). -/
def Ev.soiledHandover (total : Nat) (e : Ev) : Ev :=
  let e1 := e.on (fun s => s.setFlow { s.dlu.flow with soiledTotal := total })
  let d := e1.s.dlu
  if d.flow.holding then
    if total ≤ d.settings.low then e1.enterFlowing total else e1
  else if d.settings.high ≤ total then e1.enterHolding total
  else e1

/-- The refresh timer runs out (R146). A stopped timer does not, and FLOWING with nothing owed does not arise: the timer
then stops. -/
def Ev.refresh (e : Ev) : Ev :=
  let f := e.s.dlu.flow
  let restart : Ev → Ev :=
    fun x => x.on (fun s => s.setFlow { s.dlu.flow with refreshLeft := some s.dlu.settings.refresh })
  if f.refreshLeft.isNone then e
  else if f.holding then restart (e.sendFlow .hold).1
  else if f.owed = .release then
    let r := e.sendFlow .release
    if r.2 then r.1.on (fun s => s.setFlow { s.dlu.flow with refreshLeft := none }) else restart r.1
  else e.on (fun s => s.setFlow { s.dlu.flow with refreshLeft := none })

end Sys2Proof.Machine
end

