-- ==== Sys2Proof/Machine/Loads.lean ====
section
/-! DEFINITION. Sys2Proof/Machine/Loads.lean: what is read off probe and load records (R38, R47), the wiring of 0.5.3 and of the head of
chapter 2, and the request and preload fraction of a load (R50, R51, R54). -/

namespace Sys2Proof.Machine

open Sys2Proof

/-! ### Wiring -/

def cavityProbe (c : Chan) : ProbeIx := ⟨c.val, by omega⟩
def coreProbe (c : Chan) : ProbeIx := ⟨12 + c.val, by omega⟩
def warmerProbe (w : WarmerIx) : ProbeIx := ⟨24 + w.val, by omega⟩
def rinseProbe : ProbeIx := 32
def ovenLoad (c : Chan) : LoadIx := ⟨c.val, by omega⟩
def warmerLoad (w : WarmerIx) : LoadIx := ⟨12 + w.val, by omega⟩
def rinseLoad : LoadIx := 20
def washLoad : LoadIx := 21

/-- CONTROL PROBE of a load (R47). -/
def controlProbe (l : LoadIx) : ProbeIx :=
  if h : l.val < 12 then ⟨l.val, by omega⟩ else ⟨12 + l.val, by omega⟩

/-- The channel whose oven a load is. -/
def ovenOf (l : LoadIx) : Option Chan := if h : l.val < 12 then some ⟨l.val, h⟩ else none

/-- The warmer whose heater a load is. -/
def warmerOfLoad (l : LoadIx) : Option WarmerIx :=
  if h : 12 ≤ l.val ∧ l.val < 20 then some ⟨l.val - 12, by omega⟩ else none

/-- The load that a probe controls: none for the core probes. -/
def loadOf (p : ProbeIx) : Option LoadIx :=
  if h : p.val < 12 then some ⟨p.val, by omega⟩
  else if h : 24 ≤ p.val then some ⟨p.val - 12, by omega⟩
  else none

/-- The channel whose cavity probe it is. -/
def cavityOf (p : ProbeIx) : Option Chan := if h : p.val < 12 then some ⟨p.val, h⟩ else none

/-- The channel whose core probe it is. -/
def coreOf (p : ProbeIx) : Option Chan :=
  if h : 12 ≤ p.val ∧ p.val < 24 then some ⟨p.val - 12, by omega⟩ else none

/-- The warmer whose probe it is. -/
def warmerOf (p : ProbeIx) : Option WarmerIx :=
  if h : 24 ≤ p.val ∧ p.val < 32 then some ⟨p.val - 24, by omega⟩ else none

/-! ### Derived values -/

/-- A probe is faulted while LOST or RANGE is set (R38). -/
def ProbeRec.faulted (p : ProbeRec) : Bool := p.lost.isSome || p.range

/-- A load is installed while RATING is above 0 (R47). -/
def LoadRec.installed (l : LoadRec) : Bool := decide (0 < l.rating)

/-- The derived STATE of a load (R47). -/
def LoadRec.state (l : LoadRec) : LoadState :=
  if l.testing then .testing
  else if l.cutoutFail || l.checkFail then .faulted
  else if l.trip then .tripped
  else .enabled

/-- TRIPPED or FAULTED. -/
def LoadState.down : LoadState → Bool
  | .tripped | .faulted => true
  | .testing | .enabled => false

/-- The check value of load Ln (R60). -/
def checkOf (l : LoadIx) (rating : Nat) (tripLimit : Int) : Nat :=
  65535 - ((rating + (2 * (tripLimit + 1000)).toNat + 4096 * l.val) % 65536)

/-- REQUEST from a load record and its control probe (R50). -/
def LoadRec.requestOf (l : LoadRec) (p : ProbeRec) : Nat :=
  if !l.installed || !l.active || decide (l.state ≠ .enabled) || !p.settled then 0
  else
    let gap := l.setpoint - p.reading
    if 0 < gap then min 1000 (l.bias + 1000 * gap.toNat / l.pb) else 0

/-- PRELOAD FRACTION is brought to min(g′, q), and a decrease cuts the shadow on-time at once (R51, R54). -/
def LoadRec.settlePreload (l : LoadRec) : LoadRec :=
  let f := min l.grant l.request
  if f < l.preload then
    let shadow := min l.shadow (f * l.period / 1000)
    { l with preload := f, shadow := shadow, output := if shadow ≤ l.phase then false else l.output }
  else { l with preload := f }

/-- REQUEST is recomputed, and through it the preload fraction (R50, R51). -/
def State.recompute (l : LoadIx) (s : State) : State :=
  let r := s.hlu.loads[l]
  s.setLoad l { r with request := r.requestOf s.hlu.probes[controlProbe l] }.settlePreload

/-- The owning job hands a setpoint and an idle indication; the same values are no event (R49). -/
def State.handSetpoint (l : LoadIx) (setpoint : Int) (active : Bool) (s : State) : State :=
  let r := s.hlu.loads[l]
  if r.setpoint = setpoint ∧ r.active = active then s
  else (s.setLoad l { r with setpoint := setpoint, active := active }).recompute l

/-- The allocator hands a grant fraction, stored whatever the load's STATE (R51). -/
def State.handGrant (l : LoadIx) (fraction : Nat) (s : State) : State :=
  s.setLoad l { s.hlu.loads[l] with grant := fraction }.settlePreload

end Sys2Proof.Machine
end

