-- ==== Sys2Proof/Machine/Pool.lean ====
section
/-! DEFINITION. Sys2Proof/Machine/Pool.lean: movements (4.1), the reservation table (chapter 5), count steps and the readiness of the
warmers (chapter 4). -/

namespace Sys2Proof.Machine

open Sys2Proof

/-! ### Movements (R87, R88) -/

/-- The location counts of a pool record (R85). -/
inductive Place | warm | cool | floor | soiled | wash | quar
  deriving DecidableEq, Repr

def PoolRec.at (p : PoolRec) : Place → Nat
  | .warm => p.warm | .cool => p.cool | .floor => p.floor | .soiled => p.soiled | .wash => p.wash | .quar => p.quar

def PoolRec.put (p : PoolRec) (n : Nat) : Place → PoolRec
  | .warm => { p with warm := n }
  | .cool => { p with cool := n }
  | .floor => { p with floor := n }
  | .soiled => { p with soiled := n }
  | .wash => { p with wash := n }
  | .quar => { p with quar := n }

/-- What a 32-bit count holds after an addition with this exact sum (R85): the sum where it fits. Where it does not,
the manual states no value, and it is a free value (log entry 2). -/
def fitCount (n : Nat) : Nat := if n < 4294967296 then n else (Config.countOverflow n).toNat

/-- MOVED and FOUND of a movement (R88). -/
structure Moved where
  moved : Nat
  found : Nat
  deriving DecidableEq, Repr

/-- A movement clamped with found plates, on the pool record (R88). -/
def PoolRec.move (p : PoolRec) (src dst : Place) (n : Nat) : PoolRec × Moved :=
  let m := min n (p.at src)
  let found := n - m
  let p1 := p.put (p.at src - m) src
  let p2 := p1.put (fitCount (p1.at dst + n)) dst
  ({ p2 with stock := fitCount (p2.stock + found), found := fitCount (p2.found + found) }, ⟨m, found⟩)

/-- The total of SOILED over the four kinds (R89). -/
def Ppu.soiledTotal (p : Ppu) : Nat := fitCount (((List.finRange 4).map (fun k => (p.pools[k]).soiled)).sum)

/-- A change of SOILED of any kind hands flow control the new total (R89, R143). -/
def Ev.soiledChanged (k : Kind) (before : Nat) (e : Ev) : Ev :=
  if (e.s.ppu.pools[k]).soiled = before then e else e.soiledHandover e.s.ppu.soiledTotal

/-- A movement clamped with found plates: the counts, STOCK DRIFT where plates were found, and the hand-over to flow
control where SOILED changed (R88, R89). -/
def Ev.movement (k : Kind) (src dst : Place) (n : Nat) (e : Ev) : Ev × Moved :=
  let p := e.s.ppu.pools[k]
  let r := p.move src dst n
  let e1 := e.on (fun s => s.setPool k r.1)
  let e2 := if 0 < r.2.found then e1.raise .stockDrift k.val else e1
  (e2.soiledChanged k p.soiled, r.2)

/-- REQUEUE: QUAR → SOILED, clamped without found plates (R88, R105). -/
def Ev.requeuePlates (k : Kind) (n : Nat) (e : Ev) : Ev × Moved :=
  let p := e.s.ppu.pools[k]
  let m := min n p.quar
  let e1 := e.on (fun s => s.setPool k { p with quar := p.quar - m, soiled := fitCount (p.soiled + m) })
  (e1.soiledChanged k p.soiled, ⟨m, 0⟩)

/-- DISCARD: QUAR and STOCK are lowered, without found plates (R88, R105). -/
def Ev.discardPlates (k : Kind) (n : Nat) (e : Ev) : Ev × Moved :=
  let p := e.s.ppu.pools[k]
  let m := min n p.quar
  (e.on (fun s => s.setPool k { p with quar := p.quar - m, stock := p.stock - m }), ⟨m, 0⟩)

/-! ### Derived figures of a kind (R107, R109) -/

/-- The outstanding count of a live entry (R109). -/
def ResRec.outstanding (r : ResRec) : Nat :=
  match r.state with
  | .waiting => 0
  | .ready | .drawing => r.count - r.drawn

/-- The live entries of a kind, oldest first (R108). -/
def Ppu.live (p : Ppu) (k : Kind) : List (ResIx × ResRec) :=
  p.ageList.filterMap (fun i =>
    match p.entries[i] with
    | some r => if r.kind = k then some (i, r) else none
    | none => none)

/-- Σoutstanding of a kind (R109). -/
def Ppu.sumOutstanding (p : Ppu) (k : Kind) : Nat := ((p.live k).map (fun e => e.2.outstanding)).sum

/-- readyWarm of a kind (R109). -/
def Ppu.readyWarm (p : Ppu) (k : Kind) : Nat :=
  ((List.finRange 8).map (fun w =>
    let r := p.warmers[w]
    if r.kind = k ∧ r.readiness = .ready then r.count else 0)).sum

/-- The reserve capacity of a kind (R109); a warmer that is not installed has CAPACITY 0. -/
def Ppu.reserveCapacity (p : Ppu) (k : Kind) : Nat :=
  ((List.finRange 8).map (fun w =>
    let r := p.warmers[w]
    if r.kind = k then r.capacity else 0)).sum

/-- A kind is reserved while a live entry of it exists (R109). -/
def Ppu.reserved (p : Ppu) (k : Kind) : Bool := !(p.live k).isEmpty

/-! ### Readiness of reservations (R114, R115, R123, R124) -/

/-- The notice of a reservation to its owner, where a station owns it (R123). -/
def State.resNotice (i : ResIx) (r : ResRec) (code : NoticeCode) (p2 p3 : Nat) (s : State) : State :=
  match r.owner with
  | .station x => s.postNotice x (s.notice .reservation i.val code r.creation p2 p3)
  | .channel _ => s

/-- An entry becomes READY and its owner is told (R114, R123, R124). -/
def Ev.becomeReady (i : ResIx) (r : ResRec) (e : Ev) : Ev :=
  let e1 := e.on (fun s => (s.setEntry i (some { r with state := .ready })).resNotice i r .reservationReady r.kind.val r.count)
  match r.owner with
  | .channel c => e1.hand (.entryReady c i r.creation)
  | .station _ => e1

/-- Evaluation of a kind over the indices of the AGE LIST, oldest first: it stops at the first WAITING entry of the
kind that does not become READY (R114). -/
def Ev.evaluateFrom (k : Kind) : List ResIx → Ev → Ev
  | [], e => e
  | i :: l, e =>
    match e.s.ppu.entries[i] with
    | some r =>
      if r.kind = k ∧ r.state = .waiting then
        if r.count + e.s.ppu.sumOutstanding k ≤ e.s.ppu.readyWarm k then (e.becomeReady i r).evaluateFrom k l else e
      else e.evaluateFrom k l
    | none => e.evaluateFrom k l

/-- Readiness of a kind is evaluated (R114). -/
def Ev.evaluate (k : Kind) (e : Ev) : Ev := e.evaluateFrom k e.s.ppu.ageList

/-! ### Ends (R120) -/

/-- Steps 1 to 3 of R120: the entry becomes free, and its owner is told unless it asked for the end itself. -/
def Ev.endEntry (i : ResIx) (r : ResRec) (outcome : ResEnd) (tell : Bool) (e : Ev) : Ev :=
  let e1 := e.on (fun s =>
    let t := s.setEntry i none
    { t with ppu := { t.ppu with ageList := t.ppu.ageList.filter (fun j => decide (j ≠ i)) } })
  if tell then
    match r.owner with
    | .station _ => e1.on (fun s => s.resNotice i r .reservationEnded outcome.code r.drawn)
    | .channel c => e1.hand (.entryEnded c i r.creation (decide (outcome = .short)))
  else e1

/-- Steps 4 and 5 of R120: readiness of the kind is evaluated and the engine is handed a free-entry report. -/
def Ev.afterEnd (k : Kind) (e : Ev) : Ev := (e.evaluate k).hand .entryFree

/-- The whole of an end (R120). -/
def Ev.finishEntry (i : ResIx) (r : ResRec) (outcome : ResEnd) (tell : Bool) (e : Ev) : Ev :=
  (e.endEntry i r outcome tell).afterEnd r.kind

/-! ### Draws (R116) -/

/-- The entry a draw of a kind is charged to (R116). -/
def Ppu.chargeTo (p : Ppu) (k : Kind) : Option (ResIx × ResRec) :=
  match (p.live k).find? (fun e => decide (e.2.state = .drawing)) with
  | some e => some e
  | none => (p.live k).find? (fun e => decide (e.2.state = .ready))

/-- A draw of one plate is charged, and completes its entry where DRAWN reaches COUNT (R116). -/
def Ev.chargeDraw (k : Kind) (e : Ev) : Ev :=
  match e.s.ppu.chargeTo k with
  | none => e
  | some (i, r) =>
    let r1 := { r with drawn := r.drawn + 1, state := .drawing }
    if r.count ≤ r1.drawn then e.finishEntry i r1 (if r.shortened then .short else .done) true
    else e.on (fun s => s.setEntry i (some r1))

/-! ### Revocation (R117, R118) -/

/-- The room left for an entry (R118): WARM less what the other live entries of its kind have outstanding. -/
def Ppu.roomFor (p : Ppu) (i : ResIx) (k : Kind) : Nat :=
  (p.pools[k]).warm - (((p.live k).filter (fun e => decide (e.1 ≠ i))).map (fun e => e.2.outstanding)).sum

/-- An entry is shortened; true where that ended it (R118). -/
def Ev.shorten (i : ResIx) (r : ResRec) (e : Ev) : Ev × Bool :=
  let room := e.s.ppu.roomFor i r.kind
  let r1 := { r with count := r.drawn + room, shortened := true }
  let e1 := (e.on (fun s => s.setEntry i (some r1))).raise .shorted i.val
  if room = 0 then (e1.endEntry i r1 .short true, true) else (e1, false)

/-- Revocation of a kind while the law of R117 is broken, counting the entries it ended. Each turn takes an entry out
of READY, ends a DRAWING one or restores the law, so one more turn than the table has live entries is enough. -/
def Ev.revokeFrom (k : Kind) : Nat → Ev → Ev × Nat
  | 0, e => (e, 0)
  | n + 1, e =>
    if e.s.ppu.sumOutstanding k ≤ (e.s.ppu.pools[k]).warm then (e, 0)
    else
      match (e.s.ppu.live k).reverse.find? (fun x => decide (x.2.state = .ready)) with
      | some (i, r) =>
        (e.on (fun s =>
          (s.setEntry i (some { r with state := .waiting })).resNotice i r .reservationRevoked r.kind.val r.count)).revokeFrom k n
      | none =>
        match (e.s.ppu.live k).reverse.find? (fun x => decide (x.2.state = .drawing)) with
        | some (i, r) =>
          let t := e.shorten i r
          let rest := t.1.revokeFrom k n
          (rest.1, rest.2 + if t.2 then 1 else 0)
        | none => (e, 0)

/-- Something is done a number of times. -/
def Ev.times (f : Ev → Ev) : Nat → Ev → Ev
  | 0, e => e
  | n + 1, e => Ev.times f n (f e)

/-- A non-draw decrease of WARM of a kind: revocation, and then steps 4 and 5 of R120 for each entry it ended (R117,
R118). -/
def Ev.revoke (k : Kind) (e : Ev) : Ev :=
  let r := e.revokeFrom k (e.s.ppu.ageList.length + 1)
  Ev.times (fun x => x.afterEnd k) r.2 r.1

/-! ### Creation and the ends that owners request (R111, R112, R121) -/

/-- The lowest-numbered free entry. -/
def Ppu.freeEntry (p : Ppu) : Option ResIx := (List.finRange 16).find? (fun i => (p.entries[i]).isNone)

/-- An entry is created; what the creator is answered with is its index, CREATION NUMBER and the STATE reached (R111). -/
def Ev.createEntry (i : ResIx) (k : Kind) (n : Nat) (owner : ResOwner) (e : Ev) : Ev × (ResIx × Nat × ResState) :=
  let number := e.s.ppu.nextCreation
  let e1 := e.on (fun s =>
    let t := s.setEntry i (some
      { kind := k, count := n, requested := n, drawn := 0, owner := owner, state := .waiting, shortened := false,
        creation := number, createdAt := s.clock })
    { t with ppu := { t.ppu with ageList := t.ppu.ageList ++ [i], nextCreation := (number + 1) % 65536 } })
  let e2 := e1.evaluate k
  (e2, (i, number, ((e2.s.ppu.entries[i]).map ResRec.state).getD .waiting))

/-- The PPU's answer to a request of the engine (R112). -/
inductive ReserveAnswer
  | overCapacity
  | full
  | created (i : ResIx) (creation : Nat) (state : ResState)
  deriving DecidableEq, Repr

/-- The engine asks for a reservation on behalf of a channel (R112). A kind that is none of K0..K3 has no warmers. -/
def Ev.requestPlates (c : Chan) (kind : Byte) (n : Nat) (e : Ev) : Ev × ReserveAnswer :=
  match index 4 kind.toNat with
  | none => (e, .overCapacity)
  | some k =>
    if e.s.ppu.reserveCapacity k < n then (e, .overCapacity)
    else match e.s.ppu.freeEntry with
      | none => (e, .full)
      | some i =>
        let r := e.createEntry i k n (.channel c)
        (r.1, .created r.2.1 r.2.2.1 r.2.2.2)

/-- The entry a request of the engine names, where it still lives (R121). -/
def Ppu.named (p : Ppu) (i : ResIx) (creation : Nat) : Option ResRec :=
  match p.entries[i] with
  | some r => if r.creation = creation then some r else none
  | none => none

/-- A cancel requested by the engine (R121). -/
def Ev.cancelEntry (i : ResIx) (creation : Nat) (e : Ev) : Ev :=
  match e.s.ppu.named i creation with
  | some r => e.finishEntry i r .cancelled false
  | none => e

/-- A close requested by the engine: COUNT becomes DRAWN and the entry ends SHORT (R121). -/
def Ev.closeEntry (i : ResIx) (creation : Nat) (e : Ev) : Ev :=
  match e.s.ppu.named i creation with
  | some r => e.finishEntry i { r with count := r.drawn } .short false
  | none => e

/-! ### Readiness of warmers (R101, R102) -/

/-- A warmer is installed while CAPACITY is above 0 (R91). -/
def WarmerRec.installed (w : WarmerRec) : Bool := decide (0 < w.capacity)

/-- A warmer in SOAKING or READY returns to COLD; its soak timer stops (R102). -/
def WarmerRec.cooled (w : WarmerRec) : WarmerRec := { w with readiness := .cold, soakLeft := 0 }

def State.coolWarmer (w : WarmerIx) (s : State) : State := s.setWarmer w (s.ppu.warmers[w]).cooled

/-- Whether the present reading stands below SETPOINT − BAND. -/
def WarmerRec.below (w : WarmerRec) (p : ProbeRec) : Bool := decide (p.reading < w.setpoint - w.band)

/-- READINESS is judged against the present reading, at a reading update or a SET WARMER (R101, R102). -/
def State.judgeWarmer (w : WarmerIx) (s : State) : State :=
  let r := s.ppu.warmers[w]
  let l := s.hlu.loads[warmerLoad w]
  let p := s.hlu.probes[warmerProbe w]
  match r.readiness with
  | .cold =>
    if r.installed && l.installed && !l.state.down && p.settled && !r.below p then
      s.setWarmer w { r with readiness := .soaking, soakLeft := r.soakTime }
    else s
  | .soaking | .ready => if p.settled && r.below p then s.coolWarmer w else s

/-- The soak timer expires once per second while SOAKING; at 0 the warmer becomes READY and readiness of its kind is
evaluated (R101, R115). -/
def Ev.soakSecond (w : WarmerIx) (e : Ev) : Ev :=
  let r := e.s.ppu.warmers[w]
  if r.readiness ≠ .soaking then e
  else if 1 < r.soakLeft then e.on (fun s => s.setWarmer w { r with soakLeft := r.soakLeft - 1 })
  else (e.on (fun s => s.setWarmer w { r with soakLeft := 0, readiness := .ready })).evaluate r.kind

/-! ### Count steps (R96, R97, R99, R100) -/

/-- ENCODER FAULT is set and reported (R96, R97). -/
def Ev.encoderFault (w : WarmerIx) (e : Ev) : Ev :=
  (e.on (fun s => s.setWarmer w { s.ppu.warmers[w] with encoderFault := true })).condHolds .encoder w.val

/-- Counting restarts: SUB-COUNT and ERROR RUN 0, ENCODER FAULT clear, PHASE PAIR the levels present (R93, R97, R106). -/
def Ev.restartCounting (w : WarmerIx) (e : Ev) : Ev :=
  (e.on (fun s => s.setWarmer w
    { s.ppu.warmers[w] with sub := 0, errorRun := 0, encoderFault := false, pair := s.pins.encoders[w] })).condEnds .encoder w.val

/-- The COUNT of a warmer is written. -/
def State.setCount (w : WarmerIx) (n : Nat) (s : State) : State := s.setWarmer w { s.ppu.warmers[w] with count := n }

/-- A count step down: a DRAW in SERVING mode, an UNLOAD in LOADING mode (R99). -/
def Ev.countDown (w : WarmerIx) (e : Ev) : Ev :=
  let r := e.s.ppu.warmers[w]
  match r.mode with
  | .serving => ((e.movement r.kind .warm .floor 1).1.on (fun s => s.setCount w (r.count - 1))).chargeDraw r.kind
  | .loading => ((e.movement r.kind .warm .cool 1).1.on (fun s => s.setCount w (r.count - 1))).revoke r.kind

/-- Where a plate put on a warmer comes from (R100). -/
def PoolRec.sourceUp (p : PoolRec) : Mode → Place
  | .loading => .cool
  | .serving => if 0 < p.floor then .floor else .cool

/-- A count step up: a LOAD in LOADING mode, a PUT BACK in SERVING mode (R100). -/
def Ev.countUp (w : WarmerIx) (e : Ev) : Ev :=
  let r := e.s.ppu.warmers[w]
  let src := (e.s.ppu.pools[r.kind]).sourceUp r.mode
  ((e.movement r.kind src .warm 1).1.on (fun s => s.setCount w (r.count + 1))).evaluate r.kind

/-- SUB-COUNT takes an edge of +1 or −1 and may make a count step (R96). -/
def Ev.accumulate (w : WarmerIx) (edge : Int) (e : Ev) : Ev :=
  let r := e.s.ppu.warmers[w]
  let sub := r.sub + edge
  if (r.pitch : Int) ≤ sub then
    let e1 := e.on (fun s => s.setWarmer w { r with sub := 0 })
    if r.count = 0 then e1.encoderFault w else e1.countDown w
  else if sub ≤ -(r.pitch : Int) then
    let e1 := e.on (fun s => s.setWarmer w { r with sub := 0 })
    if r.capacity ≤ r.count then e1.encoderFault w else e1.countUp w
  else e.on (fun s => s.setWarmer w { r with sub := sub })

/-- The direction of a transition between two pairs (R95). -/
inductive Turn | none | rise | fall | invalid
  deriving DecidableEq, Repr

/-- The table of R95. -/
def turn (before after : Pair) : Turn :=
  match before.a, before.b, after.a, after.b with
  | false, false, false, true => .rise
  | false, true, true, true => .rise
  | true, true, true, false => .rise
  | true, false, false, false => .rise
  | false, true, false, false => .fall
  | true, true, false, true => .fall
  | true, false, true, true => .fall
  | false, false, true, false => .fall
  | false, false, true, true => .invalid
  | true, true, false, false => .invalid
  | false, true, true, false => .invalid
  | true, false, false, true => .invalid
  | false, false, false, false => .none
  | false, true, false, true => .none
  | true, false, true, false => .none
  | true, true, true, true => .none

/-- An invalid transition; at the fourth in a row counting stops (R95). -/
def Ev.invalidTurn (w : WarmerIx) (e : Ev) : Ev :=
  let r := e.s.ppu.warmers[w]
  let e1 := e.on (fun s => s.setWarmer w { r with errorRun := r.errorRun + 1 })
  if 4 ≤ r.errorRun + 1 then e1.encoderFault w else e1

/-- An accepted pair of phase levels (R95). -/
def Ev.encoderPair (w : WarmerIx) (pair : Pair) (e : Ev) : Ev :=
  let t := turn (e.s.ppu.warmers[w]).pair pair
  let e1 := e.on (fun s =>
    let s1 := s.setWarmer w { s.ppu.warmers[w] with pair := pair }
    { s1 with pins := { s1.pins with encoders := s1.pins.encoders.set w pair } })
  let r := e1.s.ppu.warmers[w]
  if !r.installed || r.encoderFault then e1
  else
    let clean : Ev := e1.on (fun s => s.setWarmer w { r with errorRun := 0 })
    match t with
    | .none => e1
    | .rise => clean.accumulate w 1
    | .fall => clean.accumulate w (-1)
    | .invalid => e1.invalidTurn w

end Sys2Proof.Machine
end

