-- ==== Sys2Proof/Machine/Dish.lean ====
section
/-! DEFINITION. Sys2Proof/Machine/Dish.lean: racks in the machine, their judgement, and the conveyor (6.3 to 6.5). -/

namespace Sys2Proof.Machine

open Sys2Proof

/-! ### The rinse (R134) -/

/-- A reading update of P32 lowers MIN RINSE of every rack inside (R134). -/
def State.rinseReading (reading : Int) (s : State) : State :=
  s.setRacks (s.dlu.racks.map (fun r => { r with minRinse := min r.minRinse reading }))

/-- P32 enters a fault: RINSE FAULT is set on every rack inside (R134). -/
def State.rinseFault (s : State) : State := s.setRacks (s.dlu.racks.map (fun r => { r with rinseFault := true }))

/-! ### Rack entry (R131 to R133) -/

/-- The record of an entering rack (R131, R132). -/
def State.newRack (s : State) (kind : Option Kind) (count : Nat) : RackRec :=
  let p := s.hlu.probes[rinseProbe]
  { sequence := s.dlu.nextSequence, kind := kind, count := count, enteredAt := s.clock,
    minRinse := if p.settled then p.reading else -500, rinseFault := !p.settled, jam := false }

/-- The next RACK SEQUENCE is taken by every entry arrival, recorded or not (R130). -/
def State.takeSequence (s : State) : State := s.setDlu { s.dlu with nextSequence := (s.dlu.nextSequence + 1) % 65536 }

/-- A rack entry arrival (R131 to R133). -/
def Ev.rackEntry (e : Ev) : Ev :=
  let seq := e.s.dlu.nextSequence
  let inside := decide (e.s.dlu.racks.length < Config.rackRoom)
  match e.s.dlu.labels with
  | l :: rest =>
    if inside then
      let e1 := e.on (fun s =>
        (s.setDlu { s.dlu with labels := rest, racks := s.dlu.racks ++ [s.newRack (some l.kind) l.count] }).takeSequence)
      (e1.movement l.kind .soiled .wash l.count).1
    else
      let e1 := (e.on (fun s => (s.setDlu { s.dlu with labels := rest }).takeSequence)).raise .overfill seq
      (e1.movement l.kind .soiled .quar l.count).1
  | [] =>
    if inside then
      (e.on (fun s => (s.setRacks (s.dlu.racks ++ [s.newRack none 0])).takeSequence)).raise .unlabelled seq
    else
      ((e.on State.takeSequence).raise .overfill seq).raise .unlabelled seq

/-! ### Rack exit (R135 to R137) -/

/-- The reasons for an unsanitary rack, with the code of each (R136). -/
inductive Unsanitary | rinseFault | rinseLow | shortDwell
  deriving DecidableEq, Repr

def Unsanitary.code : Unsanitary → Nat
  | .rinseFault => 1 | .rinseLow => 2 | .shortDwell => 3

/-- The sanitation judgement: the first test that fails, none for a sanitary rack (R135). -/
def RackRec.judge (r : RackRec) (d : DishSettings) (now : Nat) : Option Unsanitary :=
  if r.rinseFault then some .rinseFault
  else if r.minRinse < d.rinseMin then some .rinseLow
  else if secondsSince r.enteredAt now < d.dwellMin then some .shortDwell
  else none

/-- SOURCE INDEX of a rack notice: the KIND, or 4 for UNLABELLED (R136). -/
def RackRec.noticeIndex (r : RackRec) : Nat :=
  match r.kind with
  | some k => k.val
  | none => 4

/-- A rack exit arrival (R135 to R137). -/
def Ev.rackExit (e : Ev) : Ev :=
  match e.s.dlu.racks with
  | [] => e.raise .spuriousExit 0
  | r :: rest =>
    let verdict := r.judge e.s.dlu.settings e.s.clock
    let e1 := e.on (fun s => s.setRacks rest)
    let e2 := match r.kind with
      | some k => (e1.movement k .wash (if verdict.isSome then .quar else .cool) r.count).1
      | none => e1
    match verdict with
    | none => e2
    | some reason =>
      (e2.raise .rinseLow r.sequence).on (fun s => s.dishNotice r.noticeIndex .rackQuarantined r.sequence r.count reason.code)

/-! ### Jams (R138) -/

/-- Whether the jam check marks a rack (R138). -/
def RackRec.jams (r : RackRec) (d : DishSettings) (now : Nat) : Bool :=
  !r.jam && decide (d.dwellMax ≤ secondsSince r.enteredAt now)

/-- The jam check over the racks inside (R138). DESIGN CHOICE (log entry 33): where one check marks several racks, their JAM
reports are made in the order of the racks, oldest first. -/
def Ev.jamCheck (e : Ev) : Ev :=
  let d := e.s.dlu.settings
  let now := e.s.clock
  let marked := e.s.dlu.racks.filter (fun r => r.jams d now)
  let e1 := e.on (fun s => s.setRacks (s.dlu.racks.map (fun r => if r.jams d now then { r with jam := true } else r)))
  marked.foldl (fun x r => x.raise .jam r.sequence) e1

/-! ### The conveyor (R140 to R142) -/

/-- The predicted residence in seconds, 0 while SPEED is 0 (R142, R149). -/
def Dlu.predicted (d : Dlu) : Nat := d.settings.machineLength / d.conveyor.speed

/-- STALL as R142 defines it. -/
def Dlu.stallHolds (d : Dlu) : Bool := !d.conveyor.moving && d.conveyor.seen

/-- CONVEYOR FAST as R142 defines it. -/
def Dlu.fastHolds (d : Dlu) : Bool := decide (0 < d.conveyor.speed) && decide (d.predicted < d.settings.dwellMin)

/-- A condition with the fixed source 0 is reported as it is judged. -/
def Ev.report (c : Cond) (holds : Bool) (e : Ev) : Ev := if holds then e.condHolds c 0 else e.condEnds c 0

def Ev.judgeStall (e : Ev) : Ev := e.report .stall e.s.dlu.stallHolds
def Ev.judgeFast (e : Ev) : Ev := e.report .conveyorFast e.s.dlu.fastHolds

/-- A group completes with its elapsed time, and its pulse opens the next (R140). -/
def Conveyor.complete (c : Conveyor) (d : DishSettings) : Conveyor :=
  let elapsed := max 1 c.base
  let next := { c with pulses := 0, spannedStall := false, base := 0 }
  if c.spannedStall then next
  else { next with speed := d.groupM * d.mmPerPulse * 1000 / elapsed, lastGroupMs := elapsed, moving := true }

/-- An accepted conveyor pulse (R140, R142). -/
def Ev.conveyorPulse (e : Ev) : Ev :=
  let c := e.s.dlu.conveyor
  if c.groupOpen then
    let c1 := { c with pulses := c.pulses + 1 }
    if e.s.dlu.settings.groupM ≤ c1.pulses then
      (e.on (fun s => s.setConveyor (c1.complete s.dlu.settings))).judgeStall.judgeFast
    else e.on (fun s => s.setConveyor c1)
  else
    let e1 := e.on (fun s => s.setConveyor { c with groupOpen := true, pulses := 0, spannedStall := false, base := 0, seen := true })
    if c.seen then e1 else e1.judgeStall

/-- A stall expiry (R141, R142). -/
def Ev.stallExpiry (e : Ev) : Ev :=
  if e.s.dlu.conveyor.groupOpen then
    (e.on (fun s => s.setConveyor { s.dlu.conveyor with moving := false, speed := 0, spannedStall := true, base := 0 })).judgeStall.judgeFast
  else e

end Sys2Proof.Machine
end

