-- ==== Sys2Proof/Machine/Heat.lean ====
section
/-! DEFINITION. Sys2Proof/Machine/Heat.lean: probe capture and conversion (2.1), load outputs (2.3), trips (2.4), the cutout test (2.5)
and the verification of protected fields (2.6). -/

namespace Sys2Proof.Machine

open Sys2Proof

/-! ### Changes of a load's STATE (R17, R47, R102) -/

/-- A load has become TRIPPED or FAULTED, or its RATING has been set to 0: an oven's channel and a warmer's readiness
are told (R17, R102). -/
def Ev.loadLost (l : LoadIx) (e : Ev) : Ev :=
  match ovenOf l, warmerOfLoad l with
  | some c, _ => e.hand (.ovenFault c)
  | none, some w => e.on (fun s => s.coolWarmer w)
  | none, none => e

/-- The derived STATE of a load was `before`: where it has changed to TRIPPED or FAULTED the users are told (R47). -/
def Ev.loadChanged (l : LoadIx) (before : LoadState) (e : Ev) : Ev :=
  let now := (e.s.hlu.loads[l]).state
  if now ≠ before ∧ now.down then e.loadLost l else e

/-- The output is off for the rest of the period (R56, R58, R60). -/
def LoadRec.shut (r : LoadRec) : LoadRec := { r with shadow := 0, output := false }

/-- A load's flags are written, its request is recomputed as 0 and its output is off at once. -/
def State.shutLoad (l : LoadIx) (f : LoadRec → LoadRec) (s : State) : State :=
  let t := (s.setLoad l (f s.hlu.loads[l])).recompute l
  t.setLoad l (t.hlu.loads[l]).shut

/-! ### Readings and faults (R44, R45) -/

/-- A reading update: the load's request is recomputed and the users of the probe are told (R44). -/
def Ev.readingUpdate (p : ProbeIx) (e : Ev) : Ev :=
  let e1 := match loadOf p with
    | some l => e.on (State.recompute l)
    | none => e
  let e2 := match cavityOf p, coreOf p, warmerOf p with
    | some c, _, _ => e1.hand (.cavityReading c)
    | none, some c, _ => e1.hand (.coreReading c)
    | none, none, some w => e1.on (State.judgeWarmer w)
    | none, none, none => e1
  if p = rinseProbe then e2.on (fun s => s.rinseReading (s.hlu.probes[p]).reading) else e2

/-- A probe enters a fault: it is UNSETTLED with an empty WINDOW, its load's request is recomputed and its users are
told (R45). -/
def Ev.probeFault (p : ProbeIx) (e : Ev) : Ev :=
  let e1 := e.on (fun s => s.setProbe p { s.hlu.probes[p] with settled := false, window := [] })
  let e2 := match loadOf p with
    | some l => e1.on (State.recompute l)
    | none => e1
  let e3 := match cavityOf p, coreOf p, warmerOf p with
    | some c, _, _ => e2.hand (.ovenFault c)
    | none, some c, _ => e2.hand (.coreFault c)
    | none, none, some w => e2.on (State.coolWarmer w)
    | none, none, none => e2
  if p = rinseProbe then e3.on State.rinseFault else e3

/-! ### Conversions (R43, R44, R56) -/

/-- The conversion of a period T with high time H (R43). -/
def convert (t h : Nat) : Conversion :=
  if t < 1000 ∨ 1000 * h < 50 * t ∨ 950 * t < 1000 * h then .invalid
  else .valid (clampInt (-500) 3500 ((5000 * h / t : Nat) - 1000 : Int))

/-- The trip comparator on a raw conversion (R56). -/
def Ev.compareTrip (p : ProbeIx) (raw : Int) (e : Ev) : Ev :=
  match loadOf p with
  | none => e
  | some l =>
    let r := e.s.hlu.loads[l]
    if r.installed && !r.testing && !r.trip && decide (r.tripLimit ≤ raw) then
      ((e.on (State.shutLoad l (fun x => { x with trip := true }))).condHolds .overheat l.val).loadChanged l r.state
    else e

/-- A window with one more value, the oldest leaving four (R44). -/
def slide (w : List Int) (v : Int) : List Int := (if 4 ≤ w.length then w.drop 1 else w) ++ [v]

/-- The floored mean of a full window (R44). -/
def windowMean (w : List Int) : Int := w.sum / 4

/-- A valid conversion: run counts, window, the clearing of a fault, and the reading (R44, R45). -/
def Ev.validConversion (p : ProbeIx) (raw : Int) (e : Ev) : Ev :=
  let e0 := e.compareTrip p raw
  let r := e0.s.hlu.probes[p]
  let r1 : ProbeRec := { r with
    lastConversion := some (.valid raw), validRun := min 4 (r.validRun + 1), invalidRun := 0, window := slide r.window raw }
  let heal := r.faulted && decide (4 ≤ r1.validRun)
  let r2 := if heal then { r1 with lost := none, range := false } else r1
  let reads := !r2.faulted && decide (4 ≤ r2.window.length)
  let r3 := if reads then { r2 with reading := windowMean r2.window, settled := true } else r2
  let e1 := e0.on (State.setProbe p r3)
  let e2 := if heal then (e1.condEnds .probeLost p.val).condEnds .probeRange p.val else e1
  if reads then e2.readingUpdate p else e2

/-- An invalid conversion: run counts, and RANGE at the fourth in a row (R44, R45). -/
def Ev.invalidConversion (p : ProbeIx) (e : Ev) : Ev :=
  let r := e.s.hlu.probes[p]
  let r1 : ProbeRec := { r with lastConversion := some .invalid, invalidRun := min 4 (r.invalidRun + 1), validRun := 0 }
  if 4 ≤ r1.invalidRun then
    let e1 := (e.on (State.setProbe p { r1 with range := true })).condHolds .probeRange p.val
    if r.faulted then e1 else e1.probeFault p
  else e.on (State.setProbe p r1)

/-! ### Edges and overflows (R40 to R42) -/

/-- The capture counter brought up to date (log entry 3). -/
def ProbeRec.after (r : ProbeRec) (elapsed : Nat) : Nat := min 65535 (r.capture + elapsed)

/-- The level a line has taken. -/
def State.setLine (p : ProbeIx) (v : Level) (s : State) : State :=
  { s with pins := { s.pins with probes := s.pins.probes.set p v } }

/-- An accepted rising edge (R42). -/
def Ev.risingEdge (p : ProbeIx) (elapsed : Nat) (e : Ev) : Ev :=
  let r := e.s.hlu.probes[p]
  let e1 := e.on (fun s =>
    (s.setProbe p { r with lineLevel := .high, stale := 0, capture := 0, periodOpen := true, highTime := none }).setLine p .high)
  match r.periodOpen, r.highTime with
  | true, some h =>
    match convert (r.after elapsed) h with
    | .valid v => e1.validConversion p v
    | .invalid => e1.invalidConversion p
  | true, none => e1
  | false, _ => e1

/-- An accepted falling edge (R42). -/
def Ev.fallingEdge (p : ProbeIx) (elapsed : Nat) (e : Ev) : Ev :=
  let r := e.s.hlu.probes[p]
  e.on (fun s =>
    (s.setProbe p { r with
      lineLevel := .low, capture := r.after elapsed
      highTime := if r.periodOpen then some (r.after elapsed) else r.highTime }).setLine p .low)

/-- An overflow of the capture counter (R41). -/
def Ev.overflow (p : ProbeIx) (e : Ev) : Ev :=
  let r := e.s.hlu.probes[p]
  let r1 : ProbeRec := { r with capture := 0, stale := min 255 (r.stale + 1), periodOpen := false, highTime := none, validRun := 0 }
  if 3 ≤ r1.stale then
    let e1 := (e.on (State.setProbe p { r1 with lost := some r.lineLevel })).condHolds .probeLost p.val
    if r.faulted then e1 else e1.probeFault p
  else e.on (State.setProbe p r1)

/-! ### Output timing (R52, R53) -/

/-- A period end (R52). -/
def LoadRec.periodEnd (r : LoadRec) : LoadRec :=
  let shadow := r.preload * r.nextPeriod / 1000
  { r with period := r.nextPeriod, shadow := shadow, phase := 0, output := decide (0 < shadow) }

/-- An output tick (R53). -/
def LoadRec.tick (r : LoadRec) : LoadRec :=
  let r1 := { r with phase := r.phase + 1 }
  if r1.period ≤ r1.phase then r1.periodEnd
  else if r1.shadow ≤ r1.phase then { r1 with output := false }
  else r1

/-! ### Trips, tests and verification (R57, R59, R60) -/

/-- RESET LOAD on a load, by its index (R57). -/
def Ev.resetLoad (l : LoadIx) (e : Ev) : Ev × Result :=
  let r := e.s.hlu.loads[l]
  let p := e.s.hlu.probes[controlProbe l]
  match r.state with
  | .testing => (e, .busy)
  | .faulted => (e, .unavailable)
  | .tripped =>
    if !r.installed || p.faulted || (p.settled && decide (r.tripLimit - 50 ≤ p.reading)) then (e, .unavailable)
    else (((e.on (fun s => (s.setLoad l { r with trip := false }).recompute l)).condEnds .overheat l.val), .ok)
  | .enabled => if r.installed then (e, .ok) else (e, .unavailable)

/-- The cutout test passes where 3500 dC is at or above TRIP LIMIT (R59). -/
def LoadRec.testPasses (r : LoadRec) : Bool := decide (r.tripLimit ≤ 3500)

/-- The test timer of a load runs out (R59). -/
def Ev.testCompletion (l : LoadIx) (e : Ev) : Ev :=
  let r := e.s.hlu.loads[l]
  if r.testing then
    let pass := r.testPasses
    let e1 := e.on (fun s => s.setLoad l
      { r with testing := false, lastTest := if pass then .pass else .fail, cutoutFail := !pass, testStation := none })
    let e2 := if pass then e1 else e1.raise .cutoutTestFail l.val
    let e3 := (e2.on (State.recompute l)).loadChanged l r.state
    match r.testStation with
    | some x =>
      e3.on (fun s => s.postNotice x (s.notice .load l.val .testResult (if pass then 0 else 1) r.tripLimit.toNat 0))
    | none => e3
  else e

/-- One load at a verification expiry (R60). -/
def Ev.verifyLoad (l : LoadIx) (e : Ev) : Ev :=
  let r := e.s.hlu.loads[l]
  if r.installed && !r.checkFail && decide (r.check ≠ checkOf l r.rating r.tripLimit) then
    ((e.on (State.shutLoad l (fun x => { x with checkFail := true }))).raise .configCheck l.val).loadChanged l r.state
  else e

/-- A verification expiry: the timer restarts and every installed load is checked (R60). DESIGN CHOICE (log entry 33): the
loads are taken in index order, L0 first. -/
def Ev.verify (e : Ev) : Ev :=
  (List.finRange 22).foldl (fun x l => x.verifyLoad l) (e.on (fun s => { s with hlu := { s.hlu with verifyLeft := 10 } }))

end Sys2Proof.Machine
end

