-- ==== Sys2Proof/Machine/Budget.lean ====
section
/-! DEFINITION. Sys2Proof/Machine/Budget.lean: the allocation of the power budget and its faults (3.2 to 3.5). -/

namespace Sys2Proof.Machine

open Sys2Proof

/-! ### What an allocation reads (R69 to R71) -/

/-- What an allocation reads of one load; `cls` is CLASS less 1. -/
structure Ask where
  installed : Bool
  cls : Fin 3
  rating : Nat
  demand : Nat
  minOn : Nat
  deriving DecidableEq, Repr

/-- Whether the current step of a channel has CRITICAL set (R10). -/
def State.critical (s : State) (c : Chan) : Bool :=
  match (s.fse.channels[c]).current with
  | some i => (s.fse.steps[i]).flags.critical
  | none => false

/-- The class of an oven load (R69). -/
def State.ovenClass (s : State) (c : Chan) : Fin 3 :=
  match (s.fse.channels[c]).state with
  | .hold => 0
  | .run => if s.critical c then 0 else 1
  | .idle | .stopped => 2

/-- The class of an installed load (R69). -/
def State.classOf (s : State) (l : LoadIx) : Fin 3 :=
  match ovenOf l, warmerOfLoad l with
  | some c, _ => s.ovenClass c
  | none, some w => if s.ppu.reserved (s.ppu.warmers[w]).kind then 1 else 2
  | none, none => if l = rinseLoad then 0 else if s.dlu.racks = [] then 2 else 1

/-- The demand of a load: its request at its rating, rounded up (R71). -/
def demandOf (q rating : Nat) : Nat := (q * rating + 999) / 1000

/-- What an allocation reads (R70). -/
def State.asks (s : State) : Vector Ask 22 :=
  table fun l =>
    let r := s.hlu.loads[l]
    if r.installed then
      { installed := true, cls := s.classOf l, rating := r.rating, demand := demandOf r.request r.rating, minOn := r.minOn }
    else { installed := false, cls := 2, rating := 0, demand := 0, minOn := r.minOn }

/-! ### The division (R72, R73) -/

/-- The installed loads of a class. -/
def members (v : Vector Ask 22) (c : Fin 3) : List LoadIx :=
  (List.finRange 22).filter (fun l => (v[l]).installed && decide ((v[l]).cls = c))

/-- S of a class (R72). -/
def classSum (v : Vector Ask 22) (c : Fin 3) : Nat := ((members v c).map (fun l => (v[l]).demand)).sum

/-- R at the start of a class: what the classes before it leave of A (R72). -/
def budgetFor (v : Vector Ask 22) (a : Nat) (c : Fin 3) : Nat :=
  match c with
  | 0 => a
  | 1 => a - classSum v 0
  | 2 => a - classSum v 0 - classSum v 1

/-- g of a load of a scaled class before the walk (R73). -/
def floorShare (v : Vector Ask 22) (c : Fin 3) (r : Nat) (l : LoadIx) : Nat := (v[l]).demand * r / classSum v c

/-- The units of a scaled class that the floors leave over (R73). -/
def leftover (v : Vector Ask 22) (c : Fin 3) (r : Nat) : Nat := r - ((members v c).map (floorShare v c r)).sum

/-- The load numbers in the order of the walk (R73). -/
def walkOrder (pointer : LoadIx) : List LoadIx := (List.finRange 22).map (fun k => pointer + k)

/-- The loads that receive a unit on the walk: the first of the class met with g below D, one for each unit left over.
No load receives two, as R73 shows. -/
def walked (v : Vector Ask 22) (c : Fin 3) (r : Nat) (pointer : LoadIx) : List LoadIx :=
  ((walkOrder pointer).filter (fun l =>
    (v[l]).installed && decide ((v[l]).cls = c) && decide (floorShare v c r l < (v[l]).demand))).take (leftover v c r)

/-- The grant of an installed load (R72, R73). DEDUCED (log entry 36): R84 says that the rinse booster is granted before
every other load; L20 takes its share of a scaled class 1 as R73 gives it, like the other loads of the class. -/
def grantOf (v : Vector Ask 22) (a : Nat) (pointer : LoadIx) (l : LoadIx) : Nat :=
  let c := (v[l]).cls
  let r := budgetFor v a c
  if (v[l]).installed then
    if classSum v c ≤ r then (v[l]).demand
    else floorShare v c r l + if (walked v c r pointer).contains l then 1 else 0
  else 0

/-- A grant as a fraction of the rating, and whether it falls below the minimum (R74). -/
def fractionOf (ask : Ask) (g : Nat) : Nat × Bool :=
  let f := g * 1000 / ask.rating
  if 0 < f ∧ f < ask.minOn then (0, true) else (f, false)

/-- The grants of one allocation in the record of R76. -/
def grantsOf (v : Vector Ask 22) (a : Nat) (pointer : LoadIx) : Vector LoadGrant 22 :=
  table fun l =>
    let g := grantOf v a pointer l
    let f := fractionOf v[l] g
    { installed := (v[l]).installed, cls := (v[l]).cls, demand := (v[l]).demand, grant := g, fraction := f.1, belowMin := f.2 }

/-- The units freed by R74. DEDUCED (log entry 35): they are those of the marked loads; a grant above 0 whose fraction floors
to 0 is not marked, and its units are not counted. -/
def freedUnits (grants : Vector LoadGrant 22) : Nat :=
  ((List.finRange 22).map (fun l => if (grants[l]).belowMin then (grants[l]).grant else 0)).sum

/-- The allocation record (R76). -/
def allocationOf (v : Vector Ask 22) (a : Nat) (pointer : LoadIx) (cause : AllocCause) (now : Nat) : Allocation :=
  let grants := grantsOf v a pointer
  { at_ := now
    cause := cause
    aUsed := a
    pointerUsed := pointer
    unused := (a - classSum v 0 - classSum v 1 - classSum v 2) + freedUnits grants
    sums := table (fun c => classSum v c)
    outcomes := table (fun c => if classSum v c ≤ budgetFor v a c then .full else .scaled)
    loads := grants }

/-! ### The hand-over and the faults (R75, R77, R80, R81) -/

/-- The grants of an allocation are handed to the installed loads, and A IN FORCE takes A USED (R77). The hand-over
follows the reading within one event, so no RATING has changed between. -/
def State.handGrants (r : Allocation) (s : State) : State :=
  let t := (List.finRange 22).foldl (fun (x : State) (l : LoadIx) =>
    if (r.loads[l]).installed then x.handGrant l (r.loads[l]).fraction else x) s
  t.setPba { t.pba with inForce := r.aUsed }

/-- The lowest-numbered class-1 load that is short (R80). -/
def Allocation.shortLoad (r : Allocation) : Option LoadIx :=
  (List.finRange 22).find? (fun l =>
    (r.loads[l]).installed && decide ((r.loads[l]).cls = 0) && decide ((r.loads[l]).grant < (r.loads[l]).demand))

/-- The lowest-numbered installed load with a demand (R81). -/
def Allocation.wanting (r : Allocation) : Option LoadIx :=
  (List.finRange 22).find? (fun l => (r.loads[l]).installed && decide (0 < (r.loads[l]).demand))

/-- NO HEADROOM is cleared, and its end reported for the source kept (R81). -/
def Ev.clearHeadroom (e : Ev) : Ev :=
  let b := e.s.pba
  if b.noHeadroom then
    let e1 := e.on (fun s => s.setPba { b with noHeadroom := false, headroomSource := none })
    match b.headroomSource with
    | some l => e1.condEnds .noHeadroom l.val
    | none => e1
  else e

/-- NO HEADROOM is judged at an allocation (R81). -/
def Ev.judgeHeadroom (r : Allocation) (e : Ev) : Ev :=
  match if r.aUsed = 0 then r.wanting else none with
  | some l =>
    if e.s.pba.noHeadroom then e
    else (e.on (fun s => s.setPba { s.pba with noHeadroom := true, headroomSource := some l })).condHolds .noHeadroom l.val
  | none => e.clearHeadroom

/-- An allocation: the grants, the pointer and the count, the record, the hand-over, and the faults (3.3). -/
def Ev.allocate (cause : AllocCause) (e : Ev) : Ev :=
  let b := e.s.pba
  let r := allocationOf e.s.asks b.available b.pointer cause e.s.clock
  let e1 := e.on (fun s =>
    (s.setPba { b with pointer := b.pointer + 1, count := (b.count + 1) % 65536, last := r }).handGrants r)
  let e2 := match r.shortLoad with
    | some l => e1.raise .safetyShort l.val
    | none => e1
  e2.judgeHeadroom r

/-- The interval timer restarts with INTERVAL (R68). -/
def State.restartInterval (s : State) : State := s.setPba { s.pba with timerLeft := s.pba.interval }

/-- The interval timer expires (R68). -/
def Ev.intervalExpiry (e : Ev) : Ev := (e.allocate .interval).on State.restartInterval

/-- AVAILABLE from CAP and UNMANAGED (R63). -/
def availableOf (cap unmanaged : Nat) : Nat := if unmanaged < cap then cap - unmanaged else 0

/-- CAP, UNMANAGED and INTERVAL are written, and the change of A is acted on (R65, R67, R81). -/
def Ev.setBudget (cap unmanaged interval : Nat) (e : Ev) : Ev :=
  let before := e.s.pba.available
  let now := availableOf cap unmanaged
  let e1 := e.on (fun s => s.setPba { s.pba with cap := cap, unmanaged := unmanaged, interval := interval, available := now })
  if now < before then (e1.allocate .cut).on State.restartInterval
  else if before = 0 ∧ 0 < now then e1.clearHeadroom
  else e1

end Sys2Proof.Machine
end

