-- ==== Sys2Proof/Machine/Schedule.lean ====
section
/-! DEFINITION. Sys2Proof/Machine/Schedule.lean: the Fire Schedule Engine at work (1.4 to 1.6): beginning and ending steps, moving on,
ending chains, and what it does with each report the other blocks hand it. -/

namespace Sys2Proof.Machine

open Sys2Proof

/-! ### Records and readings -/

/-- The record that follows record `i`: its NEXT INDEX with LINK, otherwise the next index, none after 511 (R19). -/
def StepRec.next (r : StepRec) (i : StepIx) : Option StepIx :=
  if r.flags.link then index 512 r.nextIndex else index 512 (i.val + 1)

/-- Whether a kind carries SETPOINT (R1). -/
def StepKind.carriesSetpoint : StepKind → Bool
  | .heat | .soak | .core | .waitPlates | .drawPlates | .call => true
  | .note | .finish => false

/-- Whether a chain goes on after an outcome of a step (R29). -/
def StepRec.goesOn (r : StepRec) (outcome : StepOutcome) : Bool :=
  if r.kind = .finish then false
  else match outcome with
    | .normal | .early | .notPosted => true
    | .timeout | .unanswered | .short | .noReservation => r.flags.tolerate
    | .halted | .fault | .probeFault | .linkLost | .conflict | .starved | .skipped | .notRun => false

/-- The reading in force of a probe, none while it is UNSETTLED (R38). -/
def ProbeRec.now (p : ProbeRec) : Option Int := if p.settled then some p.reading else none

def State.cavityNow (s : State) (c : Chan) : Option Int := (s.hlu.probes[cavityProbe c]).now
def State.coreNow (s : State) (c : Chan) : Option Int := (s.hlu.probes[coreProbe c]).now

/-- The record a channel in RUN has in hand. -/
def State.running (s : State) (c : Chan) : Option (StepIx × StepRec) :=
  let ch := s.fse.channels[c]
  if ch.state = .run then ch.current.map (fun i => (i, s.fse.steps[i])) else none

/-- A channel record is changed. -/
def State.onChan (c : Chan) (f : ChanRec → ChanRec) (s : State) : State := s.setChan c (f s.fse.channels[c])

/-- A droppable channel notice to the OWNING STATION (R27, R30). -/
def State.chanNotice (c : Chan) (code : NoticeCode) (p1 p2 p3 : Nat) (s : State) : State :=
  match (s.fse.channels[c]).owner with
  | some x => s.postNotice x (s.notice .channel c.val code p1 p2 p3)
  | none => s

/-- The channel's state and setpoint are handed to its oven load (R10, R49). -/
def State.handOven (c : Chan) (s : State) : State :=
  let ch := s.fse.channels[c]
  let l := ovenLoad c
  match ch.state with
  | .run => s.handSetpoint l ch.inForce true
  | .hold => s.handSetpoint l ch.holdSetpoint true
  | .idle | .stopped => s.handSetpoint l (s.hlu.loads[l]).setpoint false

/-! ### Waiting sets of the engine (R9, R24, R26) -/

def Fse.waitEntry (f : Fse) (c : Chan) : Fse :=
  { f with entryWaiters := if f.entryWaiters.contains c then f.entryWaiters else f.entryWaiters ++ [c] }
def Fse.waitPlace (f : Fse) (c : Chan) : Fse :=
  { f with placeWaiters := if f.placeWaiters.contains c then f.placeWaiters else f.placeWaiters ++ [c] }
def Fse.leaveEntry (f : Fse) (c : Chan) : Fse := { f with entryWaiters := f.entryWaiters.filter (fun d => decide (d ≠ c)) }
def Fse.leavePlace (f : Fse) (c : Chan) : Fse := { f with placeWaiters := f.placeWaiters.filter (fun d => decide (d ≠ c)) }

def State.onFse (f : Fse → Fse) (s : State) : State := { s with fse := f s.fse }

/-! ### Giving back (R24 to R26, R35) -/

/-- The held reservation is cancelled, RESERVATION being none first (R24, R35, R121). -/
def Ev.cancelHeld (c : Chan) (e : Ev) : Ev :=
  match (e.s.fse.channels[c]).reservation with
  | some (i, n) => (e.on (State.onChan c (fun ch => { ch with reservation := none }))).cancelEntry i n
  | none => e

/-- The held reservation is closed at its drawn count (R25, R121). -/
def Ev.closeHeld (c : Chan) (e : Ev) : Ev :=
  match (e.s.fse.channels[c]).reservation with
  | some (i, n) => (e.on (State.onChan c (fun ch => { ch with reservation := none }))).closeEntry i n
  | none => e

/-- The page of the channel is cancelled or detached (R26, R35). -/
def Ev.releaseHeld (c : Chan) (e : Ev) : Ev :=
  match (e.s.fse.channels[c]).page with
  | some n => (e.on (State.onChan c (fun ch => { ch with page := none }))).releasePage c n
  | none => e

/-! ### Ending a chain (R33 to R36) -/

/-- The completion record of a step record returned without running (R6). -/
def Completion.unrun (outcome : StepOutcome) (now : Nat) (c : Chan) : Completion := ⟨outcome, now, 0, 0, 0, 0, some c⟩

/-- The release walk; every record it visits is returned, and it stops at a record it has returned, so one more turn
than the store has records is enough (R34). -/
def State.releaseWalk (c : Chan) : Nat → Option StepIx → State → State
  | 0, _, s => s
  | _ + 1, none, s => s
  | n + 1, some i, s =>
    let r := s.fse.steps[i]
    if r.owner = .engine ∧ r.claim = none then
      let s1 := s.setStep i { r with owner := .station, completion := Completion.unrun .notRun s.clock c }
      if r.kind = .finish then s1 else s1.releaseWalk c n (r.next i)
    else s

/-- The state a channel enters, with its HOLD SETPOINT, when a chain ends with this outcome; `holdAt` is the HOLD
SETPOINT of an END record that ended it (R33). -/
def ChanRec.entering (ch : ChanRec) (outcome : StepOutcome) (byEnd : Bool) (holdAt : Option Int) : ChanRec :=
  if byEnd then
    match holdAt with
    | some v => { ch with state := .hold, holdSetpoint := v }
    | none => { ch with state := .idle }
  else if outcome = .halted then { ch with state := .idle }
  else if outcome = .fault then { ch with state := .stopped }
  else { ch with state := .hold, holdSetpoint := ch.fallback }

/-- The ENDED notice of an ending record (R36, R213). -/
def Ending.notice (n : Ending) : Notice where
  source := .channel
  index := n.channel.val
  code := .ended
  p1 := n.lastStep.val
  p2 := n.outcome.code
  p3 := 256 * n.entered.code + if n.superseded then 1 else 0
  time := n.endedAt

/-- A channel joins the waiting set of a station (R36, R210). -/
def State.joinWaiting (x : Station) (c : Chan) (s : State) : State :=
  let q := s.sp.queues[x]
  s.setQueue x { q with waiting := if q.waiting.contains c then q.waiting else q.waiting ++ [c] }

/-- An ending is posted to the OWNING STATION, or stacked where the queue is full; LAST ENDING keeps it (R36, R37). -/
def State.postEnding (c : Chan) (last : StepIx) (outcome : StepOutcome) (s : State) : State :=
  let ch := s.fse.channels[c]
  match ch.owner with
  | none => s
  | some x =>
    let n : Ending :=
      { channel := c, lastStep := last, outcome := outcome, entered := ch.state, endedAt := s.clock, superseded := false, owedTo := x }
    if s.noticeRoom x then
      (s.postNotice x n.notice).setChan c
        { ch with lastEnding := some n, owner := if ch.state = .idle then none else ch.owner }
    else
      let m := { n with superseded := ch.stacked.isSome }
      (s.joinWaiting x c).setChan c { ch with stacked := some m, lastEnding := some m }

/-- A chain ends: the release walk, the state entered, what the channel gives back, and the ENDED notice (R28, R33 to
R36). `byEnd` is true for an END step. -/
def Ev.endChain (c : Chan) (outcome : StepOutcome) (byEnd : Bool) (holdAt : Option Int) (walkFrom : Option StepIx)
    (e : Ev) : Ev :=
  let last := (e.s.fse.channels[c]).current
  let e1 := if byEnd then e else e.on (State.releaseWalk c 513 walkFrom)
  let e2 := e1.on (fun s =>
    (s.onChan c (fun ch => { ch.entering outcome byEnd holdAt with
      current := none, prefetched := none, stepTimer := false, repeated := false, delayedEnd := none })).handOven c)
  let e3 := (e2.cancelHeld c).on (State.onFse (fun f => (f.leaveEntry c).leavePlace c))
  let e4 := e3.releaseHeld c
  match last with
  | some i => e4.on (State.postEnding c i outcome)
  | none => e4

/-! ### Ending a step (R30, R31) -/

/-- The completion record of a step that ends (R6). -/
def ChanRec.completion (ch : ChanRec) (r : StepRec) (outcome : StepOutcome) (now : Nat) (c : Chan) : Completion where
  outcome := outcome
  endedAt := now
  elapsed := ch.elapsed
  counted := if r.kind = .soak then ch.counted else 0
  cavityMin := (ch.extremes.getD (0, 0)).1
  cavityMax := (ch.extremes.getD (0, 0)).2
  channel := some c

/-- Steps 1 to 4 of R30: completion, claim, return and STEP DONE. -/
def State.closeStep (c : Chan) (i : StepIx) (outcome : StepOutcome) (s : State) : State :=
  let r := s.fse.steps[i]
  let ch := s.fse.channels[c]
  let kept := r.goesOn outcome && r.flags.retain
  let s1 := s.setStep i
    { r with completion := ch.completion r outcome s.clock c, claim := none, owner := if kept then r.owner else .station }
  let s2 := s1.onChan c (fun h => { h with stepTimer := false, repeated := false, delayedEnd := none })
  if r.flags.notify then s2.chanNotice c .stepDone i.val outcome.code ch.elapsed else s2

/-- SKIP is applied to the record after an EARLY step (R31). -/
def Ev.skipStep (c : Chan) (j : Option StepIx) (e : Ev) : Ev :=
  match j with
  | none => e.endChain c .starved false none none
  | some i =>
    let r := e.s.fse.steps[i]
    if r.owner ≠ .engine then e.endChain c .starved false none j
    else if r.claim.isSome then e.endChain c .conflict false none j
    else
      (e.on (fun s => s.setStep i
        { r with completion := Completion.unrun .skipped s.clock c, owner := if r.flags.retain then r.owner else .station })).handFirst
        (.moveOn c (r.next i))

/-- A step ends with an outcome (R29 to R31). -/
def Ev.endStep (c : Chan) (outcome : StepOutcome) (e : Ev) : Ev :=
  match e.s.running c with
  | none => e
  | some (i, r) =>
    let next := (e.s.fse.channels[c]).prefetched
    let e1 := e.on (State.closeStep c i outcome)
    if r.goesOn outcome then
      if r.flags.skip && decide (outcome = .early) then e1.skipStep c next else e1.handFirst (.moveOn c next)
    else e1.endChain c outcome (decide (r.kind = .finish ∧ outcome = .normal)) r.holdSetpoint next

/-- An end that a kind's rule makes: at once, or, for a record begun again within this event, at the first expiry of
its timer (R19). -/
def Ev.endByKind (c : Chan) (outcome : StepOutcome) (e : Ev) : Ev :=
  if e.again.contains c then
    e.on (State.onChan c (fun ch => { ch with delayedEnd := match ch.delayedEnd with
      | some o => some o
      | none => some outcome }))
  else e.endStep c outcome

/-! ### The kinds' own work (R21 to R28) -/

/-- The ending condition that HEAT, SOAK and CORE test on a reading (R21 to R23); none where it is not met. -/
def State.readingEnd (s : State) (c : Chan) (r : StepRec) : Option StepOutcome :=
  match r.kind with
  | .heat =>
    match s.cavityNow c with
    | some v => if r.setpoint - r.band ≤ v then some .normal else none
    | none => none
  | .soak =>
    match s.coreNow c, r.coreTarget with
    | some v, some t => if t ≤ v then some .early else none
    | some _, none | none, some _ | none, none => none
  | .core =>
    match s.coreNow c, r.coreTarget with
    | some v, some t => if t ≤ v then some .normal else none
    | some _, none | none, some _ | none, none => none
  | .waitPlates | .drawPlates | .call | .note | .finish => none

/-- The step in hand ends where its ending condition on a reading is met. -/
def Ev.testReading (c : Chan) (r : StepRec) (e : Ev) : Ev :=
  match e.s.readingEnd c r with
  | some o => e.endByKind c o
  | none => e

/-- The channel asks for its reservation (R24, R112). -/
def Ev.askPlates (c : Chan) (r : StepRec) (e : Ev) : Ev :=
  let a := e.requestPlates c r.plateKind r.count
  match a.2 with
  | .overCapacity => a.1.endByKind c .noReservation
  | .full => a.1.on (State.onFse (fun f => f.waitEntry c))
  | .created i n st =>
    let e1 := a.1.on (State.onChan c (fun ch => { ch with reservation := some (i, n) }))
    if st = .ready then e1.endByKind c .normal else e1

/-- The channel submits its page (R26, R172). The page fields of a CALL record were checked when it was written (R4). -/
def Ev.askPage (c : Chan) (r : StepRec) (e : Ev) : Ev :=
  match submissionOf r.page with
  | none => e
  | some sub =>
    let g := e.s.pgu
    let owner := (e.s.fse.channels[c]).owner
    if g.room then
      if r.flags.waitAck then
        (e.on (State.onChan c (fun ch => { ch with page := some g.comingNumber }))).submit sub (.channel c) owner .channel
      else (e.submit sub (.channel c) owner .station).endByKind c .normal
    else e.on (State.onFse (fun f => f.waitPlace c))

/-- Whether the notice queue of the OWNING STATION has room. -/
def State.ownerRoom (c : Chan) (s : State) : Bool :=
  match (s.fse.channels[c]).owner with
  | some x => s.noticeRoom x
  | none => false

/-- A NOTE step posts its notice, which gives its outcome (R27). -/
def Ev.postNote (c : Chan) (i : StepIx) (r : StepRec) (e : Ev) : Ev :=
  (e.on (fun s => s.chanNotice c .stepNote i.val r.noteCode 0)).endStep c
    (if e.s.ownerRoom c then .normal else .notPosted)

/-- The kind's own work at the begin of a record; `again` is true for a record begun again within the event (R19, R21
to R28). -/
def Ev.beginKind (c : Chan) (i : StepIx) (r : StepRec) (again : Bool) (e : Ev) : Ev :=
  match r.kind with
  | .heat | .soak | .core => e.testReading c r
  | .waitPlates => (e.cancelHeld c).askPlates c r
  | .drawPlates => if (e.s.fse.channels[c]).reservation.isNone then e.endByKind c .noReservation else e
  | .call => e.askPage c r
  | .note => if again then e else e.postNote c i r
  | .finish => e.endByKind c .normal

/-- A channel begins a record (R19). -/
def Ev.beginStep (c : Chan) (i : StepIx) (e : Ev) : Ev :=
  let r := e.s.fse.steps[i]
  let again := e.begun.contains (c, i)
  let e1 : Ev :=
    { e with
      begun := (c, i) :: e.begun
      again := if again then c :: e.again else e.again.filter (fun d => decide (d ≠ c)) }
  let e2 := e1.on (fun s =>
    ((s.setStep i { r with claim := some c }).onChan c (fun ch =>
      { ch with
        current := some i
        elapsed := 0
        counted := 0
        stepTimer := again || (decide (r.kind ≠ .note) && decide (r.kind ≠ .finish))
        extremes := (s.cavityNow c).map (fun v => (v, v))
        prefetched := r.next i
        inForce := if r.kind.carriesSetpoint then r.setpoint else ch.inForce
        repeated := again
        delayedEnd := none })).handOven c)
  e2.beginKind c i r again

/-- A channel moves on to a record (R32). -/
def Ev.moveOn (c : Chan) (next : Option StepIx) (e : Ev) : Ev :=
  match next with
  | none => e.endChain c .starved false none none
  | some i =>
    let r := e.s.fse.steps[i]
    if r.owner ≠ .engine then e.endChain c .starved false none next
    else if r.claim.isSome then e.endChain c .conflict false none next
    else e.beginStep c i

/-! ### The step timer (R20) -/

/-- The effects of a LIMIT expiry, and the end of the step (R20, R24 to R26). -/
def Ev.timeout (c : Chan) (r : StepRec) (e : Ev) : Ev :=
  let e1 := match r.kind with
    | .waitPlates => (e.cancelHeld c).on (State.onFse (fun f => f.leaveEntry c))
    | .drawPlates => e.closeHeld c
    | .call => (e.on (State.onFse (fun f => f.leavePlace c))).releaseHeld c
    | .heat | .soak | .core | .note | .finish => e
  e1.endStep c .timeout

/-- Whether the reservation that a channel holds stands WAITING. -/
def State.heldWaiting (s : State) (c : Chan) : Bool :=
  match (s.fse.channels[c]).reservation with
  | some (i, n) =>
    match s.ppu.named i n with
    | some r => decide (r.state = .waiting)
    | none => false
  | none => false

/-- What the first expiry of a record begun again does before the steps of R20: the outcome it ends with, if it ends
there (R19). A NOTE step is told apart by its caller. -/
def State.firstExpiry (s : State) (c : Chan) (r : StepRec) : Option StepOutcome :=
  match r.kind with
  | .heat | .soak | .core => s.readingEnd c r
  | .waitPlates => if s.heldWaiting c then none else (s.fse.channels[c]).delayedEnd
  | .drawPlates | .call | .finish => (s.fse.channels[c]).delayedEnd
  | .note => none

/-- COUNTED is judged for a SOAK step (R22). -/
def State.countSoak (c : Chan) (r : StepRec) (s : State) : State :=
  if r.kind = .soak then
    match s.cavityNow c with
    | some v =>
      if r.setpoint - r.band ≤ v ∧ v ≤ r.setpoint + r.band then
        s.onChan c (fun ch => { ch with counted := min 65535 (ch.counted + 1) })
      else s
    | none => s
  else s

/-- Steps 1 and 2 of R20. -/
def Ev.timeSteps (c : Chan) (r : StepRec) (e : Ev) : Ev :=
  let e1 := e.on (State.countSoak c r)
  let ch := e1.s.fse.channels[c]
  if r.kind = .soak ∧ r.duration ≤ ch.counted then e1.endStep c .normal
  else if r.limit ≠ 0 ∧ r.limit ≤ ch.elapsed ∧ r.kind.carriesSetpoint then e1.timeout c r
  else e1

/-- An expiry of the step timer (R19, R20). -/
def Ev.stepSecond (c : Chan) (e : Ev) : Ev :=
  match e.s.running c with
  | none => e
  | some (i, r) =>
    let ch := e.s.fse.channels[c]
    if ch.stepTimer then
      let e1 := e.on (State.onChan c (fun h => { h with elapsed := min 65535 (h.elapsed + 1), repeated := false, delayedEnd := none }))
      if ch.repeated then
        if r.kind = .note then e1.postNote c i r
        else match e.s.firstExpiry c r with
          | some o => e1.endStep c o
          | none => e1.timeSteps c r
      else e1.timeSteps c r
    else e

/-! ### Faults, silence and readings (R17, R18, R21 to R23) -/

/-- A fault event of the oven (R17). DEDUCED (log entry 19): it ends a record begun again within the same event at once. -/
def Ev.ovenFault (c : Chan) (e : Ev) : Ev :=
  let ch := e.s.fse.channels[c]
  match ch.state with
  | .run => e.endStep c .fault
  | .hold =>
    let e1 := e.on (fun s => (s.onChan c (fun h => { h with state := .stopped })).handOven c)
    match ch.lastEnding with
    | some n => e1.on (State.postEnding c n.lastStep .fault)
    | none => e1
  | .idle | .stopped => e

/-- The core probe of a channel enters a fault (R17, R22, R23). DEDUCED (log entry 19): it ends a record begun again within the
same event at once. -/
def Ev.coreFault (c : Chan) (e : Ev) : Ev :=
  match e.s.running c with
  | some (_, r) => if (r.kind = .soak ∧ r.coreTarget.isSome) ∨ r.kind = .core then e.endStep c .probeFault else e
  | none => e

/-- A cavity reading update: the extremes, and the HEAT test (R19, R21). -/
def Ev.cavityReading (c : Chan) (e : Ev) : Ev :=
  match e.s.running c, e.s.cavityNow c with
  | some (_, r), some v =>
    let e1 := e.on (State.onChan c (fun ch => { ch with extremes := match ch.extremes with
      | some (a, b) => some (min a v, max b v)
      | none => some (v, v) }))
    if r.kind = .heat then e1.testReading c r else e1
  | some _, none | none, some _ | none, none => e

/-- A core reading update: the SOAK and CORE tests (R22, R23). -/
def Ev.coreReading (c : Chan) (e : Ev) : Ev :=
  match e.s.running c with
  | some (_, r) => if r.kind = .soak ∨ r.kind = .core then e.testReading c r else e
  | none => e

/-! ### Reports of the plate pool and the paging unit (R24 to R26, R124) -/

/-- The reservation of a channel became READY (R24, R124). -/
def Ev.entryReady (c : Chan) (i : ResIx) (n : Nat) (e : Ev) : Ev :=
  match e.s.running c with
  | some (_, r) =>
    if r.kind = .waitPlates ∧ (e.s.fse.channels[c]).reservation = some (i, n) then e.endByKind c .normal else e
  | none => e

/-- The reservation of a channel ended DONE or SHORT (R25, R124). -/
def Ev.entryEnded (c : Chan) (i : ResIx) (n : Nat) (short : Bool) (e : Ev) : Ev :=
  if (e.s.fse.channels[c]).reservation = some (i, n) then
    let e1 := e.on (State.onChan c (fun ch => { ch with reservation := none }))
    match e1.s.running c with
    | some (_, r) => if r.kind = .drawPlates then e1.endByKind c (if short then .short else .normal) else e1
    | none => e1
  else e

/-- A table entry has become free: one waiting channel is served (R24). -/
def Ev.entryFree (e : Ev) : Ev :=
  match nextServed e.s.fse.entryServed e.s.fse.entryWaiters with
  | none => e
  | some c =>
    let e1 := e.on (State.onFse (fun f => { f.leaveEntry c with entryServed := c }))
    match e1.s.running c with
    | some (_, r) => if r.kind = .waitPlates then e1.askPlates c r else e1
    | none => e1

/-- A page queue place has become free: one waiting channel is served (R26). -/
def Ev.placeFree (e : Ev) : Ev :=
  match nextServed e.s.fse.placeServed e.s.fse.placeWaiters with
  | none => e
  | some c =>
    let e1 := e.on (State.onFse (fun f => { f.leavePlace c with placeServed := c }))
    match e1.s.running c with
    | some (_, r) => if r.kind = .call then e1.askPage c r else e1
    | none => e1

/-- The page of a channel ended (R26). -/
def Ev.pageEnded (c : Chan) (n : Nat) (outcome : PageOutcome) (e : Ev) : Ev :=
  if (e.s.fse.channels[c]).page = some n then
    let e1 := e.on (State.onChan c (fun ch => { ch with page := none }))
    match e1.s.running c with
    | some (_, r) => if r.kind = .call then e1.endByKind c (if outcome = .done then .normal else .unanswered) else e1
    | none => e1
  else e

/-- A station has reached its LONG SILENCE with ACTION HOLD (R18). DEDUCED (log entry 19): it ends a record begun again within
the same event at once. -/
def Ev.linkLost (c : Chan) (x : Station) (e : Ev) : Ev :=
  if (e.s.fse.channels[c]).owner = some x then
    match e.s.running c with
    | some _ => e.endStep c .linkLost
    | none => e
  else e

/-! ### The engine takes what it is handed -/

/-- The engine takes one report. -/
def Ev.take (r : Report) (e : Ev) : Ev :=
  match r with
  | .moveOn c next => e.moveOn c next
  | .cavityReading c => e.cavityReading c
  | .coreReading c => e.coreReading c
  | .ovenFault c => e.ovenFault c
  | .coreFault c => e.coreFault c
  | .entryReady c i n => e.entryReady c i n
  | .entryEnded c i n short => e.entryEnded c i n short
  | .entryFree => e.entryFree
  | .pageEnded c n outcome => e.pageEnded c n outcome
  | .placeFree => e.placeFree
  | .linkLost c x => e.linkLost c x

/-- Reports are taken in turn until none waits, at most `n` of them. -/
def Ev.drain : Nat → Ev → Ev
  | 0, e => e
  | n + 1, e =>
    match e.work with
    | [] => e
    | r :: w => Ev.drain n (Ev.take r { e with work := w })

/-- The state an event leaves when every report it caused has been taken. -/
def Ev.finish (e : Ev) : State := (e.drain Config.reportBound).s

end Sys2Proof.Machine
end

