-- ==== Sys2Proof/Machine/Answers.lean ====
section
/-! DEFINITION. Sys2Proof/Machine/Answers.lean: how an event closes, and how a command is answered (R205). -/

namespace Sys2Proof.Machine

open Sys2Proof

/-- The answer last given to a station is kept with its port. -/
def State.setAnswer (x : Station) (a : Answer) (s : State) : State := s.setPort x { s.sp.ports[x] with answer := some a }

/-- An event of the part closes: everything it caused has been taken. -/
def happened (e : Ev) : Host.Outcome State Fault Refusal := .next e.finish

/-- A command closes with its answer (log entry 5: a command that is put to its block by its own row, and not carried
by a frame, is answered without the port's receiver and timers having a part in it). -/
def concluded (x : Station) (code : Byte) (r : Ev × Response) : Host.Outcome State Fault Refusal :=
  .next (r.1.finish.setAnswer x ⟨code, r.2⟩)

/-- A command that only reads. -/
def reading (x : Station) (code : Byte) (r : Response) (s : State) : Host.Outcome State Fault Refusal :=
  .next (s.setAnswer x ⟨code, r⟩)

/-- OK with a payload. -/
def okay (payload : List Byte) : Response := ⟨.ok, payload⟩

/-- An index operand is judged, and the command goes on with the object or is refused BAD ARGUMENT (R206). -/
def withIndex {n : Nat} (v : Nat) (e : Ev) (f : Fin n → Ev × Response) : Ev × Response :=
  match index n v with
  | some i => f i
  | none => (e, refuse .badArgument)

/-- The same for a command that only reads. -/
def readIndex {n : Nat} (v : Nat) (f : Fin n → Response) : Response :=
  match index n v with
  | some i => f i
  | none => refuse .badArgument

end Sys2Proof.Machine
end

