-- ==== Sys2Proof/Machine/BudgetCommands.lean ====
section
/-! DEFINITION. Sys2Proof/Machine/BudgetCommands.lean: the commands of chapter 3 and the interval timer. -/

namespace Sys2Proof.Machine

open Sys2Proof

/-- SET CAP (R66). -/
def cmdSetCap (cap : BitVec 16) (e : Ev) : Ev × Response :=
  (e.setBudget (clampNat 0 65000 cap.toNat) e.s.pba.unmanaged e.s.pba.interval, ⟨taken (decide (65000 < cap.toNat)), []⟩)

/-- Whether a value of SET BUDGET stands outside its range (R67). -/
def budgetClamped (cap unmanaged : BitVec 16) (interval : Byte) : Bool :=
  decide (65000 < cap.toNat) || decide (65000 < unmanaged.toNat) || decide (interval.toNat < 1) || decide (30 < interval.toNat)

/-- SET BUDGET (R67). -/
def cmdSetBudget (cap unmanaged : BitVec 16) (interval : Byte) (e : Ev) : Ev × Response :=
  (e.setBudget (clampNat 0 65000 cap.toNat) (clampNat 0 65000 unmanaged.toNat) (clampNat 1 30 interval.toNat),
    ⟨taken (budgetClamped cap unmanaged interval), []⟩)

/-- A field of every load of an allocation, in index order (R215). -/
def perLoad (r : Allocation) (f : LoadGrant → List Byte) : List Byte :=
  ((List.finRange 22).map (fun l => f r.loads[l])).flatten

/-- LAST ALLOCATION in the order of R76 (R82, R215). -/
def Allocation.bytes (r : Allocation) : List Byte :=
  u32 r.at_ ++ u8 r.cause.code ++ u16 r.aUsed ++ u8 r.pointerUsed.val
    ++ ((List.finRange 3).map (fun c => u24 r.sums[c])).flatten
    ++ ((List.finRange 3).map (fun c => u8 (r.outcomes[c]).code)).flatten
    ++ u16 r.unused
    ++ perLoad r (fun g => mark g.installed) ++ perLoad r (fun g => u8 (g.cls.val + 1))
    ++ perLoad r (fun g => u16 g.demand) ++ perLoad r (fun g => u16 g.grant) ++ perLoad r (fun g => u16 g.fraction)
    ++ perLoad r (fun g => mark g.belowMin)

/-- READ BUDGET (R82). -/
def ansReadBudget (s : State) : Response :=
  let b := s.pba
  okay (u16 b.cap ++ u16 b.unmanaged ++ u16 b.available ++ u16 b.inForce ++ u8 b.interval ++ u8 b.timerLeft
    ++ u8 b.pointer.val ++ u16 b.count ++ mark b.noHeadroom ++ b.last.bytes)

def execSetCap (x : Station) (cap : BitVec 16) (s : State) : Host.Outcome State Fault Refusal :=
  concluded x 0x30 (cmdSetCap cap (Ev.start s))

def execSetBudget (x : Station) (cap unmanaged : BitVec 16) (interval : Byte) (s : State) : Host.Outcome State Fault Refusal :=
  concluded x 0x31 (cmdSetBudget cap unmanaged interval (Ev.start s))

def execReadBudget (x : Station) (s : State) : Host.Outcome State Fault Refusal := reading x 0x32 (ansReadBudget s) s

/-- INTERVAL_EXPIRY (R68). -/
def execIntervalExpiry (s : State) : Host.Outcome State Fault Refusal := happened (Ev.start s).intervalExpiry

end Sys2Proof.Machine
end

