-- ==== Sys2Proof/Machine/DishCommands.lean ====
section
/-! DEFINITION. Sys2Proof/Machine/DishCommands.lean: the commands on the dish line, and the events of its lines and timers (chapter 6). -/

namespace Sys2Proof.Machine

open Sys2Proof

/-- LABEL RACK (R129). -/
def cmdLabelRack (kind count : Byte) (e : Ev) : Ev × Response :=
  withIndex kind.toNat e fun (k : Kind) =>
    if count.toNat = 0 then (e, refuse .badArgument)
    else if Config.labelRoom ≤ e.s.dlu.labels.length then (e, refuse .full)
    else
      let e1 := e.on (fun s => s.setDlu { s.dlu with labels := s.dlu.labels ++ [⟨k, min 60 count.toNat⟩] })
      (e1, ⟨taken (decide (60 < count.toNat)), u8 e1.s.dlu.labels.length⟩)

/-! ### SET DISH (R127) -/

/-- The settings as carried. -/
def DishSettings.carried (im : DishImage) (station : Station) : DishSettings where
  rinseSetpoint := dC im.rinseSetpoint
  washSetpoint := dC im.washSetpoint
  rinseMin := dC im.rinseMin
  dwellMin := im.dwellMin.toNat
  dwellMax := im.dwellMax.toNat
  groupM := im.groupM.toNat
  mmPerPulse := im.mmPerPulse.toNat
  machineLength := im.machineLength.toNat
  high := im.high.toNat
  low := im.low.toNat
  holdTime := im.holdTime.toNat
  clearingRole := im.clearingRole.toNat
  holdMessage := im.holdMessage.toNat
  releaseMessage := im.releaseMessage.toNat
  dishStation := station

/-- The settings brought to their ranges, in the two further steps as well (R126, R127). -/
def DishSettings.inRange (d : DishSettings) : DishSettings :=
  let dwellMin := clampNat 1 600 d.dwellMin
  let high := clampNat 1 9999 d.high
  { d with
    rinseSetpoint := clampInt 0 3500 d.rinseSetpoint
    washSetpoint := clampInt 0 3500 d.washSetpoint
    rinseMin := clampInt 0 3500 d.rinseMin
    dwellMin := dwellMin
    dwellMax := max (dwellMin + 1) (clampNat 10 3600 d.dwellMax)
    groupM := clampNat 4 64 d.groupM
    mmPerPulse := clampNat 1 100 d.mmPerPulse
    machineLength := clampNat 500 10000 d.machineLength
    high := high
    low := min (high - 1) d.low
    holdTime := clampNat 60 1800 d.holdTime }

/-- The group in progress is discarded; the base counter stops where it stands (R127). -/
def Conveyor.discard (c : Conveyor) : Conveyor := { c with groupOpen := false, pulses := 0, spannedStall := false }

/-- The setpoints of L20 and L21 are handed on (R128). -/
def State.handDish (s : State) : State :=
  let d := s.dlu.settings
  (s.handSetpoint rinseLoad d.rinseSetpoint (decide (0 < d.rinseSetpoint))).handSetpoint washLoad d.washSetpoint
    (decide (0 < d.washSetpoint))

/-- SET DISH (R127, R128). -/
def cmdSetDish (im : DishImage) (e : Ev) : Ev × Response :=
  withIndex im.dishStation.toNat e fun (station : Station) =>
    let carried := DishSettings.carried im station
    let d := carried.inRange
    let before := e.s.dlu.settings
    let e1 := e.on (fun s => (s.setDlu
      { s.dlu with
        settings := d
        conveyor := if d.groupM = before.groupM then s.dlu.conveyor else s.dlu.conveyor.discard }).handDish)
    let e2 := if d.dwellMin = before.dwellMin ∧ d.machineLength = before.machineLength then e1 else e1.judgeFast
    (e2, ⟨taken (decide (d ≠ carried)), []⟩)

/-! ### READ DISH (R149) -/

/-- All fifteen settings in the order of R126 (R149, R215). -/
def DishSettings.bytes (d : DishSettings) : List Byte :=
  s16 d.rinseSetpoint ++ s16 d.washSetpoint ++ s16 d.rinseMin ++ u16 d.dwellMin ++ u16 d.dwellMax ++ u8 d.groupM
    ++ u8 d.mmPerPulse ++ u16 d.machineLength ++ u16 d.high ++ u16 d.low ++ u16 d.holdTime ++ u8 d.clearingRole
    ++ u16 d.holdMessage ++ u16 d.releaseMessage ++ u8 d.dishStation.val

/-- A rack record in the order of R130, and its residence so far (R149, R215). UNLABELLED follows the kinds. -/
def RackRec.bytes (r : RackRec) (now : Nat) : List Byte :=
  u16 r.sequence ++ u8 r.noticeIndex ++ u8 r.count ++ u32 r.enteredAt ++ s16 r.minRinse ++ mark r.rinseFault ++ mark r.jam
    ++ u32 (secondsSince r.enteredAt now)

/-- A conveyor record in the order of R139; CONVEYOR STATE is MOVING or STALLED in that order (R215). -/
def Conveyor.bytes (c : Conveyor) : List Byte :=
  listed c.moving ++ mark c.seen ++ u8 c.pulses ++ mark c.groupOpen ++ u16 c.base ++ mark c.spannedStall
    ++ u24 c.speed ++ u16 c.lastGroupMs

/-- Flow control in the order of R143; FLOW STATE is FLOWING or HOLDING in that order (R215). DEDUCED (log entry 22): a
stopped REFRESH TIMER is an absent optional field, a presence byte 0 and two bytes 0. -/
def Flow.bytes (f : Flow) : List Byte :=
  listed (!f.holding) ++ u32 f.soiledTotal ++ u8 f.owed.code ++ optional 0 u16 f.refreshLeft

/-- STATE of READ DISH (R149). -/
def Dlu.stateBytes (d : Dlu) : List Byte :=
  u8 d.racks.length ++ u16 d.nextSequence ++ d.conveyor.bytes ++ u16 d.predicted ++ mark d.stallHolds ++ mark d.fastHolds
    ++ d.flow.bytes

/-- READ DISH (R149). -/
def ansReadDish (selector position : Byte) (s : State) : Response :=
  match selector.toNat with
  | 0 => okay s.dlu.settings.bytes
  | 1 => okay (counted (fun l => u8 l.kind.val ++ u8 l.count) s.dlu.labels)
  | 2 =>
    if 9 < position.toNat then refuse .badArgument
    else match s.dlu.racks[position.toNat]? with
      | some r => okay (r.bytes s.clock)
      | none => refuse .notFound
  | 3 => okay s.dlu.stateBytes
  | _ => refuse .badArgument

/-! ### The service clock's second (R138, 0.5.2) -/

/-- A running count of seconds goes down; its own expiry is a row, so the last second stays until then. -/
def countdown (n : Nat) : Nat := if 1 < n then n - 1 else n

def Pgu.second (g : Pgu) : Pgu :=
  { g with retryLeft := g.retryLeft.map countdown, inFlight := g.inFlight.map (fun f => { f with left := countdown f.left }) }

def PortRec.second (p : PortRec) : PortRec :=
  { p with shortLeft := p.shortLeft.map countdown, longLeft := p.longLeft.map countdown }

/-- The service clock's second: the clock rises by one and the timers that run in seconds count on (log entry 7). -/
def State.second (s : State) : State :=
  { s with
    clock := clockAfter s.clock 1
    hlu := { s.hlu with verifyLeft := countdown s.hlu.verifyLeft }
    pba := { s.pba with timerLeft := countdown s.pba.timerLeft }
    dlu := { s.dlu with flow := { s.dlu.flow with refreshLeft := s.dlu.flow.refreshLeft.map countdown } }
    pgu := s.pgu.second
    sp := { s.sp with ports := table (fun x => (s.sp.ports[x]).second) } }

/-! ### Rows -/

def execLabelRack (x : Station) (kind count : Byte) (s : State) : Host.Outcome State Fault Refusal :=
  concluded x 0x60 (cmdLabelRack kind count (Ev.start s))

def execSetDish (x : Station) (im : DishImage) (s : State) : Host.Outcome State Fault Refusal :=
  concluded x 0x61 (cmdSetDish im (Ev.start s))

def execReadDish (x : Station) (selector position : Byte) (s : State) : Host.Outcome State Fault Refusal :=
  reading x 0x62 (ansReadDish selector position s) s

/-- RACK_ENTRY (R131). -/
def execRackEntry (s : State) : Host.Outcome State Fault Refusal := happened (Ev.start s).rackEntry

/-- RACK_EXIT (R135). -/
def execRackExit (s : State) : Host.Outcome State Fault Refusal := happened (Ev.start s).rackExit

/-- JAM_CHECK (R138). -/
def execJamCheck (s : State) : Host.Outcome State Fault Refusal := happened (Ev.start s.second).jamCheck

/-- The base counter brought up to date while a group is open (R141, log entry 3). -/
def Conveyor.after (c : Conveyor) (elapsed : Nat) : Conveyor :=
  if c.groupOpen then { c with base := min 10000 (c.base + elapsed) } else c

/-- CONVEYOR_PULSE (R140). -/
def execConveyorPulse (elapsed : BitVec 16) (s : State) : Host.Outcome State Fault Refusal :=
  happened (Ev.start (s.setConveyor (s.dlu.conveyor.after elapsed.toNat))).conveyorPulse

/-- STALL_EXPIRY (R141). -/
def execStallExpiry (s : State) : Host.Outcome State Fault Refusal := happened (Ev.start s).stallExpiry

/-- REFRESH_EXPIRY (R146). -/
def execRefreshExpiry (s : State) : Host.Outcome State Fault Refusal := happened (Ev.start s).refresh

end Sys2Proof.Machine
end

