-- ==== Sys2Proof/Machine/FaultCommands.lean ====
section
/-! DEFINITION. Sys2Proof/Machine/FaultCommands.lean: the commands on the fault monitor (chapter 9). -/

namespace Sys2Proof.Machine

open Sys2Proof

/-- CLEAR FAULTS; for each named group the response carries the numbers of the conditions re-latched (R196). -/
def cmdClearFaults (groups : Byte) (e : Ev) : Ev × Response :=
  match groupSet groups with
  | none => (e, refuse .badArgument)
  | some v =>
    if groups = 0 then (e, refuse .badArgument)
    else
      let f := e.s.fm.clearGroups v e.s.clock
      (e.on (State.setFm f),
        okay ((List.finRange 6).map (fun g =>
          if v[g] then counted (fun c => u8 c.number) (f.latchedIn g) else [])).flatten)

/-- The level of ALERT in a response. DEDUCED (log entry 22): a mark, 1 for asserted. -/
def alertByte (alert : Bool) : List Byte := mark alert

/-- SET FAULT MASK. The command carries 1 for MASKED (10.4); the response carries MASKED or UNMASKED in that order (R187,
R195, R215; log entry 22). -/
def cmdSetFaultMask (masks : Vector Byte 6) (e : Ev) : Ev × Response :=
  if (List.finRange 6).all (fun g => (twoValued masks[g]).isSome) then
    let e1 := e.on (fun s => s.setFm
      ({ s.fm with groups := table (fun g => { s.fm.groups[g] with masked := decide (masks[g] = 1) }) } : Fm).judgeAlert)
    (e1, okay (((List.finRange 6).map (fun g => listed (e1.s.fm.groups[g]).masked)).flatten ++ alertByte e1.s.fm.alert))
  else (e, refuse .badArgument)

/-- SUBSCRIBE FAULTS, for the issuing station alone (R198). -/
def cmdSubscribeFaults (x : Station) (groups : Byte) (e : Ev) : Ev × Response :=
  match groupSet groups with
  | none => (e, refuse .badArgument)
  | some v => (e.on (fun s => s.setFm { s.fm with subs := s.fm.subs.set x v }), okay [])

/-- SET FAULT PAGING (R199). DESIGN CHOICE (log entry 34): the PAGING byte 1 is ENABLED and 0 is DISABLED, as 10.4 codes the
enables of SET PAGING; it gives no code for this command. -/
def cmdSetFaultPaging (paging : Vector (Byte × Byte) 6) (e : Ev) : Ev × Response :=
  if (List.finRange 6).all (fun g => (twoValued (paging[g]).1).isSome) then
    (e.on (fun s => s.setFm
      { s.fm with groups := table (fun g =>
        { s.fm.groups[g] with paging := decide ((paging[g]).1 = 1), pageRole := (paging[g]).2.toNat }) }), okay [])
  else (e, refuse .badArgument)

/-- A group in READ FAULTS: MASKED or UNMASKED, and ENABLED or DISABLED, in those orders (R187, R200, R215; log entry 22). -/
def Fm.groupBytes (f : Fm) (g : Group) : List Byte :=
  listed (f.groups[g]).masked ++ listed (f.groups[g]).paging ++ u8 (f.groups[g]).pageRole ++ mark (f.groupLatched g)

/-- A condition in READ FAULTS (R200). DEDUCED (log entry 22): the lowest of ACTIVE SOURCES is carried as FIRST SOURCE is, in
two bytes with 0xFFFF for none. -/
def Fm.condBytes (f : Fm) (c : Cond) : List Byte :=
  let r := f.conds[c.index]
  mark r.latched ++ opt16 r.firstSource ++ u32 r.firstAt ++ u8 r.occurrences
    ++ if c.lasting then u8 r.active.length ++ opt16 r.active.head? else []

/-- A set of groups (R215). -/
def groupBytesOf (v : Vector Bool 6) : List Byte := counted (fun g => u8 g.val) ((List.finRange 6).filter (fun g => v[g]))

/-- READ FAULTS (R200). -/
def ansReadFaults (s : State) : Response :=
  okay (alertByte s.fm.alert ++ ((List.finRange 6).map s.fm.groupBytes).flatten ++ (Cond.all.map s.fm.condBytes).flatten
    ++ ((List.finRange 4).map (fun x => groupBytesOf s.fm.subs[x])).flatten)

def execClearFaults (x : Station) (groups : Byte) (s : State) : Host.Outcome State Fault Refusal :=
  concluded x 0x90 (cmdClearFaults groups (Ev.start s))

def execSetFaultMask (x : Station) (masks : Vector Byte 6) (s : State) : Host.Outcome State Fault Refusal :=
  concluded x 0x91 (cmdSetFaultMask masks (Ev.start s))

def execSubscribeFaults (x : Station) (groups : Byte) (s : State) : Host.Outcome State Fault Refusal :=
  concluded x 0x92 (cmdSubscribeFaults x groups (Ev.start s))

def execSetFaultPaging (x : Station) (paging : Vector (Byte × Byte) 6) (s : State) : Host.Outcome State Fault Refusal :=
  concluded x 0x93 (cmdSetFaultPaging paging (Ev.start s))

def execReadFaults (x : Station) (s : State) : Host.Outcome State Fault Refusal := reading x 0x94 (ansReadFaults s) s

end Sys2Proof.Machine
end

