-- ==== Sys2Proof/Machine/LoadCommands.lean ====
section
/-! DEFINITION. Sys2Proof/Machine/LoadCommands.lean: the commands on loads and probes, and the events of the probe lines, the outputs and
the timers of chapter 2. -/

namespace Sys2Proof.Machine

open Sys2Proof

/-! ### SET LOAD (R61) -/

/-- The configured fields of a load from SET LOAD, each brought to its range (R47, R61). -/
def LoadRec.configured (r : LoadRec) (im : LoadImage) : LoadRec :=
  { r with
    rating := clampNat 0 6000 im.rating.toNat
    tripLimit := clampInt 0 4000 (dC im.tripLimit)
    check := im.check.toNat
    pb := clampNat 10 500 im.pb.toInt.toNat
    bias := clampNat 0 500 im.bias.toNat
    nextPeriod := clampNat 50 1000 im.nextPeriod.toNat
    minOn := clampNat 0 500 im.minOn.toNat }

/-- Whether a field of SET LOAD stands outside its range (R47, R61). -/
def loadClamped (im : LoadImage) : Bool :=
  decide (6000 < im.rating.toNat) || decide (dC im.tripLimit < 0) || decide (4000 < dC im.tripLimit)
    || decide (dC im.pb < 10) || decide (500 < dC im.pb) || decide (500 < im.bias.toNat)
    || decide (im.nextPeriod.toNat < 50) || decide (1000 < im.nextPeriod.toNat) || decide (500 < im.minOn.toNat)

/-- SET LOAD (R55, R61). -/
def cmdSetLoad (load : Byte) (im : LoadImage) (e : Ev) : Ev × Response :=
  withIndex load.toNat e fun (l : LoadIx) =>
    let r := e.s.hlu.loads[l]
    if r.testing then (e, refuse .busy)
    else
      let c := r.configured im
      let r1 := { c with checkFail := false, grant := if c.rating = r.rating then r.grant else 0 }
      let e1 := e.on (fun s => (s.setLoad l r1).recompute l)
      let e2 := if 0 < r.rating ∧ c.rating = 0 then e1.loadLost l else e1.loadChanged l r.state
      (e2, ⟨taken (loadClamped im), []⟩)

/-! ### RESET LOAD, TEST CUTOUT, READ LOAD, READ PROBE (R46, R57, R58, R62) -/

/-- RESET LOAD (R57). -/
def cmdResetLoad (load : Byte) (e : Ev) : Ev × Response :=
  withIndex load.toNat e fun (l : LoadIx) =>
    let r := e.resetLoad l
    (r.1, ⟨r.2, []⟩)

/-- Whether the appliance of a load is in use: checks 4 to 6 of R58. -/
def State.inUse (s : State) (l : LoadIx) : Bool :=
  match ovenOf l, warmerOfLoad l with
  | some c, _ => decide ((s.fse.channels[c]).state = .run) || decide ((s.fse.channels[c]).state = .hold)
  | none, some w => decide ((s.ppu.warmers[w]).mode = .serving)
  | none, none => !s.dlu.racks.isEmpty

/-- TEST CUTOUT (R58). -/
def cmdTestCutout (x : Station) (load : Byte) (e : Ev) : Ev × Response :=
  withIndex load.toNat e fun (l : LoadIx) =>
    let r := e.s.hlu.loads[l]
    if !r.installed then (e, refuse .unavailable)
    else if r.testing then (e, refuse .busy)
    else if e.s.inUse l then (e, refuse .busy)
    else (e.on (State.shutLoad l (fun q => { q with testing := true, testStation := some x })), okay [])

/-- Every field of a load record in the order of R47, with the derived STATE and whether it is installed (R62, R215).
OUTPUT is ON or OFF in that order. -/
def LoadRec.bytes (r : LoadRec) (l : LoadIx) : List Byte :=
  u16 r.rating ++ s16 r.tripLimit ++ u16 r.check ++ u8 (controlProbe l).val ++ s16 r.setpoint ++ mark r.active ++ u16 r.pb
    ++ u16 r.bias ++ u16 r.nextPeriod ++ u16 r.period ++ u16 r.minOn ++ mark r.trip ++ mark r.cutoutFail ++ mark r.checkFail
    ++ mark r.testing ++ u8 r.lastTest.code ++ u16 r.request ++ u16 r.grant ++ u16 r.preload ++ u16 r.shadow ++ u16 r.phase
    ++ listed r.output ++ u8 r.state.code ++ mark r.installed

/-- READ LOAD (R62). -/
def ansReadLoad (load : Byte) (s : State) : Response :=
  readIndex load.toNat fun (l : LoadIx) => okay ((s.hlu.loads[l]).bytes l)

/-- LAST CONVERSION: its value and the mark, VALID or INVALID in that order (R38, R215). DEDUCED (log entry 22): an INVALID
conversion has no value (R43); two bytes of 0 stand in its place, with no presence byte for it. -/
def Conversion.bytes : Conversion → List Byte
  | .valid v => s16 v ++ u8 0
  | .invalid => s16 0 ++ u8 1

/-- LOST: the mark and the STUCK LEVEL (R38, R215). DEDUCED (log entry 22): while LOST is clear the level is carried as 0. -/
def lostBytes : Option Level → List Byte
  | some v => mark true ++ u8 v.code
  | none => mark false ++ u8 0

/-- Every field of a probe record but CAPTURE COUNTER, in the order of R38 (R46, R215). -/
def ProbeRec.bytes (p : ProbeRec) : List Byte :=
  u8 p.lineLevel.code ++ mark p.periodOpen ++ optional 0 u16 p.highTime ++ u8 p.stale ++ counted s16 p.window
    ++ u8 p.validRun ++ u8 p.invalidRun ++ mark p.settled ++ s16 p.reading
    ++ optional .invalid Conversion.bytes p.lastConversion ++ lostBytes p.lost ++ mark p.range

/-- READ PROBE (R46). -/
def ansReadProbe (probe : Byte) (s : State) : Response :=
  readIndex probe.toNat fun (p : ProbeIx) => okay (s.hlu.probes[p]).bytes

/-! ### Rows -/

def execSetLoad (x : Station) (load : Byte) (im : LoadImage) (s : State) : Host.Outcome State Fault Refusal :=
  concluded x 0x20 (cmdSetLoad load im (Ev.start s))

def execResetLoad (x : Station) (load : Byte) (s : State) : Host.Outcome State Fault Refusal :=
  concluded x 0x21 (cmdResetLoad load (Ev.start s))

def execTestCutout (x : Station) (load : Byte) (s : State) : Host.Outcome State Fault Refusal :=
  concluded x 0x22 (cmdTestCutout x load (Ev.start s))

def execReadLoad (x : Station) (load : Byte) (s : State) : Host.Outcome State Fault Refusal :=
  reading x 0x23 (ansReadLoad load s) s

def execReadProbe (x : Station) (probe : Byte) (s : State) : Host.Outcome State Fault Refusal :=
  reading x 0x24 (ansReadProbe probe s) s

/-- PROBE_RISING_EDGE (R42). -/
def execProbeRisingEdge (p : ProbeIx) (elapsed : BitVec 16) (s : State) : Host.Outcome State Fault Refusal :=
  happened ((Ev.start s).risingEdge p elapsed.toNat)

/-- PROBE_FALLING_EDGE (R42). -/
def execProbeFallingEdge (p : ProbeIx) (elapsed : BitVec 16) (s : State) : Host.Outcome State Fault Refusal :=
  happened ((Ev.start s).fallingEdge p elapsed.toNat)

/-- CAPTURE_OVERFLOW (R41). -/
def execCaptureOverflow (p : ProbeIx) (s : State) : Host.Outcome State Fault Refusal := happened ((Ev.start s).overflow p)

/-- OUTPUT_TICK (R53). -/
def execOutputTick (l : LoadIx) (s : State) : Host.Outcome State Fault Refusal := .next (s.setLoad l (s.hlu.loads[l]).tick)

/-- CUTOUT_TEST_COMPLETION (R59). -/
def execCutoutTestCompletion (l : LoadIx) (s : State) : Host.Outcome State Fault Refusal :=
  happened ((Ev.start s).testCompletion l)

/-- VERIFICATION_EXPIRY (R60). -/
def execVerificationExpiry (s : State) : Host.Outcome State Fault Refusal := happened (Ev.start s).verify

end Sys2Proof.Machine
end

