-- ==== Sys2Proof/Machine/RosterCommands.lean ====
section
/-! DEFINITION. Sys2Proof/Machine/RosterCommands.lean: the commands on the roster, and KEY (chapter 7). -/

namespace Sys2Proof.Machine

open Sys2Proof

/-- A badge record is written. -/
def State.setBadgeRec (b : BadgeIx) (r : BadgeRec) (s : State) : State :=
  s.setPgu { s.pgu with badges := s.pgu.badges.set b r }

/-- The badge that holds a pager address (R150). -/
def Pgu.holder (g : Pgu) (address : Nat) : Option BadgeIx :=
  (List.finRange 96).find? (fun b => decide ((g.badges[b]).address = some address))

/-- A badge is in the RECIPIENT SET of a page in the queue (R152). -/
def Pgu.chosen (g : Pgu) (b : BadgeIx) : Bool := g.queue.any (fun p => p.recipients.contains b)

/-- PAGER ADDRESS of a command: absent for 0 (R152). -/
def addressOf (v : BitVec 24) : Option Nat := if v = 0 then none else some v.toNat

/-- SET BADGE (R152). A three-byte address is never above 16777215, so check 2 has nothing to refuse. -/
def cmdSetBadge (badge : Byte) (address : BitVec 24) (role zone : Byte) (e : Ev) : Ev × Response :=
  withIndex badge.toNat e fun (b : BadgeIx) =>
    let r := e.s.pgu.badges[b]
    let a := addressOf address
    if a.isSome ∧ ((List.finRange 96).any (fun o => decide (o ≠ b) && decide ((e.s.pgu.badges[o]).address = a))) then
      (e, refuse .badArgument)
    else if a = none ∧ r.state ≠ .offShift then (e, refuse .busy)
    else if a ≠ r.address ∧ e.s.pgu.chosen b then (e, refuse .busy)
    else
      (e.on (State.setBadgeRec b { r with address := a, role := role.toNat, zone := min 15 zone.toNat }),
        ⟨taken (decide (15 < zone.toNat)), []⟩)

/-- STATE from its byte (10.4). -/
def BadgeState.ofCode (b : Byte) : Option BadgeState :=
  match b.toNat with
  | 0 => some .offShift | 1 => some .available | 2 => some .onBreak | _ => none

/-- BADGE STATE (R153). -/
def cmdBadgeState (badge st : Byte) (e : Ev) : Ev × Response :=
  withIndex badge.toNat e fun (b : BadgeIx) =>
    match BadgeState.ofCode st with
    | none => (e, refuse .badArgument)
    | some v =>
      let r := e.s.pgu.badges[b]
      if v ≠ .offShift ∧ r.address = none then (e, refuse .unavailable)
      else (e.on (State.setBadgeRec b { r with state := v }), okay [])

/-- ASSIGN FUNCTION (R155). -/
def cmdAssignFunction (badge : Byte) (function : BitVec 16) (e : Ev) : Ev × Response :=
  withIndex badge.toNat e fun (b : BadgeIx) =>
    let r := e.s.pgu.badges[b]
    let h := hashIndex function.toNat
    (e.on (State.setBadgeRec b { r with functions := r.functions.set h true }), okay (u8 h.val ++ mark r.functions[h]))

/-- CLEAR FUNCTIONS (R156). -/
def cmdClearFunctions (badge : Byte) (e : Ev) : Ev × Response :=
  withIndex badge.toNat e fun (b : BadgeIx) =>
    (e.on (State.setBadgeRec b { e.s.pgu.badges[b] with functions := Vector.replicate 64 false }), okay [])

/-- The lowest of some page numbers. -/
def lowest : List Nat → Option Nat
  | [] => none
  | a :: l => some (l.foldl min a)

/-- The badge index, every field of R150, and the engagement of a badge (R158, R215). -/
def Pgu.badgeBytes (g : Pgu) (b : BadgeIx) : List Byte :=
  let r := g.badges[b]
  let pages := (g.engaging b).map (fun p => p.number)
  u8 b.val ++ optional 0 u24 r.address ++ u8 r.role ++ u8 r.zone ++ u8 r.state.code ++ bitMap r.functions
    ++ mark (g.engaged b) ++ u8 pages.length ++ opt16 (lowest pages)

/-- READ BADGE (R158). -/
def ansReadBadge (form : Byte) (value : BitVec 24) (s : State) : Response :=
  match form.toNat with
  | 0 => readIndex value.toNat fun (b : BadgeIx) => okay (s.pgu.badgeBytes b)
  | 1 =>
    if value = 0 then refuse .badArgument
    else match s.pgu.holder value.toNat with
      | some b => okay (s.pgu.badgeBytes b)
      | none => refuse .notFound
  | _ => refuse .badArgument

/-- A KEY arrival: the badge it concerns is toggled, whatever the key value (R154). -/
def State.key (address : Nat) (s : State) : State :=
  match s.pgu.holder address with
  | none => s
  | some b =>
    let r := s.pgu.badges[b]
    match r.state with
    | .available => s.setBadgeRec b { r with state := .onBreak }
    | .onBreak => s.setBadgeRec b { r with state := .available }
    | .offShift => s

/-! ### Rows -/

def execSetBadge (x : Station) (badge : Byte) (address : BitVec 24) (role zone : Byte) (s : State) : Host.Outcome State Fault Refusal :=
  concluded x 0x70 (cmdSetBadge badge address role zone (Ev.start s))

def execBadgeState (x : Station) (badge st : Byte) (s : State) : Host.Outcome State Fault Refusal :=
  concluded x 0x71 (cmdBadgeState badge st (Ev.start s))

def execAssignFunction (x : Station) (badge : Byte) (function : BitVec 16) (s : State) : Host.Outcome State Fault Refusal :=
  concluded x 0x72 (cmdAssignFunction badge function (Ev.start s))

def execClearFunctions (x : Station) (badge : Byte) (s : State) : Host.Outcome State Fault Refusal :=
  concluded x 0x73 (cmdClearFunctions badge (Ev.start s))

def execReadBadge (x : Station) (form : Byte) (value : BitVec 24) (s : State) : Host.Outcome State Fault Refusal :=
  reading x 0x74 (ansReadBadge form value s) s

/-- KEY (R154). -/
def execKey (address : BitVec 24) (_value : Byte) (s : State) : Host.Outcome State Fault Refusal :=
  .next (s.key address.toNat)

end Sys2Proof.Machine
end

