-- ==== Sys2Proof/Machine/PageCommands.lean ====
section
/-! DEFINITION. Sys2Proof/Machine/PageCommands.lean: the commands on pages, the frames of the paging base, and the timers of chapter 8. -/

namespace Sys2Proof.Machine

open Sys2Proof

/-! ### Commands (R171, R180, R184, R185) -/

/-- PAGE (R171). -/
def cmdPage (x : Station) (im : PageImage) (e : Ev) : Ev × Response :=
  match submissionOf im with
  | none => (e, refuse .badArgument)
  | some sub =>
    if e.s.pgu.room then (e.submit sub (.station x) (some x) .station, okay (u8 e.s.pgu.comingNumber))
    else (e, refuse .full)

/-- CANCEL PAGE (R184). -/
def cmdCancelPage (x : Station) (number : BitVec 16) (e : Ev) : Ev × Response :=
  if 255 < number.toNat then (e, refuse .badArgument)
  else match e.s.pgu.find number.toNat with
    | none => (e, refuse .notFound)
    | some p =>
      if p.originator ≠ .station x then (e, refuse .notOwner)
      else (e.endPage p .cancelled false,
        okay (u8 p.state.code ++ mark p.escalated ++ u8 p.recipients.length ++ u8 p.acked.length))

/-- A target with its qualifier: form, value, and the qualifier as an optional field (R159, R215, R218). -/
def Addressee.bytes (t : Addressee) : List Byte := u8 t.target.form ++ u16 t.target.value ++ optional 0 u8 t.qualifier

def Addressee.blank : Addressee := ⟨.all, none⟩

/-- Where a recipient stands: pending, delivered or acknowledged, in that order (R185, R215). -/
def PageRec.recipientCode (p : PageRec) (b : BadgeIx) : Nat :=
  if p.pending.contains b then 0 else if p.acked.contains b then 2 else 1

/-- A set of badges (R215). -/
def badgeSet (l : List BadgeIx) : List Byte := counted (fun b => u8 b.val) l

/-- Every field of a page record in the order of R166, and where each recipient stands (R185). DEDUCED (log entry 22): NOTICE
STATION is an index that may be none, one byte with 0xFF. -/
def PageRec.bytes (p : PageRec) : List Byte :=
  u8 p.number ++ u8 p.priority.code ++ u8 p.originator.code ++ opt8 (p.noticeStation.map Fin.val) ++ u8 p.reportTo.code
    ++ p.addressee.bytes ++ optional Addressee.blank Addressee.bytes p.escalation ++ u16 p.message ++ u16 p.parameter
    ++ u8 p.ackPolicy.code ++ mark p.escalated ++ u8 p.state.code ++ u16 p.arrival ++ u16 p.sendingOrder
    ++ badgeSet p.recipients ++ badgeSet p.pending ++ badgeSet p.acked ++ optional 0 u32 p.deadline ++ u32 p.submittedAt
    ++ (p.recipients.map (fun b => u8 (p.recipientCode b))).flatten

/-- The fields of a retention entry in the order of R183, and the mark RETAINED (R185). DEDUCED (log entry 22): NOTICE STATION
is an index that may be none, one byte with 0xFF. -/
def Retained.bytes (r : Retained) : List Byte :=
  u8 r.number ++ u8 r.originator.code ++ opt8 (r.noticeStation.map Fin.val) ++ u8 r.priority.code ++ u16 r.message
    ++ u16 r.parameter ++ u8 r.outcome.code ++ u32 r.endedAt ++ counted (fun u => u8 u.1.val ++ u24 u.2) r.unanswered
    ++ mark true

/-- An in-flight record (R178, R215). -/
def InFlight.bytes (f : InFlight) : List Byte := u8 f.number ++ u8 f.badge.val ++ u24 f.address ++ mark f.orphaned

/-- The page numbers of the queue: QUEUED pages in the order of R168, then SENDING pages by SENDING ORDER, then SENT
pages as they stand (R185). -/
def Pgu.numbersInOrder (g : Pgu) : List Nat :=
  ((sortBy (PageRec.queuedBefore g.order) (g.inState .queued))
    ++ (sortBy (PageRec.sendingBefore g.order) (g.inState .sending)) ++ g.inState .sent).map (fun p => p.number)

/-- The six filter enables: ENABLED or DISABLED in that order (R160, R215; log entry 22). -/
def Pgu.enableBytes (g : Pgu) : List Byte := ((List.finRange 6).map (fun i => listed g.enables[i])).flatten

/-- The four windows (R180). -/
def Pgu.windowBytes (g : Pgu) : List Byte := ((List.finRange 4).map (fun i => u16 g.windows[i])).flatten

/-- STATUS of READ PAGE (R185). The link is UP or DOWN in that order. -/
def Pgu.statusBytes (g : Pgu) : List Byte :=
  u8 g.queue.length ++ u8 (g.inState .queued).length ++ counted u8 g.numbersInOrder ++ listed g.linkUp
    ++ u8 g.failures ++ optional 0 u8 g.retryLeft ++ optional ⟨0, 0, 0, false, 0⟩ InFlight.bytes g.inFlight
    ++ u8 g.nextNumber ++ g.windowBytes ++ g.enableBytes ++ counted u8 (g.retention.map (fun r => r.number))

/-- READ PAGE (R185). -/
def ansReadPage (number : BitVec 16) (s : State) : Response :=
  if number.toNat = 65535 then okay s.pgu.statusBytes
  else if 255 < number.toNat then refuse .badArgument
  else match s.pgu.find number.toNat with
    | some p => okay p.bytes
    | none =>
      match s.pgu.retention.find? (fun r => decide (r.number = number.toNat)) with
      | some r => okay r.bytes
      | none => refuse .notFound

/-- SET PAGING (R160, R180). -/
def cmdSetPaging (im : PagingImage) (e : Ev) : Ev × Response :=
  if (List.finRange 6).all (fun i => (twoValued im.enables[i]).isSome) then
    let e1 := e.on (fun s => s.setPgu
      { s.pgu with
        enables := table (fun i => decide (im.enables[i] = 1))
        windows := table (fun i => clampNat 10 900 (im.windows[i]).toNat) })
    let clamped := (List.finRange 4).any (fun i =>
      decide ((im.windows[i]).toNat < 10) || decide (900 < (im.windows[i]).toNat))
    (e1, ⟨taken clamped, e1.s.pgu.enableBytes ++ e1.s.pgu.windowBytes⟩)
  else (e, refuse .badArgument)

/-! ### Completion of a transmission (R178, R179) -/

/-- The link after a completion; true where it returned to UP (R179). -/
def Ev.linkAfter (ok : Bool) (e : Ev) : Ev :=
  let g := e.s.pgu
  if ok then
    if g.linkUp then e.on (fun s => s.setPgu { s.pgu with failures := 0 })
    else (e.on (fun s => s.setPgu { s.pgu with failures := 0, linkUp := true, retryLeft := none })).condEnds .radioDown 0
  else
    let n := min 3 (g.failures + 1)
    if n = 3 ∧ g.linkUp then
      (e.on (fun s => s.setPgu { s.pgu with failures := n, linkUp := false, retryLeft := some 10 })).condHolds .radioDown 0
    else e.on (fun s => s.setPgu { s.pgu with failures := n })

/-- A badge leaves a list of badges. -/
def dropBadge (b : BadgeIx) (l : List BadgeIx) : List BadgeIx := l.filter (fun c => decide (c ≠ b))

/-- The page after the transmission to one of its recipients has completed (R178). -/
def Ev.pageAfter (p : PageRec) (b : BadgeIx) (ok : Bool) (e : Ev) : Ev :=
  let p1 :=
    if ok then { p with pending := dropBadge b p.pending }
    else { p with pending := dropBadge b p.pending, recipients := dropBadge b p.recipients }
  let e1 := e.on (fun s => s.setPgu (s.pgu.change p.number (fun _ => p1)))
  if !ok && decide (p1.ackPolicy = .all) && decide (p1.recipients ≠ []) && decide (p1.acked = p1.recipients) then
    e1.endPage p1 .done true
  else e1.settlePage p1

/-- A transmission completes: the transmitter is free, the link and the page are updated, and a selection is made where
the link is UP (R178, R179). -/
def Ev.completeTx (f : InFlight) (ok : Bool) (e : Ev) : Ev :=
  let e1 := (e.on (fun s => s.setPgu { s.pgu with inFlight := none })).linkAfter ok
  let e2 :=
    if f.orphaned then e1
    else match e1.s.pgu.find f.number with
      | some p => e1.pageAfter p f.badge ok
      | none => e1
  e2.trySelect

/-- TX DONE; one that matches no in-flight record changes nothing (R178). -/
def Ev.txDone (number address : Nat) (ok : Bool) (e : Ev) : Ev :=
  match e.s.pgu.inFlight with
  | some f => if f.number = number ∧ f.address = address then e.completeTx f ok else e
  | none => e

/-- The transmission timer runs out, which is a failure (R178). -/
def Ev.txTimeout (e : Ev) : Ev :=
  match e.s.pgu.inFlight with
  | some f => e.completeTx f false
  | none => e

/-- The retry timer runs out in DOWN: it restarts, and one selection is made where the transmitter is free (R179). -/
def Ev.retry (e : Ev) : Ev :=
  if e.s.pgu.linkUp then e
  else
    let e1 := e.on (fun s => s.setPgu { s.pgu with retryLeft := some 10 })
    if e1.s.pgu.inFlight.isNone then e1.select else e1

/-! ### Acknowledgements and deadlines (R181 to R183) -/

/-- Whether an ACK of a badge counts for a page (R181). -/
def PageRec.countsAck (p : PageRec) (b : BadgeIx) : Bool :=
  decide (p.ackPolicy ≠ .none) && p.recipients.contains b && !p.pending.contains b && !p.acked.contains b

/-- A counted ACK (R181). ACKED SET is kept ascending. -/
def Ev.countAck (p : PageRec) (b : BadgeIx) (e : Ev) : Ev :=
  let p1 := { p with acked := insertBy (fun a c => decide (a.val < c.val)) b p.acked }
  if p1.ackPolicy = .any ∨ p1.acked = p1.recipients then e.endPage p1 .done true
  else e.on (fun s => s.setPgu (s.pgu.change p.number (fun _ => p1)))

/-- An answer judged against the retention list (R183). -/
def State.lateAnswer (number address : Nat) (s : State) : State :=
  match s.pgu.retention.find? (fun r => decide (r.number = number)) with
  | none => s
  | some r =>
    match r.unanswered.find? (fun u => decide (u.2 = address)) with
    | none => s
    | some u =>
      let t := s.setPgu { s.pgu with retention := s.pgu.retention.filter (fun q => decide (q.number ≠ number)) }
      match r.noticeStation with
      | some x =>
        t.postNotice x (t.notice .page number .lateAnswer u.1.val r.outcome.code (min 65535 (secondsSince r.endedAt s.clock)))
      | none => t

/-- An ACK arrival (R181, R183). -/
def Ev.ack (address number : Nat) (e : Ev) : Ev :=
  match e.s.pgu.find number, e.s.pgu.holder address with
  | some p, some b => if p.countsAck b then e.countAck p b else e.on (State.lateAnswer number address)
  | some _, none => e.on (State.lateAnswer number address)
  | none, some _ => e.on (State.lateAnswer number address)
  | none, none => e.on (State.lateAnswer number address)

/-- A page ends UNANSWERED, with step 4 of R169 for an URGENT one. -/
def Ev.endUnanswered (p : PageRec) (e : Ev) : Ev :=
  let e1 := e.on (fun s => s.setPgu (s.pgu.leave p .unanswered s.clock))
  let e2 := if p.priority = .urgent then e1.raise .unansweredUrgent p.number else e1
  e2.reportPageEnd p .unanswered true

/-- A SENT page reaches its deadline (R182). -/
def Ev.deadline (number : Nat) (e : Ev) : Ev :=
  match e.s.pgu.find number with
  | none => e
  | some p =>
    if p.state ≠ .sent ∨ p.deadline = none then e
    else if p.acked = [] ∧ p.escalated = false ∧ p.escalation.isSome then (e.requeue p).trySelect
    else if p.ackPolicy = .all ∧ p.acked ≠ [] then e.endPage p .partial_ true
    else e.endUnanswered p

/-! ### Rows -/

def execPage (x : Station) (im : PageImage) (s : State) : Host.Outcome State Fault Refusal :=
  concluded x 0x80 (cmdPage x im (Ev.start s))

def execCancelPage (x : Station) (number : BitVec 16) (s : State) : Host.Outcome State Fault Refusal :=
  concluded x 0x81 (cmdCancelPage x number (Ev.start s))

def execReadPage (x : Station) (number : BitVec 16) (s : State) : Host.Outcome State Fault Refusal :=
  reading x 0x82 (ansReadPage number s) s

def execSetPaging (x : Station) (im : PagingImage) (s : State) : Host.Outcome State Fault Refusal :=
  concluded x 0x83 (cmdSetPaging im (Ev.start s))

/-- TX_DONE (R178). -/
def execTxDone (number : Byte) (address : BitVec 24) (ok : Bool) (s : State) : Host.Outcome State Fault Refusal :=
  happened ((Ev.start s).txDone number.toNat address.toNat ok)

/-- ACK (R181). -/
def execAck (address : BitVec 24) (number : Byte) (s : State) : Host.Outcome State Fault Refusal :=
  happened ((Ev.start s).ack address.toNat number.toNat)

/-- UNREADABLE_BASE_FRAME: discarded, changing nothing (R175). -/
def execUnreadableBaseFrame (s : State) : Host.Outcome State Fault Refusal := .next s

/-- TRANSMISSION_TIMER_EXPIRY (R178). -/
def execTransmissionTimerExpiry (s : State) : Host.Outcome State Fault Refusal := happened (Ev.start s).txTimeout

/-- RETRY_EXPIRY (R179). -/
def execRetryExpiry (s : State) : Host.Outcome State Fault Refusal := happened (Ev.start s).retry

/-- DEADLINE_EXPIRY (R182). -/
def execDeadlineExpiry (number : Byte) (s : State) : Host.Outcome State Fault Refusal :=
  happened ((Ev.start s).deadline number.toNat)

end Sys2Proof.Machine
end

