-- ==== Sys2Proof/Machine/PoolCommands.lean ====
section
/-! DEFINITION. Sys2Proof/Machine/PoolCommands.lean: the commands on the pool and the warmers, and the events of the warmers' lines
(chapter 4). -/

namespace Sys2Proof.Machine

open Sys2Proof

/-- The plates of a kind that are not COOL (R103). -/
def PoolRec.placed (p : PoolRec) : Nat := p.warm + p.floor + p.soiled + p.wash + p.quar

/-- INVENTORY SET (R103). -/
def cmdInventorySet (kind : Byte) (stock : BitVec 32) (e : Ev) : Ev × Response :=
  withIndex kind.toNat e fun (k : Kind) =>
    let p := e.s.ppu.pools[k]
    if stock.toNat < p.placed then (e, refuse .badArgument)
    else
      (e.on (State.setPool k { p with stock := stock.toNat, cool := stock.toNat - p.placed, found := 0 }), okay [])

/-- MOVED and FOUND in a response (R88, R215). -/
def Moved.bytes (m : Moved) : List Byte := u16 m.moved ++ u16 m.found

/-- A pool command with a number of plates 0..9999 (R104, R105). -/
def platesCommand (kind : Byte) (n : BitVec 16) (e : Ev) (f : Kind → Nat → Ev × Moved) : Ev × Response :=
  withIndex kind.toNat e fun (k : Kind) =>
    let r := f k (clampNat 0 9999 n.toNat)
    (r.1, ⟨taken (decide (9999 < n.toNat)), r.2.bytes⟩)

/-- RETURN (R104). -/
def cmdReturnPlates (kind : Byte) (n : BitVec 16) (e : Ev) : Ev × Response :=
  platesCommand kind n e fun k m => e.movement k .floor .soiled m

/-- REQUEUE (R105). -/
def cmdRequeue (kind : Byte) (n : BitVec 16) (e : Ev) : Ev × Response := platesCommand kind n e fun k m => e.requeuePlates k m

/-- DISCARD (R105). -/
def cmdDiscard (kind : Byte) (n : BitVec 16) (e : Ev) : Ev × Response := platesCommand kind n e fun k m => e.discardPlates k m

/-- WARMER COUNT: the movement, then COUNT and the restart of counting, then what the reservation table is handed (R89,
R106). -/
def cmdWarmerCount (warmer n : Byte) (e : Ev) : Ev × Response :=
  withIndex warmer.toNat e fun (w : WarmerIx) =>
    let r := e.s.ppu.warmers[w]
    if !r.installed then (e, refuse .unavailable)
    else
      let m := min n.toNat r.capacity
      let c := r.count
      let result := taken (decide (r.capacity < n.toNat))
      let recount : Ev → Ev := fun x => (x.on (State.setCount w m)).restartCounting w
      if c < m then
        let t := e.movement r.kind .cool .warm (m - c)
        ((recount t.1).evaluate r.kind, ⟨result, t.2.bytes⟩)
      else if m < c then
        let t := e.movement r.kind .warm .cool (c - m)
        ((recount t.1).revoke r.kind, ⟨result, t.2.bytes⟩)
      else (recount e, ⟨result, (Moved.mk 0 0).bytes⟩)

/-- The fields of SET WARMER brought to their ranges, and SUB-COUNT 0 where PITCH changes (R93). -/
def WarmerRec.configured (r : WarmerRec) (k : Kind) (im : WarmerImage) : WarmerRec :=
  let pitch := clampNat 2 64 im.pitch.toNat
  { r with
    kind := k
    capacity := clampNat 0 240 im.capacity.toNat
    pitch := pitch
    soakTime := clampNat 60 900 im.soakTime.toNat
    setpoint := clampInt 0 3500 (dC im.setpoint)
    band := clampInt 10 500 (dC im.band)
    sub := if pitch = r.pitch then r.sub else 0 }

/-- Whether a field of SET WARMER stands outside its range (R93). -/
def warmerClamped (im : WarmerImage) : Bool :=
  decide (240 < im.capacity.toNat) || decide (im.pitch.toNat < 2) || decide (64 < im.pitch.toNat)
    || decide (im.soakTime.toNat < 60) || decide (900 < im.soakTime.toNat)
    || decide (dC im.setpoint < 0) || decide (3500 < dC im.setpoint) || decide (dC im.band < 10) || decide (500 < dC im.band)

/-- The setpoint and idle indication of a warmer are handed to its load (R94). -/
def State.handWarmer (w : WarmerIx) (s : State) : State :=
  s.handSetpoint (warmerLoad w) (s.ppu.warmers[w]).setpoint (s.ppu.warmers[w]).installed

/-- SET WARMER (R93). -/
def cmdSetWarmer (warmer : Byte) (im : WarmerImage) (e : Ev) : Ev × Response :=
  withIndex warmer.toNat e fun (w : WarmerIx) =>
    withIndex im.kind.toNat e fun (k : Kind) =>
      let r := e.s.ppu.warmers[w]
      let c := r.configured k im
      if k ≠ r.kind ∧ 0 < r.count then (e, refuse .busy)
      else if c.capacity < r.count then (e, refuse .busy)
      else
        let e1 := e.on (State.setWarmer w c)
        let e2 := if r.capacity = 0 ∧ 0 < c.capacity then e1.restartCounting w else e1
        let e3 := if 0 < r.capacity ∧ c.capacity = 0 then e2.on (State.coolWarmer w) else e2
        ((e3.on (State.judgeWarmer w)).on (State.handWarmer w), ⟨taken (warmerClamped im), []⟩)

/-- The sum of the COUNTs of the READY warmers of a kind is readyWarm (R107, R109). -/
def State.kindBytes (s : State) (k : Kind) : List Byte :=
  let p := s.ppu.pools[k]
  u32 p.warm ++ u32 p.cool ++ u32 p.floor ++ u32 p.soiled ++ u32 p.wash ++ u32 p.quar ++ u32 p.stock ++ u32 p.found
    ++ u16 (s.ppu.reserveCapacity k) ++ u16 (s.ppu.readyWarm k)

/-- A phase level: HIGH or LOW in that order (R91, R215). -/
def phaseByte (high : Bool) : List Byte := listed high

/-- Every field of a warmer record in the order of R91, and the load switch (R107, R215). DEDUCED (log entry 22): the switch
is closed 0, open 1, and PHASE PAIR is a byte for each phase. -/
def WarmerRec.bytes (r : WarmerRec) : List Byte :=
  u8 r.kind.val ++ u8 r.capacity ++ u8 r.pitch ++ u8 r.count ++ s8 r.sub ++ phaseByte r.pair.a ++ phaseByte r.pair.b
    ++ u8 r.errorRun ++ mark r.encoderFault ++ u8 r.mode.code ++ u8 r.readiness.code ++ u16 r.soakTime ++ u16 r.soakLeft
    ++ s16 r.setpoint ++ s16 r.band ++ mark r.switchOpen

/-- READ POOL (R107). -/
def ansReadPool (selector : Byte) (s : State) : Response :=
  match index 4 selector.toNat with
  | some k => okay (s.kindBytes k)
  | none =>
    match if 16 ≤ selector.toNat then index 8 (selector.toNat - 16) else none with
    | some w => okay (s.ppu.warmers[w]).bytes
    | none => refuse .badArgument

/-- An accepted change of a load switch sets MODE (R98). -/
def State.switchTo (w : WarmerIx) (isOpen : Bool) (s : State) : State :=
  s.setWarmer w { s.ppu.warmers[w] with switchOpen := isOpen, mode := if isOpen then .serving else .loading }

/-! ### Rows -/

def execInventorySet (x : Station) (kind : Byte) (stock : BitVec 32) (s : State) : Host.Outcome State Fault Refusal :=
  concluded x 0x40 (cmdInventorySet kind stock (Ev.start s))

def execReturnPlates (x : Station) (kind : Byte) (n : BitVec 16) (s : State) : Host.Outcome State Fault Refusal :=
  concluded x 0x41 (cmdReturnPlates kind n (Ev.start s))

def execRequeue (x : Station) (kind : Byte) (n : BitVec 16) (s : State) : Host.Outcome State Fault Refusal :=
  concluded x 0x42 (cmdRequeue kind n (Ev.start s))

def execDiscard (x : Station) (kind : Byte) (n : BitVec 16) (s : State) : Host.Outcome State Fault Refusal :=
  concluded x 0x43 (cmdDiscard kind n (Ev.start s))

def execWarmerCount (x : Station) (warmer n : Byte) (s : State) : Host.Outcome State Fault Refusal :=
  concluded x 0x44 (cmdWarmerCount warmer n (Ev.start s))

def execSetWarmer (x : Station) (warmer : Byte) (im : WarmerImage) (s : State) : Host.Outcome State Fault Refusal :=
  concluded x 0x45 (cmdSetWarmer warmer im (Ev.start s))

def execReadPool (x : Station) (selector : Byte) (s : State) : Host.Outcome State Fault Refusal :=
  reading x 0x46 (ansReadPool selector s) s

/-- ENCODER_TRANSITION (R95). -/
def execEncoderTransition (w : WarmerIx) (a b : Bool) (s : State) : Host.Outcome State Fault Refusal :=
  happened ((Ev.start s).encoderPair w ⟨a, b⟩)

/-- LOAD_SWITCH_CHANGE (R98). -/
def execLoadSwitchChange (w : WarmerIx) (isOpen : Bool) (s : State) : Host.Outcome State Fault Refusal :=
  .next (s.switchTo w isOpen)

/-- SOAK_TIMER_EXPIRY (R101). -/
def execSoakTimerExpiry (w : WarmerIx) (s : State) : Host.Outcome State Fault Refusal := happened ((Ev.start s).soakSecond w)

end Sys2Proof.Machine
end

