-- ==== Sys2Proof/Machine/PortCommands.lean ====
section
/-! DEFINITION. Sys2Proof/Machine/PortCommands.lean: the commands on ports and notices, and the silence timers (chapter 10). -/

namespace Sys2Proof.Machine

open Sys2Proof

/-- A stacked ending of the waiting set is delivered into the queue that has just lost a record (R213). -/
def State.refill (x : Station) (s : State) : State :=
  let q := s.sp.queues[x]
  match nextServed q.served q.waiting with
  | none => s
  | some c =>
    let ch := s.fse.channels[c]
    let rest := { q with waiting := q.waiting.filter (fun d => decide (d ≠ c)), served := c }
    match ch.stacked with
    | some n =>
      (s.setQueue x { rest with notices := q.notices ++ [n.notice] }).setChan c
        { ch with stacked := none, owner := if ch.state = .idle then none else ch.owner }
    | none => s.setQueue x rest

/-- FETCH NOTICE (R212). -/
def cmdFetchNotice (x : Station) (e : Ev) : Ev × Response :=
  let q := e.s.sp.queues[x]
  match q.notices with
  | [] => (e.on (State.setQueue x { q with overflow := false }), ⟨.empty, mark q.overflow ++ u8 0⟩)
  | n :: rest =>
    let e1 := e.on (fun s => (s.setQueue x { q with notices := rest, overflow := false }).refill x)
    (e1, okay (mark q.overflow ++ u8 (e1.s.sp.queues[x]).notices.length ++ n.bytes))

/-- SET PORT; HOLD is 1 (R209, 10.4). -/
def cmdSetPort (port short : Byte) (long : BitVec 16) (action : Byte) (e : Ev) : Ev × Response :=
  withIndex port.toNat e fun (y : Station) =>
    match twoValued action with
    | none => (e, refuse .badArgument)
    | some hold =>
      let sh := clampNat 5 60 short.toNat
      let lg := max (sh + 1) (clampNat 30 600 long.toNat)
      (e.on (fun s => s.setPort y { s.sp.ports[y] with shortSilence := sh, longSilence := lg, holdAction := hold }),
        ⟨taken (decide (sh ≠ short.toNat) || decide (lg ≠ long.toNat)), []⟩)

/-- Every field of R201 but FRAME SO FAR and BUFFERED FRAME (R209, R215). RECEIVER is HUNTING or IN FRAME in that order,
ACTION CONTINUE or HOLD. -/
def PortRec.bytes (p : PortRec) : List Byte :=
  mark p.inFrame ++ mark p.outstanding ++ mark p.attached ++ u8 p.shortSilence ++ u16 p.longSilence ++ mark p.holdAction
    ++ optional 0 u8 p.shortLeft ++ optional 0 u16 p.longLeft ++ mark p.slow ++ mark p.lost ++ u32 p.lastValidAt

/-- A set in ascending order. -/
def ascending (l : List Chan) : List Chan := (List.finRange 12).filter (fun c => l.contains c)

/-- READ PORT (R209). -/
def ansReadPort (port : Byte) (s : State) : Response :=
  readIndex port.toNat fun (y : Station) =>
    let q := s.sp.queues[y]
    okay ((s.sp.ports[y]).bytes ++ u8 q.notices.length ++ mark q.overflow
      ++ counted (fun (c : Chan) => u8 c.val) (ascending q.waiting) ++ u8 q.served.val)

/-- A SHORT TIMER expiry; a stopped timer does not expire (R208). -/
def Ev.shortExpiry (x : Station) (e : Ev) : Ev :=
  let p := e.s.sp.ports[x]
  if p.shortLeft.isSome then
    (e.on (fun s => s.setPort x { p with slow := true, shortLeft := none })).condHolds .slow x.val
  else e

/-- A LONG TIMER expiry; with ACTION HOLD the silence is reported for the channels (R18, R208). DESIGN CHOICE (log entry 33): they
are taken in index order, C0 first. -/
def Ev.longExpiry (x : Station) (e : Ev) : Ev :=
  let p := e.s.sp.ports[x]
  if p.longLeft.isSome then
    let e1 := (e.on (fun s => s.setPort x { p with lost := true, longLeft := none })).condHolds .lost x.val
    if p.holdAction then (List.finRange 12).foldl (fun y c => y.hand (.linkLost c x)) e1 else e1
  else e

def execFetchNotice (x : Station) (s : State) : Host.Outcome State Fault Refusal :=
  concluded x 0xA0 (cmdFetchNotice x (Ev.start s))

def execSetPort (x : Station) (port short : Byte) (long : BitVec 16) (action : Byte) (s : State) : Host.Outcome State Fault Refusal :=
  concluded x 0xA1 (cmdSetPort port short long action (Ev.start s))

def execReadPort (x : Station) (port : Byte) (s : State) : Host.Outcome State Fault Refusal :=
  reading x 0xA2 (ansReadPort port s) s

/-- SHORT_TIMER_EXPIRY (R208). -/
def execShortTimerExpiry (x : Station) (s : State) : Host.Outcome State Fault Refusal := happened ((Ev.start s).shortExpiry x)

/-- LONG_TIMER_EXPIRY (R208). -/
def execLongTimerExpiry (x : Station) (s : State) : Host.Outcome State Fault Refusal := happened ((Ev.start s).longExpiry x)

end Sys2Proof.Machine
end

