-- ==== Sys2Proof/Machine/ReservationCommands.lean ====
section
/-! DEFINITION. Sys2Proof/Machine/ReservationCommands.lean: the commands on the reservation table (chapter 5). -/

namespace Sys2Proof.Machine

open Sys2Proof

/-- RESERVE (R113). -/
def cmdReserve (x : Station) (kind n : Byte) (e : Ev) : Ev × Response :=
  withIndex kind.toNat e fun (k : Kind) =>
    if n.toNat < 1 ∨ 240 < n.toNat ∨ e.s.ppu.reserveCapacity k < n.toNat then (e, refuse .badArgument)
    else match e.s.ppu.freeEntry with
      | none => (e, refuse .full)
      | some i =>
        let r := e.createEntry i k n.toNat (.station x)
        (r.1, okay (u8 r.2.1.val ++ u16 r.2.2.1 ++ u8 r.2.2.2.code))

/-- CANCEL RESERVATION (R122). -/
def cmdCancelReservation (x : Station) (idx : Byte) (creation : BitVec 16) (e : Ev) : Ev × Response :=
  withIndex idx.toNat e fun (i : ResIx) =>
    match e.s.ppu.named i creation.toNat with
    | none => (e, refuse .notFound)
    | some r =>
      if r.owner ≠ .station x then (e, refuse .notOwner)
      else (e.finishEntry i r .cancelled false,
        okay (u8 r.kind.val ++ u8 r.requested ++ u8 r.count ++ u8 r.drawn ++ u8 r.state.code))

/-- Every field of a live entry in the order of R108 (R125, R215). -/
def ResRec.bytes (r : ResRec) : List Byte :=
  u8 r.kind.val ++ u8 r.count ++ u8 r.requested ++ u8 r.drawn ++ u8 r.owner.code ++ u8 r.state.code ++ mark r.shortened
    ++ u16 r.creation ++ u32 r.createdAt

/-- The figures of a kind that READ RESERVATION carries (R125). -/
def State.resFigures (s : State) (k : Kind) : List Byte :=
  u32 (s.ppu.pools[k]).warm ++ u16 (s.ppu.readyWarm k) ++ u16 (s.ppu.sumOutstanding k) ++ u16 (s.ppu.reserveCapacity k)

/-- The place of an entry among the live entries of its kind, 0 for the oldest (R125). -/
def Ppu.placeOf (p : Ppu) (i : ResIx) (k : Kind) : Nat := (p.live k).findIdx (fun e => decide (e.1 = i))

/-- READ RESERVATION (R125). -/
def ansReadReservation (idx : Byte) (s : State) : Response :=
  readIndex idx.toNat fun (i : ResIx) =>
    match s.ppu.entries[i] with
    | none => okay (u8 freeCode ++ s.resFigures 0)
    | some r => okay (r.bytes ++ u8 r.outstanding ++ u8 (s.ppu.placeOf i r.kind) ++ s.resFigures r.kind)

def execReserve (x : Station) (kind n : Byte) (s : State) : Host.Outcome State Fault Refusal :=
  concluded x 0x50 (cmdReserve x kind n (Ev.start s))

def execCancelReservation (x : Station) (idx : Byte) (creation : BitVec 16) (s : State) : Host.Outcome State Fault Refusal :=
  concluded x 0x51 (cmdCancelReservation x idx creation (Ev.start s))

def execReadReservation (x : Station) (idx : Byte) (s : State) : Host.Outcome State Fault Refusal :=
  reading x 0x52 (ansReadReservation idx s) s

end Sys2Proof.Machine
end

