-- ==== Sys2Proof/Machine/StepCommands.lean ====
section
/-! DEFINITION. Sys2Proof/Machine/StepCommands.lean: the commands on step records and channels (1.1 to 1.3), and the step timer. -/

namespace Sys2Proof.Machine

open Sys2Proof

/-! ### WRITE STEP and READ STEP (R4, R5, R216) -/

/-- The flags of a FLAGS byte (R216). -/
def StepFlags.ofByte (b : Byte) : StepFlags where
  link := b.getLsbD 0
  skip := b.getLsbD 1
  tolerate := b.getLsbD 2
  critical := b.getLsbD 3
  retain := b.getLsbD 4
  waitAck := b.getLsbD 5
  notify := b.getLsbD 6

/-- The FLAGS byte of flags (R216). -/
def StepFlags.byte (f : StepFlags) : Byte :=
  BitVec.ofNat 8 ((if f.link then 1 else 0) + (if f.skip then 2 else 0) + (if f.tolerate then 4 else 0)
    + (if f.critical then 8 else 0) + (if f.retain then 16 else 0) + (if f.waitAck then 32 else 0)
    + (if f.notify then 64 else 0))

/-- The record an image describes, its fields as written, with the completion record and CLAIM of a taken WRITE STEP
(R4, R216). DESIGN CHOICE (log entry 15): bits 2 to 7 of PRESENCE have no meaning, and are neither judged nor kept. -/
def recordOf (im : StepImage) (kind : StepKind) (give : Bool) : StepRec where
  owner := if give then .engine else .station
  claim := none
  kind := kind
  setpoint := dC im.setpoint
  band := dC im.band
  duration := im.duration.toNat
  limit := im.limit.toNat
  coreTarget := if im.presence.getLsbD 0 then some (dC im.coreTarget) else none
  plateKind := im.plateKind
  count := im.count.toNat
  page := im.page
  noteCode := im.noteCode.toNat
  holdSetpoint := if im.presence.getLsbD 1 then some (dC im.holdSetpoint) else none
  nextIndex := im.nextIndex.toNat
  flags := StepFlags.ofByte im.flags
  completion := Completion.fresh

/-- The fields that the kind uses, brought to their ranges; a field it does not use stays as written (R1, R4). -/
def StepRec.inRange (r : StepRec) : StepRec :=
  let usesBand := decide (r.kind = .heat) || decide (r.kind = .soak)
  let usesCore := decide (r.kind = .soak) || decide (r.kind = .core)
  { r with
    setpoint := if r.kind.carriesSetpoint then clampInt 0 3500 r.setpoint else r.setpoint
    band := if usesBand then clampInt 10 500 r.band else r.band
    duration := if r.kind = .soak then clampNat 1 65535 r.duration else r.duration
    coreTarget := if usesCore then r.coreTarget.map (clampInt (-500) 3500) else r.coreTarget
    count := if r.kind = .waitPlates then clampNat 1 240 r.count else r.count
    holdSetpoint := if r.kind = .finish then r.holdSetpoint.map (clampInt 0 3500) else r.holdSetpoint }

/-- The structural checks of WRITE STEP on the record an image describes (R4). -/
def soundStep (im : StepImage) (r : StepRec) : Bool :=
  !im.flags.getLsbD 7
    && !(r.flags.link && decide (511 < r.nextIndex))
    && !(decide (r.kind = .core) && r.coreTarget.isNone)
    && !(decide (r.kind = .waitPlates) && decide (3 < r.plateKind.toNat))
    && !(decide (r.kind = .call) && (submissionOf r.page).isNone)

/-- WRITE STEP (R4). -/
def cmdWriteStep (idx : BitVec 16) (give : Byte) (im : StepImage) (e : Ev) : Ev × Response :=
  withIndex idx.toNat e fun (i : StepIx) =>
    if (e.s.fse.steps[i]).owner = .engine then (e, refuse .stepOwned)
    else match StepKind.ofCode im.kind, twoValued give with
      | some kind, some g =>
        let r := recordOf im kind g
        if soundStep im r then (e.on (State.setStep i r.inRange), ⟨taken (decide (r.inRange ≠ r)), []⟩)
        else (e, refuse .badArgument)
      | some _, none => (e, refuse .badArgument)
      | none, some _ => (e, refuse .badArgument)
      | none, none => (e, refuse .badArgument)

/-- The image of a stored record (R216). DESIGN CHOICE (log entry 15): bits 2 to 7 of PRESENCE are carried as 0. DEDUCED
(log entry 22): a field that is absent is carried as 0. -/
def StepRec.image (r : StepRec) : StepImage where
  kind := BitVec.ofNat 8 r.kind.code
  flags := r.flags.byte
  setpoint := BitVec.ofInt 16 r.setpoint
  band := BitVec.ofInt 16 r.band
  duration := BitVec.ofNat 16 r.duration
  limit := BitVec.ofNat 16 r.limit
  coreTarget := BitVec.ofInt 16 (r.coreTarget.getD 0)
  presence := BitVec.ofNat 8 ((if r.coreTarget.isSome then 1 else 0) + (if r.holdSetpoint.isSome then 2 else 0))
  plateKind := r.plateKind
  count := BitVec.ofNat 8 r.count
  nextIndex := BitVec.ofNat 16 r.nextIndex
  noteCode := BitVec.ofNat 16 r.noteCode
  holdSetpoint := BitVec.ofInt 16 (r.holdSetpoint.getD 0)
  page := r.page

/-- The 16-byte completion part (R216). -/
def StepRec.completionBytes (r : StepRec) : List Byte :=
  u8 r.owner.code ++ opt8 (r.claim.map Fin.val) ++ u8 r.completion.outcome.code ++ u32 r.completion.endedAt
    ++ u16 r.completion.elapsed ++ u16 r.completion.counted ++ s16 r.completion.cavityMin ++ s16 r.completion.cavityMax
    ++ opt8 (r.completion.channel.map Fin.val)

/-- READ STEP (R5, R216). -/
def ansReadStep (idx : BitVec 16) (s : State) : Response :=
  readIndex idx.toNat fun (i : StepIx) =>
    okay (u16 i.val ++ stepImageBytes (s.fse.steps[i]).image ++ (s.fse.steps[i]).completionBytes)

/-! ### START (R13) -/

/-- A stacked ending is delivered in a STATUS PENDING response (R13, R37). -/
def State.deliverPending (c : Chan) (n : Ending) (s : State) : State :=
  let q := s.sp.queues[n.owedTo]
  let s1 := s.setQueue n.owedTo { q with waiting := q.waiting.filter (fun d => decide (d ≠ c)) }
  s1.onChan c (fun ch => { ch with stacked := none, owner := if ch.state = .idle then none else ch.owner })

/-- Whether load and probe of an oven refuse START (R13, check 3). -/
def State.ovenUnfit (s : State) (c : Chan) : Bool :=
  let l := s.hlu.loads[ovenLoad c]
  !l.installed || decide (l.state ≠ .enabled) || (s.hlu.probes[cavityProbe c]).faulted

/-- START (R13). -/
def cmdStart (x : Station) (chan : Byte) (first : BitVec 16) (e : Ev) : Ev × Response :=
  withIndex chan.toNat e fun (c : Chan) =>
    withIndex first.toNat e fun (i : StepIx) =>
      let ch := e.s.fse.channels[c]
      match ch.stacked with
      | some n => (e.on (State.deliverPending c n), ⟨.statusPending, n.bytes⟩)
      | none =>
        let r := e.s.fse.steps[i]
        if ch.state = .run ∨ ch.state = .stopped then (e, refuse .busy)
        else if e.s.ovenUnfit c then (e, refuse .unavailable)
        else if r.owner ≠ .engine ∨ r.claim.isSome then (e, refuse .stepOwned)
        else
          let e1 := e.on (State.onChan c (fun h =>
            { h with
              owner := some x, reservation := none, page := none, state := .run
              inForce := if h.state = .hold then h.holdSetpoint else 0 }))
          (e1.beginStep c i, ⟨.accepted, []⟩)

/-! ### HALT, RELEASE HOLD, RESET CHANNEL, SET CHANNEL, READ CHANNEL (R11, R12, R14 to R16) -/

/-- A channel goes to IDLE; OWNING STATION is cleared unless an ending is stacked (R14 to R16, R37). -/
def State.toIdle (c : Chan) (s : State) : State :=
  (s.onChan c (fun ch => { ch with state := .idle, owner := if ch.stacked.isSome then ch.owner else none })).handOven c

/-- HALT (R14). -/
def cmdHalt (chan : Byte) (e : Ev) : Ev × Response :=
  withIndex chan.toNat e fun (c : Chan) =>
    match (e.s.fse.channels[c]).state with
    | .run => (e.endStep c .halted, okay [])
    | .hold => (e.on (State.toIdle c), okay [])
    | .idle => (e, okay [])
    | .stopped => (e, refuse .unavailable)

/-- RELEASE HOLD (R15). -/
def cmdReleaseHold (chan : Byte) (e : Ev) : Ev × Response :=
  withIndex chan.toNat e fun (c : Chan) =>
    match (e.s.fse.channels[c]).state with
    | .hold => (e.on (State.toIdle c), okay [])
    | .idle => (e, okay [])
    | .run => (e, refuse .busy)
    | .stopped => (e, refuse .unavailable)

/-- Whether the fault of a STOPPED channel persists (R16). -/
def State.faultPersists (s : State) (c : Chan) : Bool :=
  let l := s.hlu.loads[ovenLoad c]
  let p := s.hlu.probes[cavityProbe c]
  !l.installed || decide (l.state = .faulted)
    || (decide (l.state = .tripped) && p.settled && decide (l.tripLimit - 50 ≤ p.reading))
    || p.faulted

/-- RESET CHANNEL (R16). -/
def cmdResetChannel (chan : Byte) (e : Ev) : Ev × Response :=
  withIndex chan.toNat e fun (c : Chan) =>
    match (e.s.fse.channels[c]).state with
    | .idle | .run | .hold => (e, refuse .busy)
    | .stopped =>
      if (e.s.hlu.loads[ovenLoad c]).state = .testing then (e, refuse .busy)
      else if e.s.faultPersists c then (e, refuse .unavailable)
      else ((e.resetLoad (ovenLoad c)).1.on (State.toIdle c), okay [])

/-- SET CHANNEL (R11). -/
def cmdSetChannel (chan : Byte) (fallback : BitVec 16) (e : Ev) : Ev × Response :=
  withIndex chan.toNat e fun (c : Chan) =>
    let v := clampInt 0 3500 (dC fallback)
    (e.on (State.onChan c (fun ch => { ch with fallback := v })), ⟨taken (decide (v ≠ dC fallback)), []⟩)

/-- An ending record of zeros, for the bytes of an absent one (R215). -/
def Ending.blank : Ending := ⟨0, 0, .notRun, .idle, 0, false, 0⟩

/-- Every field of a channel record in the order of R8 (R12, R215). -/
def ChanRec.bytes (ch : ChanRec) : List Byte :=
  u8 ch.state.code ++ opt8 (ch.owner.map Fin.val) ++ opt16 (ch.current.map Fin.val) ++ opt16 (ch.prefetched.map Fin.val)
    ++ u16 ch.elapsed ++ u16 ch.counted
    ++ opt8 (ch.reservation.map (fun r => r.1.val)) ++ u16 ((ch.reservation.map (fun r => r.2)).getD 0)
    ++ opt16 ch.page ++ s16 ch.inForce ++ s16 ch.holdSetpoint ++ s16 ch.fallback
    ++ optional Ending.blank Ending.bytes ch.stacked ++ optional Ending.blank Ending.bytes ch.lastEnding

/-- READ CHANNEL (R12). -/
def ansReadChannel (chan : Byte) (s : State) : Response :=
  readIndex chan.toNat fun (c : Chan) => okay (s.fse.channels[c]).bytes

/-! ### Rows -/

def execWriteStep (x : Station) (idx : BitVec 16) (give : Byte) (im : StepImage) (s : State) : Host.Outcome State Fault Refusal :=
  concluded x 0x10 (cmdWriteStep idx give im (Ev.start s))

def execReadStep (x : Station) (idx : BitVec 16) (s : State) : Host.Outcome State Fault Refusal :=
  reading x 0x11 (ansReadStep idx s) s

def execStart (x : Station) (chan : Byte) (first : BitVec 16) (s : State) : Host.Outcome State Fault Refusal :=
  concluded x 0x12 (cmdStart x chan first (Ev.start s))

def execHalt (x : Station) (chan : Byte) (s : State) : Host.Outcome State Fault Refusal :=
  concluded x 0x13 (cmdHalt chan (Ev.start s))

def execReleaseHold (x : Station) (chan : Byte) (s : State) : Host.Outcome State Fault Refusal :=
  concluded x 0x14 (cmdReleaseHold chan (Ev.start s))

def execResetChannel (x : Station) (chan : Byte) (s : State) : Host.Outcome State Fault Refusal :=
  concluded x 0x15 (cmdResetChannel chan (Ev.start s))

def execSetChannel (x : Station) (chan : Byte) (fallback : BitVec 16) (s : State) : Host.Outcome State Fault Refusal :=
  concluded x 0x16 (cmdSetChannel chan fallback (Ev.start s))

def execReadChannel (x : Station) (chan : Byte) (s : State) : Host.Outcome State Fault Refusal :=
  reading x 0x17 (ansReadChannel chan s) s

/-- STEP_TIMER_EXPIRY (R20). -/
def execStepTimerExpiry (c : Chan) (s : State) : Host.Outcome State Fault Refusal := happened ((Ev.start s).stepSecond c)

end Sys2Proof.Machine
end

