-- ==== Sys2Proof/Machine/Frames.lean ====
section
/-! DEFINITION. Sys2Proof/Machine/Frames.lean: the device reset, and the receivers of the station ports: bytes, frames, the dispatch of
a command to its block and the response (10.1). -/

namespace Sys2Proof.Machine

open Sys2Proof

/-! ### Dispatch (R205) -/

/-- The owning block takes a station command. An event of the part's own is no command of the index. -/
def takeCommand (i : Instr) (e : Ev) : Ev × Response :=
  match i with
  | .writeStep _ idx give im => cmdWriteStep idx give im e
  | .readStep _ idx => (e, ansReadStep idx e.s)
  | .start x chan first => cmdStart x chan first e
  | .halt _ chan => cmdHalt chan e
  | .releaseHold _ chan => cmdReleaseHold chan e
  | .resetChannel _ chan => cmdResetChannel chan e
  | .setChannel _ chan fallback => cmdSetChannel chan fallback e
  | .readChannel _ chan => (e, ansReadChannel chan e.s)
  | .setLoad _ load im => cmdSetLoad load im e
  | .resetLoad _ load => cmdResetLoad load e
  | .testCutout x load => cmdTestCutout x load e
  | .readLoad _ load => (e, ansReadLoad load e.s)
  | .readProbe _ probe => (e, ansReadProbe probe e.s)
  | .setCap _ cap => cmdSetCap cap e
  | .setBudget _ cap unmanaged interval => cmdSetBudget cap unmanaged interval e
  | .readBudget _ => (e, ansReadBudget e.s)
  | .inventorySet _ kind stock => cmdInventorySet kind stock e
  | .returnPlates _ kind n => cmdReturnPlates kind n e
  | .requeue _ kind n => cmdRequeue kind n e
  | .discard _ kind n => cmdDiscard kind n e
  | .warmerCount _ warmer n => cmdWarmerCount warmer n e
  | .setWarmer _ warmer im => cmdSetWarmer warmer im e
  | .readPool _ selector => (e, ansReadPool selector e.s)
  | .reserve x kind n => cmdReserve x kind n e
  | .cancelReservation x idx creation => cmdCancelReservation x idx creation e
  | .readReservation _ idx => (e, ansReadReservation idx e.s)
  | .labelRack _ kind count => cmdLabelRack kind count e
  | .setDish _ im => cmdSetDish im e
  | .readDish _ selector position => (e, ansReadDish selector position e.s)
  | .setBadge _ badge address role zone => cmdSetBadge badge address role zone e
  | .badgeState _ badge st => cmdBadgeState badge st e
  | .assignFunction _ badge function => cmdAssignFunction badge function e
  | .clearFunctions _ badge => cmdClearFunctions badge e
  | .readBadge _ form value => (e, ansReadBadge form value e.s)
  | .page x im => cmdPage x im e
  | .cancelPage x number => cmdCancelPage x number e
  | .readPage _ number => (e, ansReadPage number e.s)
  | .setPaging _ im => cmdSetPaging im e
  | .clearFaults _ groups => cmdClearFaults groups e
  | .setFaultMask _ masks => cmdSetFaultMask masks e
  | .subscribeFaults x groups => cmdSubscribeFaults x groups e
  | .setFaultPaging _ paging => cmdSetFaultPaging paging e
  | .readFaults _ => (e, ansReadFaults e.s)
  | .fetchNotice x => cmdFetchNotice x e
  | .setPort _ port short long action => cmdSetPort port short long action e
  | .readPort _ port => (e, ansReadPort port e.s)
  | .deviceReset | .commandFrame _ _ _ | .byteGapExpiry _ | .responseSent _ | .shortTimerExpiry _
  | .longTimerExpiry _ | .txDone _ _ _ | .ack _ _ | .key _ _ | .unreadableBaseFrame
  | .transmissionTimerExpiry | .retryExpiry | .deadlineExpiry _ | .probeRisingEdge _ _ | .probeFallingEdge _ _
  | .captureOverflow _ | .outputTick _ | .cutoutTestCompletion _ | .verificationExpiry | .intervalExpiry
  | .encoderTransition _ _ _ | .loadSwitchChange _ _ | .soakTimerExpiry _ | .stepTimerExpiry _ | .rackEntry
  | .rackExit | .jamCheck | .conveyorPulse _ | .stallExpiry | .refreshExpiry
  | .receivedByte _ _ => (e, refuse .unknownCommand)

/-- The COMMAND byte of a frame. -/
def commandByte (body : List Byte) : Byte := body.headD 0

/-- A frame is answered: FRAME ERROR for an invalid one, otherwise as R205 states. -/
def Ev.answerFrame (x : Station) (f : HeldFrame) (e : Ev) : Ev × Response :=
  if f.valid then
    match decodeCommand x (commandByte f.body) (f.body.drop 1) with
    | .command i => takeCommand i e
    | .badLength => (e, refuse .badArgument)
    | .unknown => (e, refuse .unknownCommand)
  else (e, refuse .frameError)

/-- A frame is taken: RESPONSE OUTSTANDING becomes yes and the response frame goes out on the line (R204, R205, R214). -/
def Ev.takeFrame (x : Station) (f : HeldFrame) (e : Ev) : Ev :=
  let r := (e.on (fun s => s.setPort x { s.sp.ports[x] with outstanding := true })).answerFrame x f
  let a : Answer := ⟨commandByte f.body, r.2⟩
  r.1.on (fun s => s.setPort x { s.sp.ports[x] with answer := some a, line := responseFrame a })

/-! ### Completed frames (R203, R204, R207) -/

/-- A valid frame has arrived: the port is ATTACHED, its timers restart and its silence conditions end (R203, R207). -/
def Ev.heard (x : Station) (e : Ev) : Ev :=
  let p := e.s.sp.ports[x]
  let e1 := e.on (fun s => s.setPort x
    { p with
      attached := true, lastValidAt := s.clock, shortLeft := some p.shortSilence, longLeft := some p.longSilence
      slow := false, lost := false })
  let e2 := if p.slow then e1.condEnds .slow x.val else e1
  if p.lost then e2.condEnds .lost x.val else e2

/-- A completed frame is judged and then taken, buffered or discarded (R203, R204). -/
def Ev.completeFrame (x : Station) (body : List Byte) (checksum : BitVec 16) (e : Ev) : Ev :=
  let f : HeldFrame := ⟨body, decide (frameCheck body = checksum)⟩
  let e0 := e.on (fun s => s.setPort x { s.sp.ports[x] with inFrame := false, soFar := [] })
  let e1 := if f.valid then e0.heard x else e0.raise .frameError x.val
  let p := e1.s.sp.ports[x]
  if p.outstanding = false then e1.takeFrame x f
  else if p.buffered.isNone then e1.on (fun s => s.setPort x { s.sp.ports[x] with buffered := some f })
  else e1.raise .frameError x.val

/-- A frame is abandoned (R202). -/
def Ev.abandon (x : Station) (e : Ev) : Ev :=
  (e.on (fun s => s.setPort x { s.sp.ports[x] with inFrame := false, soFar := [] })).raise .frameError x.val

/-- A whole frame arrives; one whose LENGTH is 0 or above 64 is abandoned (R202, R203). -/
def Ev.wholeFrame (x : Station) (body : List Byte) (checksum : BitVec 16) (e : Ev) : Ev :=
  if 1 ≤ body.length ∧ body.length ≤ 64 then e.completeFrame x body checksum else e.abandon x

/-- A byte arrives on a port (R202). -/
def Ev.byte (x : Station) (b : Byte) (e : Ev) : Ev :=
  let p := e.s.sp.ports[x]
  if p.inFrame then
    let soFar := p.soFar ++ [b]
    let length := (at1 soFar 1).toNat
    if soFar.length = 2 ∧ (length = 0 ∨ 64 < length) then e.abandon x
    else if 2 ≤ soFar.length ∧ length + 4 ≤ soFar.length then
      e.completeFrame x ((soFar.drop 2).take length) (at2 soFar (2 + length))
    else e.on (fun s => s.setPort x { p with soFar := soFar })
  else if b = 0xA5#8 then e.on (fun s => s.setPort x { p with inFrame := true, soFar := [b] })
  else e

/-- The response has been sent, and a buffered frame is taken at once (R204). -/
def Ev.responseSent (x : Station) (e : Ev) : Ev :=
  let p := e.s.sp.ports[x]
  if p.outstanding then
    let e1 := e.on (fun s => s.setPort x { p with outstanding := false, line := [], buffered := none })
    match p.buffered with
    | some f => e1.takeFrame x f
    | none => e1
  else e

/-! ### Rows -/

/-- DEVICE_RESET: every item of state takes its reset value; the levels on the field lines stay, and so do the commands
that wait outside the part (0.5.5). -/
def execDeviceReset (s : State) : Host.Outcome State Fault Refusal :=
  .next { State.resetWith s.pins with pending := s.pending }

/-- COMMAND_FRAME (R203). -/
def execCommandFrame (x : Station) (body : List Byte) (checksum : BitVec 16) (s : State) : Host.Outcome State Fault Refusal :=
  happened ((Ev.start s).wholeFrame x body checksum)

/-- BYTE_GAP_EXPIRY; outside a frame there is no gap to measure (R202). -/
def execByteGapExpiry (x : Station) (s : State) : Host.Outcome State Fault Refusal :=
  happened (if (s.sp.ports[x]).inFrame then (Ev.start s).abandon x else Ev.start s)

/-- RESPONSE_SENT (R204). -/
def execResponseSent (x : Station) (s : State) : Host.Outcome State Fault Refusal := happened ((Ev.start s).responseSent x)

/-- RECEIVED_BYTE (R202). -/
def execReceivedByte (x : Station) (b : Byte) (s : State) : Host.Outcome State Fault Refusal := happened ((Ev.start s).byte x b)

end Sys2Proof.Machine
end

