-- ==== Sys2Proof/Machine/Dispatch.lean ====
section
/-! DEFINITION. Sys2Proof/Machine/Dispatch.lean: one arm for each command and event. -/

namespace Sys2Proof.Machine

open Sys2Proof

def exec (i : Instr) (s : State) : Host.Outcome State Fault Refusal :=
  match i with
  | .deviceReset => Sys2Proof.Machine.execDeviceReset s
  | .commandFrame x body checksum => Sys2Proof.Machine.execCommandFrame x body checksum s
  | .byteGapExpiry x => Sys2Proof.Machine.execByteGapExpiry x s
  | .responseSent x => Sys2Proof.Machine.execResponseSent x s
  | .writeStep x idx give im => Sys2Proof.Machine.execWriteStep x idx give im s
  | .readStep x idx => Sys2Proof.Machine.execReadStep x idx s
  | .start x chan first => Sys2Proof.Machine.execStart x chan first s
  | .halt x chan => Sys2Proof.Machine.execHalt x chan s
  | .releaseHold x chan => Sys2Proof.Machine.execReleaseHold x chan s
  | .resetChannel x chan => Sys2Proof.Machine.execResetChannel x chan s
  | .setChannel x chan fallback => Sys2Proof.Machine.execSetChannel x chan fallback s
  | .readChannel x chan => Sys2Proof.Machine.execReadChannel x chan s
  | .setLoad x load im => Sys2Proof.Machine.execSetLoad x load im s
  | .resetLoad x load => Sys2Proof.Machine.execResetLoad x load s
  | .testCutout x load => Sys2Proof.Machine.execTestCutout x load s
  | .readLoad x load => Sys2Proof.Machine.execReadLoad x load s
  | .readProbe x probe => Sys2Proof.Machine.execReadProbe x probe s
  | .setCap x cap => Sys2Proof.Machine.execSetCap x cap s
  | .setBudget x cap unmanaged interval => Sys2Proof.Machine.execSetBudget x cap unmanaged interval s
  | .readBudget x => Sys2Proof.Machine.execReadBudget x s
  | .inventorySet x kind stock => Sys2Proof.Machine.execInventorySet x kind stock s
  | .returnPlates x kind n => Sys2Proof.Machine.execReturnPlates x kind n s
  | .requeue x kind n => Sys2Proof.Machine.execRequeue x kind n s
  | .discard x kind n => Sys2Proof.Machine.execDiscard x kind n s
  | .warmerCount x warmer n => Sys2Proof.Machine.execWarmerCount x warmer n s
  | .setWarmer x warmer im => Sys2Proof.Machine.execSetWarmer x warmer im s
  | .readPool x selector => Sys2Proof.Machine.execReadPool x selector s
  | .reserve x kind n => Sys2Proof.Machine.execReserve x kind n s
  | .cancelReservation x idx creation => Sys2Proof.Machine.execCancelReservation x idx creation s
  | .readReservation x idx => Sys2Proof.Machine.execReadReservation x idx s
  | .labelRack x kind count => Sys2Proof.Machine.execLabelRack x kind count s
  | .setDish x im => Sys2Proof.Machine.execSetDish x im s
  | .readDish x selector position => Sys2Proof.Machine.execReadDish x selector position s
  | .setBadge x badge address role zone => Sys2Proof.Machine.execSetBadge x badge address role zone s
  | .badgeState x badge state => Sys2Proof.Machine.execBadgeState x badge state s
  | .assignFunction x badge function => Sys2Proof.Machine.execAssignFunction x badge function s
  | .clearFunctions x badge => Sys2Proof.Machine.execClearFunctions x badge s
  | .readBadge x form value => Sys2Proof.Machine.execReadBadge x form value s
  | .page x im => Sys2Proof.Machine.execPage x im s
  | .cancelPage x number => Sys2Proof.Machine.execCancelPage x number s
  | .readPage x number => Sys2Proof.Machine.execReadPage x number s
  | .setPaging x im => Sys2Proof.Machine.execSetPaging x im s
  | .clearFaults x groups => Sys2Proof.Machine.execClearFaults x groups s
  | .setFaultMask x masks => Sys2Proof.Machine.execSetFaultMask x masks s
  | .subscribeFaults x groups => Sys2Proof.Machine.execSubscribeFaults x groups s
  | .setFaultPaging x paging => Sys2Proof.Machine.execSetFaultPaging x paging s
  | .readFaults x => Sys2Proof.Machine.execReadFaults x s
  | .fetchNotice x => Sys2Proof.Machine.execFetchNotice x s
  | .setPort x port short long action => Sys2Proof.Machine.execSetPort x port short long action s
  | .readPort x port => Sys2Proof.Machine.execReadPort x port s
  | .shortTimerExpiry x => Sys2Proof.Machine.execShortTimerExpiry x s
  | .longTimerExpiry x => Sys2Proof.Machine.execLongTimerExpiry x s
  | .txDone number address ok => Sys2Proof.Machine.execTxDone number address ok s
  | .ack address number => Sys2Proof.Machine.execAck address number s
  | .key address value => Sys2Proof.Machine.execKey address value s
  | .unreadableBaseFrame => Sys2Proof.Machine.execUnreadableBaseFrame s
  | .transmissionTimerExpiry => Sys2Proof.Machine.execTransmissionTimerExpiry s
  | .retryExpiry => Sys2Proof.Machine.execRetryExpiry s
  | .deadlineExpiry number => Sys2Proof.Machine.execDeadlineExpiry number s
  | .probeRisingEdge p elapsed => Sys2Proof.Machine.execProbeRisingEdge p elapsed s
  | .probeFallingEdge p elapsed => Sys2Proof.Machine.execProbeFallingEdge p elapsed s
  | .captureOverflow p => Sys2Proof.Machine.execCaptureOverflow p s
  | .outputTick l => Sys2Proof.Machine.execOutputTick l s
  | .cutoutTestCompletion l => Sys2Proof.Machine.execCutoutTestCompletion l s
  | .verificationExpiry => Sys2Proof.Machine.execVerificationExpiry s
  | .intervalExpiry => Sys2Proof.Machine.execIntervalExpiry s
  | .encoderTransition w a b => Sys2Proof.Machine.execEncoderTransition w a b s
  | .loadSwitchChange w isOpen => Sys2Proof.Machine.execLoadSwitchChange w isOpen s
  | .soakTimerExpiry w => Sys2Proof.Machine.execSoakTimerExpiry w s
  | .stepTimerExpiry c => Sys2Proof.Machine.execStepTimerExpiry c s
  | .rackEntry => Sys2Proof.Machine.execRackEntry s
  | .rackExit => Sys2Proof.Machine.execRackExit s
  | .jamCheck => Sys2Proof.Machine.execJamCheck s
  | .conveyorPulse elapsed => Sys2Proof.Machine.execConveyorPulse elapsed s
  | .stallExpiry => Sys2Proof.Machine.execStallExpiry s
  | .refreshExpiry => Sys2Proof.Machine.execRefreshExpiry s
  | .receivedByte x b => Sys2Proof.Machine.execReceivedByte x b s

end Sys2Proof.Machine
end

