-- ==== Sys2Proof/Safety.lean ====
section
/-! DEFINITION. Sys2Proof/Safety.lean: what the manual promises of the part in every state, in the terms that claims use. -/

namespace Sys2Proof.Machine

open Sys2Proof

/-- A station's ATN line is asserted exactly while its notice queue is non-empty (R211). -/
def State.AtnRight (s : State) : Prop := ∀ x : Station, s.sp.atn[x] = !(s.sp.queues[x]).notices.isEmpty

/-- A notice queue holds at most 16 records (R210). -/
def State.NoticesFit (s : State) : Prop := ∀ x : Station, (s.sp.queues[x]).notices.length ≤ 16

/-- ALERT is asserted exactly while an unmasked group holds a latched condition (R194). -/
def State.AlertRight (s : State) : Prop :=
  s.fm.alert = true ↔ ∃ c : Cond, (s.fm.conds[c.index]).latched = true ∧ (s.fm.groups[c.group]).masked = false

/-- The page queue holds at most 48 pages (R168) and the retention list at most 8 entries (R183). -/
def State.PagingFits (s : State) : Prop := s.pgu.queue.length ≤ 48 ∧ s.pgu.retention.length ≤ 8

/-- The label queue holds at most 8 labels (R129), and at most 10 rack records are inside the machine (R130). -/
def State.DishFits (s : State) : Prop := s.dlu.labels.length ≤ 8 ∧ s.dlu.racks.length ≤ 10

/-- The six location counts of a pool record add up to STOCK (R85). -/
def PoolRec.Balanced (p : PoolRec) : Prop := p.warm + p.cool + p.floor + p.soiled + p.wash + p.quar = p.stock

/-- The six location counts of a kind. -/
def PoolRec.total (p : PoolRec) : Nat := p.warm + p.cool + p.floor + p.soiled + p.wash + p.quar

/-- The AGE LIST holds the indices of the live entries, each once (R108). -/
def Ppu.AgeListRight (p : Ppu) : Prop := p.ageList.Nodup ∧ ∀ i : ResIx, i ∈ p.ageList ↔ (p.entries[i]).isSome = true

/-- The outstanding sum of a kind does not exceed its WARM (R117). -/
def Ppu.LawHolds (p : Ppu) (k : Kind) : Prop := p.sumOutstanding k ≤ (p.pools[k]).warm

/-- A load that is not installed, TRIPPED, TESTING or FAULTED, or whose control probe is UNSETTLED, has SHADOW ON-TIME 0 and
OUTPUT OFF (R54). -/
def State.OutputsSafe (s : State) : Prop :=
  ∀ l : LoadIx,
    ((s.hlu.loads[l]).installed = false ∨ (s.hlu.loads[l]).state ≠ .enabled ∨ (s.hlu.probes[controlProbe l]).settled = false) →
      (s.hlu.loads[l]).shadow = 0 ∧ (s.hlu.loads[l]).output = false

/-- What R50, R51 and R54 keep of every load: a load that may not heat has a request of 0; the preload fraction is the
smaller of grant fraction and request; SHADOW ON-TIME is within the preload fraction of the period; the output is on only
before SHADOW ON-TIME. -/
def State.HeatSound (s : State) : Prop :=
  ∀ l : LoadIx,
    (((s.hlu.loads[l]).installed = false ∨ (s.hlu.loads[l]).active = false ∨ (s.hlu.loads[l]).state ≠ .enabled
        ∨ (s.hlu.probes[controlProbe l]).settled = false) → (s.hlu.loads[l]).request = 0) ∧
    (s.hlu.loads[l]).preload = min (s.hlu.loads[l]).grant (s.hlu.loads[l]).request ∧
    (s.hlu.loads[l]).shadow * 1000 ≤ (s.hlu.loads[l]).preload * (s.hlu.loads[l]).period ∧
    ((s.hlu.loads[l]).output = true → (s.hlu.loads[l]).phase < (s.hlu.loads[l]).shadow)

/-- The grants held by the loads are within A IN FORCE: fraction times rating, summed in thousandths (R54, R77). -/
def State.BudgetHeld (s : State) : Prop :=
  (Finset.univ.sum fun l : LoadIx => (s.hlu.loads[l]).grant * (s.hlu.loads[l]).rating) ≤ 1000 * s.pba.inForce

/-- The pool is sound: the counts of each kind add up to STOCK (R85), a warmer's COUNT is within its CAPACITY and that
within 240 (R91), labels and rack records count at most 60 plates (R129, R130), and WASH of each kind equals the COUNTs of
its rack records inside the machine (R130). -/
def State.PoolSound (s : State) : Prop :=
  (∀ k : Kind, (s.ppu.pools[k]).Balanced) ∧
  (∀ w : WarmerIx, (s.ppu.warmers[w]).count ≤ (s.ppu.warmers[w]).capacity ∧ (s.ppu.warmers[w]).capacity ≤ 240) ∧
  (∀ l ∈ s.dlu.labels, l.count ≤ 60) ∧ (∀ r ∈ s.dlu.racks, r.count ≤ 60) ∧
  (∀ k : Kind, (s.ppu.pools[k]).wash = ((s.dlu.racks.filter (fun r => decide (r.kind = some k))).map (fun r => r.count)).sum)

/-- STOCK and FOUND TOTAL of every kind leave room for one more movement of at most 9999 plates in 32 bits. -/
def State.PoolHeadroom (s : State) : Prop :=
  ∀ k : Kind, (s.ppu.pools[k]).stock + 9999 < 4294967296 ∧ (s.ppu.pools[k]).found + 9999 < 4294967296

/-- What keeps the law of R117 from step to step: the AGE LIST is right (R108); WARM of each kind is the sum of the COUNTs of the
warmers of that kind (R91), and the law holds of it; a live entry has plates left to draw (R116); a warmer's COUNT is within
its CAPACITY and that within 240 (R91); and a WAIT PLATES record asks for at least one plate (R1). -/
def State.ReservationsSound (s : State) : Prop :=
  s.ppu.AgeListRight ∧
  (∀ k : Kind,
    (s.ppu.pools[k]).warm = ((List.finRange 8).map (fun w =>
      if (s.ppu.warmers[w]).kind = k then (s.ppu.warmers[w]).count else 0)).sum ∧
    s.ppu.LawHolds k) ∧
  (∀ (i : ResIx) (r : ResRec), s.ppu.entries[i] = some r → r.drawn < r.count) ∧
  (∀ w : WarmerIx, (s.ppu.warmers[w]).count ≤ (s.ppu.warmers[w]).capacity ∧ (s.ppu.warmers[w]).capacity ≤ 240) ∧
  (∀ i : StepIx, (s.fse.steps[i]).kind = .waitPlates → 1 ≤ (s.fse.steps[i]).count)

/-- START on channel `c` with first record `i` passes its four checks (R13). -/
def State.MayStart (s : State) (c : Chan) (i : StepIx) : Prop :=
  (s.fse.channels[c]).stacked = none ∧ ((s.fse.channels[c]).state = .idle ∨ (s.fse.channels[c]).state = .hold) ∧
  0 < (s.hlu.loads[ovenLoad c]).rating ∧ (s.hlu.loads[ovenLoad c]).state = .enabled ∧
  (s.hlu.probes[cavityProbe c]).faulted = false ∧ (s.fse.steps[i]).owner = .engine ∧ (s.fse.steps[i]).claim = none

/-- A channel that reaches record `j` begins it and waits for a reading: the record is ENGINE-owned and unclaimed (R32), of KIND
HEAT, SOAK or CORE, and its condition on a reading is not met (R21 to R23). -/
def State.Awaits (s : State) (c : Chan) (j : StepIx) : Prop :=
  (s.fse.steps[j]).owner = .engine ∧ (s.fse.steps[j]).claim = none ∧
  ((s.fse.steps[j]).kind = .heat ∨ (s.fse.steps[j]).kind = .soak ∨ (s.fse.steps[j]).kind = .core) ∧
  s.readingEnd c s.fse.steps[j] = none

/-- Between `s` and `t` channel `c` has begun record `j`, a record that carries SETPOINT (R19). -/
def State.Begun (s t : State) (c : Chan) (j : StepIx) : Prop :=
  (t.fse.channels[c]).state = .run ∧ (t.fse.channels[c]).current = some j ∧
  (t.fse.channels[c]).prefetched = (s.fse.steps[j]).next j ∧ (t.fse.channels[c]).elapsed = 0 ∧
  (t.fse.channels[c]).counted = 0 ∧ (t.fse.channels[c]).stepTimer = true ∧
  (t.fse.channels[c]).inForce = (s.fse.steps[j]).setpoint ∧
  (t.hlu.loads[ovenLoad c]).setpoint = (s.fse.steps[j]).setpoint ∧ (t.hlu.loads[ovenLoad c]).active = true

/-- From `s` to `t` nothing has changed at any channel but `c`, at any load but that of its oven, at the probes, the budget, the
pool counts, the warmers, the dish line, the fault monitor, the clock, the field lines and the queue of what waits. -/
def State.KeepsBeside (s t : State) (c : Chan) : Prop :=
  (∀ d : Chan, d ≠ c → t.fse.channels[d] = s.fse.channels[d]) ∧
  (∀ l : LoadIx, l ≠ ovenLoad c → t.hlu.loads[l] = s.hlu.loads[l]) ∧
  t.hlu.probes = s.hlu.probes ∧ t.hlu.verifyLeft = s.hlu.verifyLeft ∧ t.pba = s.pba ∧ t.ppu.pools = s.ppu.pools ∧
  t.ppu.warmers = s.ppu.warmers ∧ t.dlu = s.dlu ∧ t.fm = s.fm ∧ t.clock = s.clock ∧ t.pins = s.pins ∧ t.pending = s.pending

/-- The completion record of a record that has run no second (R6, R19). -/
def State.finished (s : State) (c : Chan) (outcome : StepOutcome) : Completion :=
  { outcome := outcome, endedAt := s.clock, elapsed := 0, counted := 0
    cavityMin := if (s.hlu.probes[cavityProbe c]).settled then (s.hlu.probes[cavityProbe c]).reading else 0
    cavityMax := if (s.hlu.probes[cavityProbe c]).settled then (s.hlu.probes[cavityProbe c]).reading else 0
    channel := some c }

/-- The ENDED notice of channel `c` whose chain ended at record `i` with an outcome into a state (R36, R213). -/
def State.endedNotice (s : State) (c : Chan) (i : StepIx) (outcome : StepOutcome) (entered : ChanState) : Notice :=
  { source := .channel, index := c.val, code := .ended, p1 := i.val, p2 := outcome.code, p3 := 256 * entered.code, time := s.clock }

/-- The STEP DONE notice of a record that has run no second (R30). -/
def State.doneNotice (s : State) (c : Chan) (i : StepIx) (outcome : StepOutcome) : Notice :=
  { source := .channel, index := c.val, code := .stepDone, p1 := i.val, p2 := outcome.code, p3 := 0, time := s.clock }

/-- `g` is `f` after condition `c`, clear before, has latched from a source at a clock value, with ALERT judged anew (R189 to
R191, R194). -/
def Fm.Latches (f g : Fm) (c : Cond) (source now : Nat) : Prop :=
  g.conds[c.index] =
    { f.conds[c.index] with latched := true, firstSource := some source, firstAt := now, occurrences := 1 } ∧
  (∀ d : Cond, d ≠ c → g.conds[d.index] = f.conds[d.index]) ∧ g.groups = f.groups ∧ g.subs = f.subs ∧
  (g.alert = true ↔ ∃ d : Cond, (g.conds[d.index]).latched = true ∧ (g.groups[d.group]).masked = false)

/-- A latching of `c` makes its group latched, and the group is paged for it (R191). -/
def Fm.OwesPage (f : Fm) (c : Cond) : Prop :=
  (f.conds[c.index]).latched = false ∧ (f.groups[c.group]).paging = true ∧
  ∀ d : Cond, d.group = c.group → (f.conds[d.index]).latched = false

/-- The page queue with the fault page of a latching of `c` from a source, to a role (R166 to R168, R170, R174, R193). -/
def Pgu.withFaultPage (g : Pgu) (c : Cond) (source role now : Nat) : Pgu :=
  let n := g.freeNumber 256 g.nextNumber
  { g with
    queue := g.queue ++ [
      { number := n, priority := .urgent, originator := .faultMonitor, noticeStation := none, reportTo := .none
        addressee := ⟨.role role, none⟩, escalation := none, message := 4096 + 16 * c.group.val + c.number
        parameter := source % 65536, ackPolicy := .any, escalated := false, state := .queued, arrival := g.order
        sendingOrder := 0, recipients := [], pending := [], acked := [], deadline := none, submittedAt := now }]
    nextNumber := (n + 1) % 256, order := (g.order + 1) % 65536 }

/-- The page queue that a page of some number has left, its transmission in flight orphaned (R169). -/
def Pgu.leftBy (g : Pgu) (number : Nat) : Pgu :=
  { g with
    queue := g.queue.filter (fun q => decide (q.number ≠ number))
    inFlight := g.inFlight.map (fun f => if f.number = number ∧ f.orphaned = false then { f with orphaned := true } else f) }

/-- The PAGE ENDED notice of a page (R169). -/
def State.pageEndedNotice (s : State) (p : PageRec) (outcome : PageOutcome) : Notice :=
  { source := .page, index := p.number, code := .pageEnded, p1 := outcome.code, p2 := p.acked.length
    p3 := p.recipients.length, time := s.clock }

/-- A reservation notice (R123). -/
def State.entryNotice (s : State) (i : ResIx) (code : NoticeCode) (creation p2 p3 : Nat) : Notice :=
  { source := .reservation, index := i.val, code := code, p1 := creation, p2 := p2, p3 := p3, time := s.clock }

/-- The reservation table without an entry: it is free and its index has left the AGE LIST (R120). -/
def Ppu.freed (p : Ppu) (i : ResIx) : Ppu :=
  { p with entries := p.entries.set i none, ageList := p.ageList.filter (fun j => decide (j ≠ i)) }

end Sys2Proof.Machine
end

