-- ==== Sys2Proof/Certificates/Slice0/Obligations.lean ====
section
/-! DEFINITION. Sys2Proof/Certificates/Slice0/Obligations.lean: the statements for the provers, in the order of the manual. Where a
statement gives the whole next state, everything it does not write there is unchanged. -/

open Sys2Proof Sys2Proof.Machine

/-! ### The queue of commands and the device reset -/

/-- One step takes the command at the front of the queue and carries it out on the state with the queue's rest; with
nothing waiting the part idles, which is the model's choice (log entry 7). -/
def Obligations.StepRule : Prop :=
  (∀ (i : Instr) (rest : List Instr) (s : State), s.pending = i :: rest → step s = exec i { s with pending := rest }) ∧
  (∀ s : State, s.pending = [] → step s = .next s)

/-- After a device reset every item of state holds its reset value, whatever the state before; the levels of the field
lines stand and are read anew, and the commands that wait outside the part stay (log entry 4). The step store (R7), the
channels and the engine's waiting sets (R9) are spelled out. That CORE TARGET is absent in a reset record, and its page fields
zeros with nothing present, is the model's choice (log entry 32), and so is that its own fields for a port's last answer and
response on the line and for the last TRANSMIT frame are empty (log entry 31). That L12 to L19 hold the SETPOINT of 800 which
R94 has handed them, and not the 0 of R48, is its reading (log entry 11). The roster is reset by R151. -/
def Obligations.DeviceResetRule : Prop :=
  (∀ s : State, exec .deviceReset s = .next { State.resetWith s.pins with pending := s.pending }) ∧
  (∀ s : State, ∃ t, exec .deviceReset s = .next t ∧ ∀ i : StepIx,
     t.fse.steps[i] =
       { owner := .station, claim := none, kind := .finish, setpoint := 0, band := 0, duration := 0, limit := 0,
         coreTarget := none, plateKind := 0, count := 0, page := ⟨0, 0, 0, 0, 0, 0, 0, 0, 0, 0, 0⟩, noteCode := 0,
         holdSetpoint := none, nextIndex := 0, flags := ⟨false, false, false, false, false, false, false⟩,
         completion :=
           { outcome := .notRun, endedAt := 0, elapsed := 0, counted := 0, cavityMin := 0, cavityMax := 0, channel := none } }) ∧
  (∀ s : State, ∃ t, exec .deviceReset s = .next t ∧
     (∀ c : Chan,
       (t.fse.channels[c]).state = .idle ∧ (t.fse.channels[c]).owner = none ∧ (t.fse.channels[c]).current = none
         ∧ (t.fse.channels[c]).prefetched = none ∧ (t.fse.channels[c]).elapsed = 0 ∧ (t.fse.channels[c]).counted = 0
         ∧ (t.fse.channels[c]).reservation = none ∧ (t.fse.channels[c]).page = none ∧ (t.fse.channels[c]).inForce = 0
         ∧ (t.fse.channels[c]).holdSetpoint = 0 ∧ (t.fse.channels[c]).fallback = 650
         ∧ (t.fse.channels[c]).stacked = none ∧ (t.fse.channels[c]).lastEnding = none) ∧
     (∀ x : Station, (t.sp.queues[x]).waiting = []) ∧
     t.fse.entryWaiters = [] ∧ t.fse.placeWaiters = [] ∧ t.fse.entryServed = 11 ∧ t.fse.placeServed = 11)

/-! ### Chapter 1 -/

/-- WRITE STEP (R4): the refusals in their order, and a taken one, which writes the record named and nothing else. dC fields are
read in two's complement before they are clamped (log entry 12), a GIVE above 1 is refused BAD ARGUMENT (log entry 13), a field
that the kind does not use is stored as carried (log entry 14), and bits 2 to 7 of PRESENCE, and the bits of the page fields
that have no meaning, such as the high byte of a BADGE, ROLE or ZONE value, are not judged (log entry 15); these are the
model's readings and choices. -/
def Obligations.WriteStepWritesOneRecord : Prop :=
  ∀ (x : Station) (idx : BitVec 16) (give : Byte) (im : StepImage) (s : State),
    (511 < idx.toNat → exec (.writeStep x idx give im) s = .next (s.setAnswer x ⟨0x10, ⟨.badArgument, []⟩⟩)) ∧
    ∀ i : StepIx, idx.toNat = i.val →
      ((s.fse.steps[i]).owner = .engine →
        exec (.writeStep x idx give im) s = .next (s.setAnswer x ⟨0x10, ⟨.stepOwned, []⟩⟩)) ∧
      ((s.fse.steps[i]).owner = .station →
        (1 < give.toNat ∨ 7 < im.kind.toNat ∨ im.flags.getLsbD 7 = true ∨ (im.flags.getLsbD 0 = true ∧ 511 < im.nextIndex.toNat)
          ∨ (im.kind = 2 ∧ im.presence.getLsbD 0 = false) ∨ (im.kind = 3 ∧ 3 < im.plateKind.toNat)
          ∨ (im.kind = 5 ∧ submissionOf im.page = none)) →
        exec (.writeStep x idx give im) s = .next (s.setAnswer x ⟨0x10, ⟨.badArgument, []⟩⟩)) ∧
      ((s.fse.steps[i]).owner = .station → give.toNat ≤ 1 → im.kind.toNat ≤ 7 → im.flags.getLsbD 7 = false →
        (im.flags.getLsbD 0 = true → im.nextIndex.toNat ≤ 511) → (im.kind = 2 → im.presence.getLsbD 0 = true) →
        (im.kind = 3 → im.plateKind.toNat ≤ 3) → (im.kind = 5 → (submissionOf im.page).isSome = true) →
        ∃ (r : StepRec) (result : Result),
          exec (.writeStep x idx give im) s = .next ((s.setStep i r).setAnswer x ⟨0x10, ⟨result, []⟩⟩) ∧
          r.owner = (if give = 1 then .engine else .station) ∧ r.claim = none ∧ r.completion = Completion.fresh ∧
          r.kind.code = im.kind.toNat ∧ r.flags = StepFlags.ofByte im.flags ∧
          r.setpoint = (if r.kind.carriesSetpoint then clampInt 0 3500 im.setpoint.toInt else im.setpoint.toInt) ∧
          r.band = (if r.kind = .heat ∨ r.kind = .soak then clampInt 10 500 im.band.toInt else im.band.toInt) ∧
          r.duration = (if r.kind = .soak then max 1 im.duration.toNat else im.duration.toNat) ∧
          r.limit = im.limit.toNat ∧ r.plateKind = im.plateKind ∧
          r.count = (if r.kind = .waitPlates then clampNat 1 240 im.count.toNat else im.count.toNat) ∧
          r.nextIndex = im.nextIndex.toNat ∧ r.noteCode = im.noteCode.toNat ∧ r.page = im.page ∧
          r.coreTarget =
            (if im.presence.getLsbD 0 then
              some (if r.kind = .soak ∨ r.kind = .core then clampInt (-500) 3500 im.coreTarget.toInt else im.coreTarget.toInt)
            else none) ∧
          r.holdSetpoint =
            (if im.presence.getLsbD 1 then
              some (if r.kind = .finish then clampInt 0 3500 im.holdSetpoint.toInt else im.holdSetpoint.toInt)
            else none) ∧
          (result = .ok ↔
            r.setpoint = im.setpoint.toInt ∧ r.band = im.band.toInt ∧ r.duration = im.duration.toNat ∧ r.count = im.count.toNat ∧
              (r.coreTarget = none ∨ r.coreTarget = some im.coreTarget.toInt) ∧
              (r.holdSetpoint = none ∨ r.holdSetpoint = some im.holdSetpoint.toInt)) ∧
          (result = .ok ∨ result = .clamped))

/-- START (R13): the refusals in the order of its table; and a START whose four checks pass, on a first record of KIND HEAT,
SOAK or CORE whose ending condition is not met: the channel runs it, owned by the issuing station, and its state is
handed to the oven load (R10, R19). -/
def Obligations.StartRule : Prop :=
  (∀ (x : Station) (chan : Byte) (first : BitVec 16) (s : State),
     (11 < chan.toNat ∨ 511 < first.toNat →
       exec (.start x chan first) s = .next (s.setAnswer x ⟨0x12, ⟨.badArgument, []⟩⟩)) ∧
     ∀ (c : Chan) (i : StepIx), chan.toNat = c.val → first.toNat = i.val →
       (∀ n, (s.fse.channels[c]).stacked = some n →
         exec (.start x chan first) s = .next
           ((((s.setQueue n.owedTo { s.sp.queues[n.owedTo] with
               waiting := (s.sp.queues[n.owedTo]).waiting.filter (fun d => decide (d ≠ c)) }).setChan c
             { s.fse.channels[c] with
               stacked := none, owner := if (s.fse.channels[c]).state = .idle then none else (s.fse.channels[c]).owner })).setAnswer x
             ⟨0x12, ⟨.statusPending, n.bytes⟩⟩)) ∧
       ((s.fse.channels[c]).stacked = none → ((s.fse.channels[c]).state = .run ∨ (s.fse.channels[c]).state = .stopped) →
         exec (.start x chan first) s = .next (s.setAnswer x ⟨0x12, ⟨.busy, []⟩⟩)) ∧
       ((s.fse.channels[c]).stacked = none → ((s.fse.channels[c]).state = .idle ∨ (s.fse.channels[c]).state = .hold) →
         ((s.hlu.loads[ovenLoad c]).rating = 0 ∨ (s.hlu.loads[ovenLoad c]).state ≠ .enabled
           ∨ (s.hlu.probes[cavityProbe c]).faulted = true) →
         exec (.start x chan first) s = .next (s.setAnswer x ⟨0x12, ⟨.unavailable, []⟩⟩)) ∧
       ((s.fse.channels[c]).stacked = none → ((s.fse.channels[c]).state = .idle ∨ (s.fse.channels[c]).state = .hold) →
         0 < (s.hlu.loads[ovenLoad c]).rating → (s.hlu.loads[ovenLoad c]).state = .enabled →
         (s.hlu.probes[cavityProbe c]).faulted = false →
         ((s.fse.steps[i]).owner ≠ .engine ∨ (s.fse.steps[i]).claim ≠ none) →
         exec (.start x chan first) s = .next (s.setAnswer x ⟨0x12, ⟨.stepOwned, []⟩⟩))) ∧
  (∀ (x : Station) (chan : Byte) (first : BitVec 16) (s : State) (c : Chan) (i : StepIx),
     chan.toNat = c.val → first.toNat = i.val → (s.fse.channels[c]).stacked = none →
     ((s.fse.channels[c]).state = .idle ∨ (s.fse.channels[c]).state = .hold) →
     0 < (s.hlu.loads[ovenLoad c]).rating → (s.hlu.loads[ovenLoad c]).state = .enabled →
     (s.hlu.probes[cavityProbe c]).faulted = false →
     (s.fse.steps[i]).owner = .engine → (s.fse.steps[i]).claim = none →
     ((s.fse.steps[i]).kind = .heat ∨ (s.fse.steps[i]).kind = .soak ∨ (s.fse.steps[i]).kind = .core) →
     s.readingEnd c s.fse.steps[i] = none →
       exec (.start x chan first) s = .next
         ((((s.setStep i { s.fse.steps[i] with claim := some c }).setChan c
           { s.fse.channels[c] with
             state := .run, owner := some x, current := some i, prefetched := (s.fse.steps[i]).next i, elapsed := 0,
             counted := 0, reservation := none, page := none, inForce := (s.fse.steps[i]).setpoint, stepTimer := true,
             extremes := (s.cavityNow c).map (fun v => (v, v)), repeated := false, delayedEnd := none }).handOven c).setAnswer x
           ⟨0x12, ⟨.accepted, []⟩⟩))

/-- START on a first record of KIND END, NOTE or DRAW PLATES, or of KIND WAIT PLATES for more plates than the warmers of its
kind can hold (R24, R25, R27, R28, R30, R32 to R36). END returns its record NORMAL and ends the chain into HOLD at its HOLD
SETPOINT, or into IDLE. DRAW PLATES without a reservation and the WAIT PLATES end NO RESERVATION, which ends the chain into the
fallback hold, or with TOLERATE lets it go on. NOTE posts STEP NOTE, or sets OVERFLOW where the queue is full, and the chain goes
on. Going on is stated for a next record that waits for a reading. -/
def Obligations.EndNoteAndNoReservationRules : Prop :=
  ∀ (x : Station) (chan : Byte) (first : BitVec 16) (s : State) (c : Chan) (i : StepIx),
    chan.toNat = c.val → first.toNat = i.val → s.MayStart c i →
    let r := s.fse.steps[i]
    let q := s.sp.queues[x]
    let reserveless : Prop := r.kind = .drawPlates ∨
      (r.kind = .waitPlates ∧ ∃ k : Kind, r.plateKind.toNat = k.val ∧ s.ppu.reserveCapacity k < r.count)
    let returned : StepOutcome → StepRec := fun o => { r with owner := .station, claim := none, completion := s.finished c o }
    let stepDone : StepOutcome → List Notice := fun o => if r.flags.notify then [s.doneNotice c i o] else []
    let accepted : State → Prop := fun t =>
      s.KeepsBeside t c ∧ t.ppu = s.ppu ∧ t.pgu = s.pgu ∧ (t.sp.ports[x]).answer = some ⟨0x12, ⟨.accepted, []⟩⟩
    let ended : State → StepOutcome → ChanState → Prop := fun t o entered =>
      accepted t ∧ (t.fse.channels[c]).state = entered ∧ (t.fse.channels[c]).current = none ∧
      (t.fse.channels[c]).lastEnding = some
        { channel := c, lastStep := i, outcome := o, entered := entered, endedAt := s.clock, superseded := false, owedTo := x } ∧
      (t.sp.queues[x]).notices = q.notices ++ stepDone o ++ [s.endedNotice c i o entered]
    let onward : State → StepIx → StepOutcome → Prop := fun t j o =>
      accepted t ∧ s.Begun t c j ∧ (t.fse.channels[c]).owner = some x ∧
      t.fse.steps = (s.fse.steps.set i { returned o with owner := if r.flags.retain then .engine else .station }).set j
        { s.fse.steps[j] with claim := some c }
    (r.kind = .finish → q.notices.length < 15 →
      ∃ t, exec (.start x chan first) s = .next t ∧ t.fse.steps = s.fse.steps.set i (returned .normal) ∧
        (∀ v, r.holdSetpoint = some v →
          ended t .normal .hold ∧ (t.fse.channels[c]).owner = some x ∧ (t.fse.channels[c]).holdSetpoint = v ∧
          (t.hlu.loads[ovenLoad c]).setpoint = v ∧ (t.hlu.loads[ovenLoad c]).active = true) ∧
        (r.holdSetpoint = none →
          ended t .normal .idle ∧ (t.fse.channels[c]).owner = none ∧ (t.hlu.loads[ovenLoad c]).active = false)) ∧
    (reserveless → r.flags.tolerate = false → q.notices.length < 15 →
      ∃ t, exec (.start x chan first) s = .next t ∧ ended t .noReservation .hold ∧
        t.fse.steps = ((s.setStep i (returned .noReservation)).releaseWalk c 513 (r.next i)).fse.steps ∧
        (t.fse.channels[c]).owner = some x ∧ (t.fse.channels[c]).holdSetpoint = (s.fse.channels[c]).fallback ∧
        (t.hlu.loads[ovenLoad c]).setpoint = (s.fse.channels[c]).fallback ∧ (t.hlu.loads[ovenLoad c]).active = true) ∧
    (∀ j : StepIx, r.next i = some j → j ≠ i → s.Awaits c j →
      (reserveless → r.flags.tolerate = true → q.notices.length < 16 →
        ∃ t, exec (.start x chan first) s = .next t ∧ onward t j .noReservation ∧
          (t.sp.queues[x]).notices = q.notices ++ stepDone .noReservation) ∧
      (r.kind = .note → q.notices.length < 15 →
        ∃ t, exec (.start x chan first) s = .next t ∧ onward t j .normal ∧
          (t.sp.queues[x]).notices = q.notices ++
            [{ source := .channel, index := c.val, code := .stepNote, p1 := i.val, p2 := r.noteCode, p3 := 0, time := s.clock }]
            ++ stepDone .normal) ∧
      (r.kind = .note → 16 ≤ q.notices.length →
        ∃ t, exec (.start x chan first) s = .next t ∧ onward t j .notPosted ∧
          (t.sp.queues[x]).notices = q.notices ∧ (t.sp.queues[x]).overflow = true))

/-- START on a first record of KIND WAIT PLATES or CALL (R24, R26, R111, R112, R114, R172). WAIT PLATES waits for an entry of a
full table; it waits with its new reservation where the ready plates do not cover it; and it ends NORMAL with the reservation
kept where they do. CALL waits for a place of a full page queue; with WAIT-ACK it waits with its page, whose end is then
reported to the channel; without, it ends NORMAL and the end is reported to the station. Going on is stated for a next
record that waits for a reading, a submission where no transmission may start, and a new entry where none of its kind waits.
That ARRIVAL ORDER takes the order counter before it is raised is the model's reading (log entry 24). -/
def Obligations.WaitPlatesAndCallRules : Prop :=
  ∀ (x : Station) (chan : Byte) (first : BitVec 16) (s : State) (c : Chan) (i : StepIx),
    chan.toNat = c.val → first.toNat = i.val → s.MayStart c i →
    let r := s.fse.steps[i]
    let accepted : State → Prop := fun t =>
      s.KeepsBeside t c ∧ (t.fse.channels[c]).owner = some x ∧ (t.sp.ports[x]).answer = some ⟨0x12, ⟨.accepted, []⟩⟩
    let waits : State → Prop := fun t =>
      accepted t ∧ s.Begun t c i ∧ t.fse.steps = s.fse.steps.set i { r with claim := some c } ∧ t.sp.queues = s.sp.queues
    let onward : State → StepIx → Prop := fun t j =>
      accepted t ∧ s.Begun t c j ∧
      t.fse.steps = (s.fse.steps.set i { r with
          owner := if r.flags.retain then .engine else .station, claim := none, completion := s.finished c .normal }).set j
        { s.fse.steps[j] with claim := some c }
    (∀ k : Kind, r.kind = .waitPlates → r.plateKind.toNat = k.val → r.count ≤ s.ppu.reserveCapacity k →
      (s.ppu.freeEntry = none →
        ∃ t, exec (.start x chan first) s = .next t ∧ waits t ∧ t.ppu = s.ppu ∧ t.pgu = s.pgu ∧
          (t.fse.channels[c]).reservation = none ∧ c ∈ t.fse.entryWaiters) ∧
      (∀ n : ResIx, s.ppu.freeEntry = some n → s.ppu.AgeListRight →
        (∀ (m : ResIx) (e : ResRec), s.ppu.entries[m] = some e → e.kind = k → e.state ≠ .waiting) →
        let made : ResState → Ppu := fun st =>
          { s.ppu with
            entries := s.ppu.entries.set n (some
              { kind := k, count := r.count, requested := r.count, drawn := 0, owner := .channel c, state := st
                shortened := false, creation := s.ppu.nextCreation, createdAt := s.clock })
            ageList := s.ppu.ageList ++ [n], nextCreation := (s.ppu.nextCreation + 1) % 65536 }
        (s.ppu.readyWarm k < r.count + s.ppu.sumOutstanding k →
          ∃ t, exec (.start x chan first) s = .next t ∧ waits t ∧ t.ppu = made .waiting ∧ t.pgu = s.pgu ∧
            (t.fse.channels[c]).reservation = some (n, s.ppu.nextCreation)) ∧
        (r.count + s.ppu.sumOutstanding k ≤ s.ppu.readyWarm k →
          ∀ j : StepIx, r.next i = some j → j ≠ i → s.Awaits c j →
            ∃ t, exec (.start x chan first) s = .next t ∧ onward t j ∧ t.ppu = made .ready ∧ t.pgu = s.pgu ∧
              (t.fse.channels[c]).reservation = some (n, s.ppu.nextCreation)))) ∧
    (∀ sub : Submission, r.kind = .call → submissionOf r.page = some sub →
      let n := s.pgu.freeNumber 256 s.pgu.nextNumber
      let queued : ReportTo → Pgu := fun report =>
        { s.pgu with
          queue := s.pgu.queue ++ [
            { number := n, priority := sub.priority, originator := .channel c, noticeStation := some x, reportTo := report
              addressee := sub.addressee, escalation := sub.escalation, message := sub.message, parameter := sub.parameter
              ackPolicy := sub.ackPolicy, escalated := false, state := .queued, arrival := s.pgu.order, sendingOrder := 0
              recipients := [], pending := [], acked := [], deadline := none, submittedAt := s.clock }]
          nextNumber := (n + 1) % 256, order := (s.pgu.order + 1) % 65536 }
      (48 ≤ s.pgu.queue.length →
        ∃ t, exec (.start x chan first) s = .next t ∧ waits t ∧ t.ppu = s.ppu ∧ t.pgu = s.pgu ∧
          (t.fse.channels[c]).page = none ∧ c ∈ t.fse.placeWaiters) ∧
      (s.pgu.queue.length < 48 → (s.pgu.linkUp = false ∨ s.pgu.inFlight.isSome = true) →
        (r.flags.waitAck = true →
          ∃ t, exec (.start x chan first) s = .next t ∧ waits t ∧ t.ppu = s.ppu ∧ t.pgu = queued .channel ∧
            (t.fse.channels[c]).page = some n) ∧
        (r.flags.waitAck = false → ∀ j : StepIx, r.next i = some j → j ≠ i → s.Awaits c j →
          ∃ t, exec (.start x chan first) s = .next t ∧ onward t j ∧ t.ppu = s.ppu ∧ t.pgu = queued .station ∧
            (t.fse.channels[c]).page = none)))

/-- HALT (R14): what it answers and changes in HOLD, IDLE and STOPPED and for an index above 11; and in RUN (R30, R33, R34,
R36) on a channel that holds no reservation and no page, with room for its notice: the record is returned HALTED, the
release walk is made from PREFETCHED NEXT, the channel enters IDLE, the ENDED notice is the last of its owner's queue, and
the answer is OK. RELEASE HOLD (R15) in every state. That an oven load made idle keeps its stored SETPOINT is the model's
reading (log entry 17). -/
def Obligations.HaltAndReleaseHoldRules : Prop :=
  (∀ (x : Station) (chan : Byte) (s : State),
     (11 < chan.toNat → exec (.halt x chan) s = .next (s.setAnswer x ⟨0x13, ⟨.badArgument, []⟩⟩)) ∧
     ∀ c : Chan, chan.toNat = c.val →
       ((s.fse.channels[c]).state = .hold →
         exec (.halt x chan) s = .next
           (((s.setChan c { s.fse.channels[c] with
               state := .idle
               owner := if (s.fse.channels[c]).stacked.isSome then (s.fse.channels[c]).owner else none }).handSetpoint (ovenLoad c)
             (s.hlu.loads[ovenLoad c]).setpoint false).setAnswer x ⟨0x13, ⟨.ok, []⟩⟩)) ∧
       ((s.fse.channels[c]).state = .idle → exec (.halt x chan) s = .next (s.setAnswer x ⟨0x13, ⟨.ok, []⟩⟩)) ∧
       ((s.fse.channels[c]).state = .stopped → exec (.halt x chan) s = .next (s.setAnswer x ⟨0x13, ⟨.unavailable, []⟩⟩))) ∧
  (∀ (x y : Station) (chan : Byte) (s : State) (c : Chan) (i : StepIx),
     chan.toNat = c.val → (s.fse.channels[c]).state = .run → (s.fse.channels[c]).current = some i →
     (s.fse.channels[c]).owner = some y → (s.fse.channels[c]).reservation = none → (s.fse.channels[c]).page = none →
     (s.sp.queues[y]).notices.length < 15 →
       ∃ t, exec (.halt x chan) s = .next t ∧ (t.sp.ports[x]).answer = some ⟨0x13, ⟨.ok, []⟩⟩ ∧
         (t.fse.channels[c]).state = .idle ∧ (t.fse.channels[c]).current = none ∧ (t.fse.channels[c]).prefetched = none ∧
         (t.fse.channels[c]).owner = none ∧ (t.fse.channels[c]).holdSetpoint = (s.fse.channels[c]).holdSetpoint ∧
         (t.fse.channels[c]).lastEnding
           = some { channel := c, lastStep := i, outcome := .halted, entered := .idle, endedAt := s.clock, superseded := false, owedTo := y } ∧
         t.fse.steps = ((s.setStep i { s.fse.steps[i] with
             owner := .station, claim := none
             completion := (s.fse.channels[c]).completion s.fse.steps[i] .halted s.clock c }).releaseWalk c 513
           (s.fse.channels[c]).prefetched).fse.steps ∧
         (t.sp.queues[y]).notices.getLast? = some
           { source := .channel, index := c.val, code := .ended, p1 := i.val, p2 := 8, p3 := 0, time := s.clock } ∧
         (t.hlu.loads[ovenLoad c]).active = false ∧
         (∀ d : Chan, d ≠ c → t.fse.channels[d] = s.fse.channels[d]) ∧
         (∀ l : LoadIx, l ≠ ovenLoad c → t.hlu.loads[l] = s.hlu.loads[l]) ∧
         (∀ z : Station, z ≠ y → t.sp.queues[z] = s.sp.queues[z]) ∧
         t.hlu.probes = s.hlu.probes ∧ t.clock = s.clock ∧ t.pba = s.pba ∧ t.ppu = s.ppu ∧ t.dlu = s.dlu ∧ t.pgu = s.pgu ∧
         t.fm = s.fm ∧ t.pins = s.pins ∧ t.pending = s.pending) ∧
  (∀ (x : Station) (chan : Byte) (s : State),
     (11 < chan.toNat → exec (.releaseHold x chan) s = .next (s.setAnswer x ⟨0x14, ⟨.badArgument, []⟩⟩)) ∧
     ∀ c : Chan, chan.toNat = c.val →
       ((s.fse.channels[c]).state = .hold →
         exec (.releaseHold x chan) s = .next
           (((s.setChan c { s.fse.channels[c] with
               state := .idle
               owner := if (s.fse.channels[c]).stacked.isSome then (s.fse.channels[c]).owner else none }).handSetpoint (ovenLoad c)
             (s.hlu.loads[ovenLoad c]).setpoint false).setAnswer x ⟨0x14, ⟨.ok, []⟩⟩)) ∧
       ((s.fse.channels[c]).state = .idle → exec (.releaseHold x chan) s = .next (s.setAnswer x ⟨0x14, ⟨.ok, []⟩⟩)) ∧
       ((s.fse.channels[c]).state = .run → exec (.releaseHold x chan) s = .next (s.setAnswer x ⟨0x14, ⟨.busy, []⟩⟩)) ∧
       ((s.fse.channels[c]).state = .stopped → exec (.releaseHold x chan) s = .next (s.setAnswer x ⟨0x14, ⟨.unavailable, []⟩⟩)))

/-- RESET CHANNEL (R16): the refusals, and the return to IDLE of a STOPPED channel whose fault has gone. That its oven load keeps
its stored SETPOINT is the model's reading (log entry 17). -/
def Obligations.ResetChannelRule : Prop :=
  ∀ (x : Station) (chan : Byte) (s : State),
    (11 < chan.toNat → exec (.resetChannel x chan) s = .next (s.setAnswer x ⟨0x15, ⟨.badArgument, []⟩⟩)) ∧
    ∀ c : Chan, chan.toNat = c.val →
      ((s.fse.channels[c]).state ≠ .stopped → exec (.resetChannel x chan) s = .next (s.setAnswer x ⟨0x15, ⟨.busy, []⟩⟩)) ∧
      ((s.fse.channels[c]).state = .stopped → (s.hlu.loads[ovenLoad c]).testing = true →
        exec (.resetChannel x chan) s = .next (s.setAnswer x ⟨0x15, ⟨.busy, []⟩⟩)) ∧
      ((s.fse.channels[c]).state = .stopped → (s.hlu.loads[ovenLoad c]).testing = false →
        ((s.hlu.loads[ovenLoad c]).rating = 0 ∨ (s.hlu.loads[ovenLoad c]).state = .faulted
          ∨ ((s.hlu.loads[ovenLoad c]).state = .tripped ∧ (s.hlu.probes[cavityProbe c]).settled = true
              ∧ (s.hlu.loads[ovenLoad c]).tripLimit - 50 ≤ (s.hlu.probes[cavityProbe c]).reading)
          ∨ (s.hlu.probes[cavityProbe c]).lost ≠ none ∨ (s.hlu.probes[cavityProbe c]).range = true) →
        exec (.resetChannel x chan) s = .next (s.setAnswer x ⟨0x15, ⟨.unavailable, []⟩⟩)) ∧
      ((s.fse.channels[c]).state = .stopped → (s.hlu.loads[ovenLoad c]).state = .enabled →
        0 < (s.hlu.loads[ovenLoad c]).rating → (s.hlu.probes[cavityProbe c]).faulted = false →
        exec (.resetChannel x chan) s = .next
          (((s.setChan c { s.fse.channels[c] with
              state := .idle
              owner := if (s.fse.channels[c]).stacked.isSome then (s.fse.channels[c]).owner else none }).handSetpoint (ovenLoad c)
            (s.hlu.loads[ovenLoad c]).setpoint false).setAnswer x ⟨0x15, ⟨.ok, []⟩⟩)) ∧
      ((s.fse.channels[c]).state = .stopped → (s.hlu.loads[ovenLoad c]).state = .tripped →
        0 < (s.hlu.loads[ovenLoad c]).rating → (s.hlu.probes[cavityProbe c]).faulted = false →
        ((s.hlu.probes[cavityProbe c]).settled = true →
          (s.hlu.probes[cavityProbe c]).reading < (s.hlu.loads[ovenLoad c]).tripLimit - 50) →
        ∃ t, exec (.resetChannel x chan) s = .next t ∧ (t.fse.channels[c]).state = .idle ∧
          (t.hlu.loads[ovenLoad c]).trip = false ∧ (t.hlu.loads[ovenLoad c]).active = false ∧
          (t.sp.ports[x]).answer = some ⟨0x15, ⟨.ok, []⟩⟩ ∧
          (∀ d : Chan, d ≠ c → t.fse.channels[d] = s.fse.channels[d]) ∧ t.fse.steps = s.fse.steps ∧ t.clock = s.clock ∧ t.hlu.probes = s.hlu.probes ∧
          t.pba = s.pba ∧ t.ppu = s.ppu ∧ t.dlu = s.dlu ∧ t.pgu = s.pgu ∧ t.sp.queues = s.sp.queues ∧ t.pins = s.pins)

/-- SET CHANNEL (R11) writes the clamped FALLBACK HOLD SETPOINT in every state, and nothing else of the channel; the value is
used where a chain ends in the fallback hold (R33). That it is read in two's complement before it is clamped is the model's
reading (log entry 12). -/
def Obligations.SetChannelRule : Prop :=
  (∀ (x : Station) (chan : Byte) (fallback : BitVec 16) (s : State),
     (11 < chan.toNat → exec (.setChannel x chan fallback) s = .next (s.setAnswer x ⟨0x16, ⟨.badArgument, []⟩⟩)) ∧
     ∀ c : Chan, chan.toNat = c.val →
       exec (.setChannel x chan fallback) s = .next
         ((s.setChan c { s.fse.channels[c] with
             fallback := if fallback.toInt < 0 then 0 else if 3500 < fallback.toInt then 3500 else fallback.toInt }).setAnswer x
           ⟨0x16, ⟨if fallback.toInt < 0 ∨ 3500 < fallback.toInt then .clamped else .ok, []⟩⟩)) ∧
  (∀ (ch : ChanRec) (outcome : StepOutcome), outcome ≠ .halted → outcome ≠ .fault →
     ch.entering outcome false none = { ch with state := .hold, holdSetpoint := ch.fallback })

/-- The step timer. A running step that reaches neither DURATION nor LIMIT: STEP ELAPSED rises by one, held at 65535, and
COUNTED by one where a SOAK finds its cavity reading in the band (R20, R22). A HEAT step without TOLERATE that reaches LIMIT
ends TIMEOUT, and its chain ends in the fallback hold (R29, R33): stated for a channel that holds no reservation and no
page. Then every running step, whatever its channel holds. A SOAK whose COUNTED reaches DURATION ends NORMAL, before LIMIT
(R20, R22). At LIMIT a step ends TIMEOUT, and first: WAIT PLATES has its reservation cancelled and leaves the channels that
wait for an entry (R24); DRAW PLATES has its reservation closed (R25); CALL leaves the channels that wait for a place, and
its page is cancelled while QUEUED or SENDING and detached to the OWNING STATION once SENT (R26). The first expiry of a
record begun again within one event (R19) makes the end that its kind's rule kept or finds, a NOTE posting its notice there,
and is otherwise as any other. That STEP ELAPSED rises before that end, and that a WAIT PLATES whose reservation stands
WAITING again goes on, is the model's reading (log entry 19). -/
def Obligations.StepTimerRule : Prop :=
  (∀ (s : State) (c : Chan) (i : StepIx),
     (s.fse.channels[c]).state = .run → (s.fse.channels[c]).current = some i → (s.fse.channels[c]).stepTimer = true →
     (s.fse.channels[c]).repeated = false → (s.fse.channels[c]).delayedEnd = none →
     ((s.fse.steps[i]).kind ≠ .note ∧ (s.fse.steps[i]).kind ≠ .finish) →
     ((s.fse.steps[i]).kind = .soak → (s.fse.channels[c]).counted + 1 < (s.fse.steps[i]).duration) →
     ((s.fse.steps[i]).limit = 0 ∨ min 65535 ((s.fse.channels[c]).elapsed + 1) < (s.fse.steps[i]).limit) →
       exec (.stepTimerExpiry c) s = .next
         (s.setChan c { s.fse.channels[c] with
           elapsed := min 65535 ((s.fse.channels[c]).elapsed + 1)
           counted :=
             if (s.fse.steps[i]).kind = .soak ∧ (s.hlu.probes[cavityProbe c]).settled = true ∧
                 (s.fse.steps[i]).setpoint - (s.fse.steps[i]).band ≤ (s.hlu.probes[cavityProbe c]).reading ∧
                 (s.hlu.probes[cavityProbe c]).reading ≤ (s.fse.steps[i]).setpoint + (s.fse.steps[i]).band then
               min 65535 ((s.fse.channels[c]).counted + 1)
             else (s.fse.channels[c]).counted })) ∧
  (∀ (s : State) (c : Chan) (i : StepIx),
     (s.fse.channels[c]).state = .run → (s.fse.channels[c]).current = some i → (s.fse.channels[c]).stepTimer = true →
     (s.fse.channels[c]).repeated = false → (s.fse.channels[c]).reservation = none → (s.fse.channels[c]).page = none →
     (s.fse.steps[i]).kind = .heat → (s.fse.steps[i]).flags.tolerate = false → (s.fse.steps[i]).limit ≠ 0 →
     (s.fse.steps[i]).limit ≤ min 65535 ((s.fse.channels[c]).elapsed + 1) →
       ∃ t, exec (.stepTimerExpiry c) s = .next t ∧
         (t.fse.channels[c]).state = .hold ∧ (t.fse.channels[c]).holdSetpoint = (s.fse.channels[c]).fallback ∧
         (t.fse.channels[c]).current = none ∧ (t.fse.channels[c]).owner = (s.fse.channels[c]).owner ∧
         (t.fse.steps[i]).owner = .station ∧ (t.fse.steps[i]).claim = none ∧
         (t.fse.steps[i]).completion.outcome = .timeout ∧ (t.fse.steps[i]).completion.endedAt = s.clock ∧
         (t.fse.steps[i]).completion.elapsed = min 65535 ((s.fse.channels[c]).elapsed + 1) ∧
         (t.hlu.loads[ovenLoad c]).setpoint = (s.fse.channels[c]).fallback ∧ (t.hlu.loads[ovenLoad c]).active = true ∧
         (∀ d : Chan, d ≠ c → t.fse.channels[d] = s.fse.channels[d]) ∧
         t.clock = s.clock ∧ t.hlu.probes = s.hlu.probes ∧ t.pba = s.pba ∧ t.ppu = s.ppu ∧ t.dlu = s.dlu ∧ t.pgu = s.pgu ∧
         t.fm = s.fm ∧ t.pins = s.pins ∧ t.pending = s.pending) ∧
  (∀ (s : State) (c : Chan),
     exec (.stepTimerExpiry c) s = .next ((Ev.start s).stepSecond c).finish ∧
     (((s.fse.channels[c]).state ≠ .run ∨ (s.fse.channels[c]).stepTimer = false) → exec (.stepTimerExpiry c) s = .next s)) ∧
  (∀ (c : Chan) (i : StepIx) (e : Ev),
     (e.s.fse.channels[c]).state = .run → (e.s.fse.channels[c]).current = some i → (e.s.fse.channels[c]).stepTimer = true →
     let ch := e.s.fse.channels[c]
     let r := e.s.fse.steps[i]
     let cavity := e.s.hlu.probes[cavityProbe c]
     let ticked : ChanRec :=
       { ch with elapsed := min 65535 (ch.elapsed + 1), repeated := false, delayedEnd := none }
     let now : ChanRec :=
       { ticked with
         counted :=
           if r.kind = .soak ∧ cavity.settled = true ∧ r.setpoint - r.band ≤ cavity.reading ∧
               cavity.reading ≤ r.setpoint + r.band then
             min 65535 (ch.counted + 1)
           else ch.counted }
     let timed : Ev := e.on (fun s => s.setChan c now)
     let complete := r.kind = .soak ∧ r.duration ≤ now.counted
     let late := r.limit ≠ 0 ∧ r.limit ≤ now.elapsed ∧ r.kind ≠ .note ∧ r.kind ≠ .finish
     (ch.repeated = false →
       (complete → e.stepSecond c = timed.endStep c .normal) ∧
       (¬ complete → ¬ late → e.stepSecond c = timed) ∧
       (¬ complete → late →
         let bare : Ev := e.on (fun s => s.setChan c { now with reservation := none })
         let ended : ResIx → ResRec → Ev := fun n q =>
           ((bare.on (fun s => { s with ppu := s.ppu.freed n })).evaluate q.kind).hand .entryFree
         let quit : Ev → Ev := fun x => x.on (fun s => { s with fse := { s.fse with
           entryWaiters := s.fse.entryWaiters.filter (fun d => decide (d ≠ c)) } })
         let lives : ResIx → Nat → ResRec → Prop := fun n creation q =>
           ch.reservation = some (n, creation) ∧ e.s.ppu.entries[n] = some q ∧ q.creation = creation
         ((r.kind = .heat ∨ r.kind = .soak ∨ r.kind = .core) → e.stepSecond c = timed.endStep c .timeout) ∧
         (r.kind = .waitPlates →
           (∀ (n : ResIx) (creation : Nat) (q : ResRec), lives n creation q →
             e.stepSecond c = (quit (ended n q)).endStep c .timeout) ∧
           ((∀ (n : ResIx) (creation : Nat) (q : ResRec), ¬ lives n creation q) →
             e.stepSecond c = (quit bare).endStep c .timeout)) ∧
         (r.kind = .drawPlates →
           (∀ (n : ResIx) (creation : Nat) (q : ResRec), lives n creation q →
             e.stepSecond c = (ended n q).endStep c .timeout) ∧
           ((∀ (n : ResIx) (creation : Nat) (q : ResRec), ¬ lives n creation q) →
             e.stepSecond c = bare.endStep c .timeout)) ∧
         (r.kind = .call →
           let left : Ev := e.on (fun s => { s.setChan c { now with page := none } with fse :=
             { (s.setChan c { now with page := none }).fse with
               placeWaiters := s.fse.placeWaiters.filter (fun d => decide (d ≠ c)) } })
           (∀ p : PageRec, ch.page = some p.number → e.s.pgu.queue.find? (fun q => decide (q.number = p.number)) = some p →
             p.originator = .channel c → p.reportTo = .channel →
               (p.state ≠ .sent →
                 e.stepSecond c =
                   ((left.on (fun s => s.setPgu (s.pgu.leftBy p.number))).hand .placeFree).endStep c .timeout) ∧
               (p.state = .sent →
                 e.stepSecond c =
                   (left.on (fun s => s.setPgu { s.pgu with
                     queue := s.pgu.queue.map (fun q =>
                       if q.number = p.number then { q with reportTo := .station } else q) })).endStep c .timeout)) ∧
           ((ch.page = none ∨ ∃ n : Nat, ch.page = some n ∧
               ∀ p ∈ e.s.pgu.queue, p.number = n → ¬ (p.originator = .channel c ∧ p.reportTo = .channel)) →
             e.stepSecond c = left.endStep c .timeout)))) ∧
     (ch.repeated = true →
       let first : Ev := e.on (fun s => s.setChan c ticked)
       let waits := ∃ (n : ResIx) (q : ResRec),
         ch.reservation = some (n, q.creation) ∧ e.s.ppu.entries[n] = some q ∧ q.state = .waiting
       let owes : StepOutcome → Prop := fun o =>
         ((r.kind = .heat ∨ r.kind = .soak ∨ r.kind = .core) ∧ e.s.readingEnd c r = some o) ∨
         ((r.kind = .drawPlates ∨ r.kind = .call ∨ r.kind = .finish ∨ (r.kind = .waitPlates ∧ ¬ waits)) ∧
           ch.delayedEnd = some o)
       (∀ o : StepOutcome, owes o → e.stepSecond c = first.endStep c o) ∧
       (r.kind ≠ .note → (∀ o : StepOutcome, ¬ owes o) →
         e.stepSecond c = (e.on (fun s => s.setChan c { ch with repeated := false })).stepSecond c) ∧
       (r.kind = .note → ∀ x : Station, ch.owner = some x →
         e.stepSecond c =
           (first.on (State.postNotice x
             { source := .channel, index := c.val, code := .stepNote, p1 := i.val, p2 := r.noteCode, p3 := 0
               time := e.s.clock })).endStep c
             (if (e.s.sp.queues[x]).notices.length < 16 then .normal else .notPosted))))

/-- The end of a step and what follows it (R29 to R36), within an event. Which outcomes let a chain go on; the record then returned
or kept by RETAIN, STEP DONE, and the move to PREFETCHED NEXT; SKIP after EARLY, which returns the next record SKIPPED or ends
the chain; the end of the chain otherwise, with the state entered and everything given back. Moving on: STARVED, CONFLICT, or
the record begun. The reports that end a step (R24 to R26, R124, R169): a reservation READY, DONE or SHORT, and the end of a
page, for a channel that has begun no record again within the event. The readings that end a step (R21 to R23): a settled cavity
reading widens the extremes of the running step and, at or above SETPOINT − BAND, ends a HEAT NORMAL; a settled core reading at
or above CORE TARGET ends a SOAK EARLY and a CORE NORMAL; any other reading, and any reading at a channel that runs no step,
leaves the step running. The same test is made when the step begins. That a channel's own move to its next record is taken
before the reports that wait is the model's choice (log entry 1), and that a record begun again keeps an end which a reading
of the same event makes for its first expiry is its reading (log entry 19). -/
def Obligations.StepEndAndReportRules : Prop :=
  (∀ (r : StepRec) (o : StepOutcome), r.goesOn o = true ↔
     r.kind ≠ .finish ∧ (o = .normal ∨ o = .early ∨ o = .notPosted ∨
       (r.flags.tolerate = true ∧ (o = .timeout ∨ o = .unanswered ∨ o = .short ∨ o = .noReservation)))) ∧
  (∀ (c : Chan) (o : StepOutcome) (i : StepIx) (e : Ev),
     (e.s.fse.channels[c]).state = .run → (e.s.fse.channels[c]).current = some i →
     let ch := e.s.fse.channels[c]
     let r := e.s.fse.steps[i]
     let t := e.endStep c o
     let completed : StepRec :=
       { r with
         claim := none
         completion :=
           { outcome := o, endedAt := e.s.clock, elapsed := ch.elapsed, counted := if r.kind = .soak then ch.counted else 0
             cavityMin := (ch.extremes.getD (0, 0)).1, cavityMax := (ch.extremes.getD (0, 0)).2, channel := some c } }
     let kept : StepRec := { completed with owner := if r.flags.retain then r.owner else .station }
     (r.goesOn o = true → ¬ (r.flags.skip = true ∧ o = .early) →
       t.work = .moveOn c ch.prefetched :: e.work ∧ t.s.fse.steps = e.s.fse.steps.set i kept ∧
       (r.flags.notify = false → t.s.sp = e.s.sp) ∧
       (∀ x : Station, r.flags.notify = true → ch.owner = some x → (e.s.sp.queues[x]).notices.length < 16 →
         (t.s.sp.queues[x]).notices = (e.s.sp.queues[x]).notices ++
           [{ source := .channel, index := c.val, code := .stepDone, p1 := i.val, p2 := o.code, p3 := ch.elapsed
              time := e.s.clock }])) ∧
     (r.goesOn o = true → r.flags.skip = true → o = .early → ∀ j : StepIx, ch.prefetched = some j → j ≠ i →
       let q := e.s.fse.steps[j]
       (q.owner = .engine → q.claim = none →
         t.work = .moveOn c (q.next j) :: e.work ∧
         t.s.fse.steps = (e.s.fse.steps.set i kept).set j { q with
           owner := if q.flags.retain then .engine else .station, completion := ⟨.skipped, e.s.clock, 0, 0, 0, 0, some c⟩ }) ∧
       (q.owner = .station ∨ q.claim ≠ none →
         (t.s.fse.channels[c]).state = .hold ∧ (t.s.fse.channels[c]).holdSetpoint = ch.fallback ∧
         ∀ x : Station, ch.owner = some x → ∃ n, (t.s.fse.channels[c]).lastEnding = some n ∧ n.lastStep = i ∧
           n.outcome = if q.owner = .station then .starved else .conflict)) ∧
     (r.goesOn o = false →
       t.s.fse.steps[i] = { completed with owner := .station } ∧
       (t.s.fse.channels[c]).state =
         (if r.kind = .finish ∧ o = .normal then if r.holdSetpoint.isSome then .hold else .idle
          else if o = .halted then .idle else if o = .fault then .stopped else .hold) ∧
       (t.s.fse.channels[c]).holdSetpoint =
         (if r.kind = .finish ∧ o = .normal then r.holdSetpoint.getD ch.holdSetpoint
          else if o = .halted ∨ o = .fault then ch.holdSetpoint else ch.fallback) ∧
       (t.s.fse.channels[c]).current = none ∧ (t.s.fse.channels[c]).prefetched = none ∧
       (t.s.fse.channels[c]).reservation = none ∧ (t.s.fse.channels[c]).page = none ∧
       c ∉ t.s.fse.entryWaiters ∧ c ∉ t.s.fse.placeWaiters ∧
       ∀ x : Station, ch.owner = some x → ∃ n, (t.s.fse.channels[c]).lastEnding = some n ∧ n.lastStep = i ∧ n.outcome = o ∧
         n.entered = (t.s.fse.channels[c]).state ∧ n.owedTo = x)) ∧
  (∀ (c : Chan) (next : Option StepIx) (e : Ev),
     let ch := e.s.fse.channels[c]
     let t := e.take (.moveOn c next)
     let endedAs : StepOutcome → Prop := fun o =>
       (t.s.fse.channels[c]).state = .hold ∧ (t.s.fse.channels[c]).holdSetpoint = ch.fallback ∧
       ∀ (x : Station) (i : StepIx), ch.owner = some x → ch.current = some i →
         ∃ n, (t.s.fse.channels[c]).lastEnding = some n ∧ n.lastStep = i ∧ n.outcome = o ∧ n.entered = .hold
     (next = none → endedAs .starved) ∧
     (∀ j : StepIx, next = some j →
       ((e.s.fse.steps[j]).owner = .station → endedAs .starved) ∧
       ((e.s.fse.steps[j]).owner = .engine → (e.s.fse.steps[j]).claim ≠ none → endedAs .conflict) ∧
       (e.s.Awaits c j → (c, j) ∉ e.begun → ch.state = .run →
         e.s.Begun t.s c j ∧ t.s.fse.steps = e.s.fse.steps.set j { e.s.fse.steps[j] with claim := some c } ∧
         t.work = e.work ∧ t.s.sp = e.s.sp ∧ t.s.ppu = e.s.ppu ∧ t.s.pgu = e.s.pgu))) ∧
  (∀ (c : Chan) (i : StepIx) (n : ResIx) (creation : Nat) (short : Bool) (number : Nat) (outcome : PageOutcome) (e : Ev),
     (e.s.fse.channels[c]).state = .run → (e.s.fse.channels[c]).current = some i → c ∉ e.again →
     let ch := e.s.fse.channels[c]
     let r := e.s.fse.steps[i]
     let freed : Ev := e.on (fun s => s.setChan c { ch with reservation := none })
     let answered : Ev := e.on (fun s => s.setChan c { ch with page := none })
     (ch.reservation = some (n, creation) →
       (r.kind = .waitPlates → e.take (.entryReady c n creation) = e.endStep c .normal) ∧
       (r.kind = .drawPlates →
         e.take (.entryEnded c n creation short) = freed.endStep c (if short then .short else .normal)) ∧
       (r.kind ≠ .waitPlates → e.take (.entryReady c n creation) = e) ∧
       (r.kind ≠ .drawPlates → e.take (.entryEnded c n creation short) = freed)) ∧
     (ch.reservation ≠ some (n, creation) →
       e.take (.entryReady c n creation) = e ∧ e.take (.entryEnded c n creation short) = e) ∧
     (ch.page = some number →
       (r.kind = .call →
         e.take (.pageEnded c number outcome) = answered.endStep c (if outcome = .done then .normal else .unanswered)) ∧
       (r.kind ≠ .call → e.take (.pageEnded c number outcome) = answered)) ∧
     (ch.page ≠ some number → e.take (.pageEnded c number outcome) = e)) ∧
  (∀ (c : Chan) (i : StepIx) (e : Ev),
     (e.s.fse.channels[c]).state = .run → (e.s.fse.channels[c]).current = some i →
     let ch := e.s.fse.channels[c]
     let r := e.s.fse.steps[i]
     let cavity := e.s.hlu.probes[cavityProbe c]
     let core := e.s.hlu.probes[coreProbe c]
     let widened : Ev := e.on (fun s => s.setChan c { ch with
       extremes := some (min (ch.extremes.getD (cavity.reading, cavity.reading)).1 cavity.reading,
         max (ch.extremes.getD (cavity.reading, cavity.reading)).2 cavity.reading) })
     let ends : Ev → StepOutcome → Ev := fun x o =>
       if c ∈ e.again then
         x.on (fun s => s.setChan c { s.fse.channels[c] with delayedEnd := some (ch.delayedEnd.getD o) })
       else x.endStep c o
     (cavity.settled = false → e.take (.cavityReading c) = e) ∧
     (cavity.settled = true →
       (r.kind = .heat → r.setpoint - r.band ≤ cavity.reading → e.take (.cavityReading c) = ends widened .normal) ∧
       ((r.kind ≠ .heat ∨ cavity.reading < r.setpoint - r.band) → e.take (.cavityReading c) = widened)) ∧
     (∀ target : Int, core.settled = true → r.coreTarget = some target → target ≤ core.reading →
       (r.kind = .soak → e.take (.coreReading c) = ends e .early) ∧
       (r.kind = .core → e.take (.coreReading c) = ends e .normal)) ∧
     ((core.settled = false ∨ (r.kind ≠ .soak ∧ r.kind ≠ .core) ∨
         ∀ target : Int, r.coreTarget = some target → core.reading < target) →
       e.take (.coreReading c) = e)) ∧
  (∀ (c : Chan) (e : Ev), ((e.s.fse.channels[c]).state ≠ .run ∨ (e.s.fse.channels[c]).current = none) →
     e.take (.cavityReading c) = e ∧ e.take (.coreReading c) = e) ∧
  (∀ (s : State) (c : Chan) (r : StepRec) (o : StepOutcome),
     let cavity := s.hlu.probes[cavityProbe c]
     let core := s.hlu.probes[coreProbe c]
     s.readingEnd c r = some o ↔
       (r.kind = .heat ∧ o = .normal ∧ cavity.settled = true ∧ r.setpoint - r.band ≤ cavity.reading) ∨
       (((r.kind = .soak ∧ o = .early) ∨ (r.kind = .core ∧ o = .normal)) ∧ core.settled = true ∧
         ∃ target : Int, r.coreTarget = some target ∧ target ≤ core.reading)) ∧
  (∀ (c : Chan) (j : StepIx) (o : StepOutcome) (e : Ev),
     let q := e.s.fse.steps[j]
     let t := e.take (.moveOn c (some j))
     (e.s.fse.channels[c]).state = .run → q.owner = .engine → q.claim = none → (c, j) ∉ e.begun →
     e.s.readingEnd c q = some o → ¬ (q.flags.skip = true ∧ o = .early) →
       t.work = .moveOn c (q.next j) :: e.work ∧
       t.s.fse.steps = e.s.fse.steps.set j
         { q with owner := if q.flags.retain then .engine else .station, completion := e.s.finished c o })

/-- The release walk (R34) touches only the step store, and of it only records that were ENGINE-owned and unclaimed:
each of those is left as it was or returned NOT RUN, whatever its RETAIN; the record it starts at is returned where it is
ENGINE-owned and unclaimed. An ending is not dropped (R36): it enters the owner's queue, or it stands stacked in the
channel, which is then in the waiting set of the station to which it is owed; and LAST ENDING keeps it. -/
def Obligations.ReleaseWalkAndEndingsRules : Prop :=
  (∀ (c : Chan) (n : Nat) (start : Option StepIx) (s : State),
     s.releaseWalk c n start = { s with fse := { s.fse with steps := (s.releaseWalk c n start).fse.steps } } ∧
     (∀ i : StepIx,
       ((s.fse.steps[i]).owner = .station ∨ (s.fse.steps[i]).claim ≠ none →
         (s.releaseWalk c n start).fse.steps[i] = s.fse.steps[i]) ∧
       ((s.releaseWalk c n start).fse.steps[i] = s.fse.steps[i] ∨
         (s.releaseWalk c n start).fse.steps[i] =
           { s.fse.steps[i] with owner := .station, completion := ⟨.notRun, s.clock, 0, 0, 0, 0, some c⟩ })) ∧
     (∀ i : StepIx, 0 < n → start = some i → (s.fse.steps[i]).owner = .engine → (s.fse.steps[i]).claim = none →
       ((s.releaseWalk c n start).fse.steps[i]).owner = .station)) ∧
  (∀ (c : Chan) (i : StepIx) (o : StepOutcome) (y : Station) (s : State), (s.fse.channels[c]).owner = some y →
     let t := s.postEnding c i o
     ((s.sp.queues[y]).notices.length < 16 →
       (t.sp.queues[y]).notices = (s.sp.queues[y]).notices ++
           [{ source := .channel, index := c.val, code := .ended, p1 := i.val, p2 := o.code
              p3 := 256 * (s.fse.channels[c]).state.code, time := s.clock }] ∧
         (t.fse.channels[c]).stacked = (s.fse.channels[c]).stacked) ∧
     (16 ≤ (s.sp.queues[y]).notices.length →
       (t.sp.queues[y]).notices = (s.sp.queues[y]).notices ∧ c ∈ (t.sp.queues[y]).waiting ∧
         (t.fse.channels[c]).owner = some y ∧
         (t.fse.channels[c]).stacked
           = some { channel := c, lastStep := i, outcome := o, entered := (s.fse.channels[c]).state, endedAt := s.clock,
                    superseded := (s.fse.channels[c]).stacked.isSome, owedTo := y }) ∧
     (∃ n, (t.fse.channels[c]).lastEnding = some n ∧ n.lastStep = i ∧ n.outcome = o ∧ n.endedAt = s.clock ∧ n.owedTo = y))

/-! ### Chapter 2 -/

/-- R42: a rising edge that makes no conversion opens a period and restarts the counter; at a falling edge HIGH TIME
takes the counter value while a period is open, and is left alone otherwise. The overflow of the capture counter (R41,
R45), whatever else the event causes: the probe record afterwards. At the third overflow LOST is set with the level of
the line, and a probe that was not faulted is UNSETTLED with an empty WINDOW and the reading it had. That the counter takes the time an edge brings
as an operand, and stops at 65535, is the model's choice (log entry 3). -/
def Obligations.EdgeAndOverflowRules : Prop :=
  ((∀ (p : ProbeIx) (elapsed : BitVec 16) (s : State),
      ((s.hlu.probes[p]).periodOpen = false ∨ (s.hlu.probes[p]).highTime = none) →
        exec (.probeRisingEdge p elapsed) s = .next
          ((s.setProbe p { s.hlu.probes[p] with
              lineLevel := .high, stale := 0, capture := 0, periodOpen := true, highTime := none }).setLine p .high)) ∧
   (∀ (p : ProbeIx) (elapsed : BitVec 16) (s : State),
      exec (.probeFallingEdge p elapsed) s = .next
        ((s.setProbe p { s.hlu.probes[p] with
            lineLevel := .low
            capture := min 65535 ((s.hlu.probes[p]).capture + elapsed.toNat)
            highTime :=
              if (s.hlu.probes[p]).periodOpen then some (min 65535 ((s.hlu.probes[p]).capture + elapsed.toNat))
              else (s.hlu.probes[p]).highTime }).setLine p .low))) ∧
  (∀ (p : ProbeIx) (s : State), ∃ t, exec (.captureOverflow p) s = .next t ∧
     t.hlu.probes = s.hlu.probes.set p
       (let r := s.hlu.probes[p]
        let third := decide (3 ≤ min 255 (r.stale + 1))
        let enters := third && !r.faulted
        { r with
          capture := 0, stale := min 255 (r.stale + 1), periodOpen := false, highTime := none, validRun := 0
          lost := if third then some r.lineLevel else r.lost
          settled := if enters then false else r.settled
          window := if enters then [] else r.window }) ∧
     t.clock = s.clock ∧ t.pba = s.pba ∧ t.ppu.pools = s.ppu.pools ∧ t.pins = s.pins ∧ t.pending = s.pending)

/-- Which conversions are invalid, and the value of a valid one (R43). The valid conversion at a rising edge (R42, R44, R45),
whatever else the event causes: run counts, WINDOW, the return of a faulted probe at its fourth valid conversion in a row, and,
once an unfaulted probe's WINDOW holds four values, READING as their floored mean and STATUS SETTLED. The invalid
conversion: the run counts, and at the fourth in a row RANGE, which leaves a probe that was not faulted UNSETTLED with an
empty WINDOW. No other probe changes, nor the clock, the budget, the pool counts, nor the pending commands. That the period is
the counter with the time the edge brings, at most 65535, is the model's choice (log entry 3). -/
def Obligations.ConversionRule : Prop :=
  (∀ t h : Nat,
     ((t < 1000 ∨ 1000 * h < 50 * t ∨ 950 * t < 1000 * h) → convert t h = .invalid) ∧
     (1000 ≤ t → 50 * t ≤ 1000 * h → 1000 * h ≤ 950 * t →
       convert t h = .valid (max (-500) (min 3500 (((5000 * h / t : Nat) : Int) - 1000))))) ∧
  (∀ (p : ProbeIx) (elapsed : BitVec 16) (s : State) (h : Nat),
     let r := s.hlu.probes[p]
     let turned : ProbeRec := { r with lineLevel := .high, stale := 0, capture := 0, periodOpen := true, highTime := none }
     let frame : State → Prop := fun t =>
       t.clock = s.clock ∧ t.pba = s.pba ∧ t.ppu.pools = s.ppu.pools ∧ t.pending = s.pending
     r.periodOpen = true → r.highTime = some h → r.window.length ≤ 4 →
     (∀ v : Int, convert (min 65535 (r.capture + elapsed.toNat)) h = .valid v →
       let window := if r.window.length = 4 then r.window.drop 1 ++ [v] else r.window ++ [v]
       let reads := decide ((r.faulted = false ∨ 3 ≤ r.validRun) ∧ 3 ≤ r.window.length)
       ∃ t, exec (.probeRisingEdge p elapsed) s = .next t ∧
         t.hlu.probes = s.hlu.probes.set p
           { turned with
             lastConversion := some (.valid v), validRun := min 4 (r.validRun + 1), invalidRun := 0, window := window
             lost := if 3 ≤ r.validRun then none else r.lost
             range := if 3 ≤ r.validRun then false else r.range
             settled := if reads then true else r.settled
             reading := if reads then window.sum / 4 else r.reading } ∧
         (r.faulted = true → 3 ≤ r.validRun →
           p.val ∉ (t.fm.conds[Cond.probeLost.index]).active ∧ p.val ∉ (t.fm.conds[Cond.probeRange.index]).active) ∧
         frame t) ∧
     (convert (min 65535 (r.capture + elapsed.toNat)) h = .invalid →
       (r.invalidRun < 3 →
         exec (.probeRisingEdge p elapsed) s = .next
           ((s.setProbe p { turned with
             lastConversion := some .invalid, invalidRun := r.invalidRun + 1, validRun := 0 }).setLine p .high)) ∧
       (3 ≤ r.invalidRun → ∃ t, exec (.probeRisingEdge p elapsed) s = .next t ∧
         t.hlu.probes = s.hlu.probes.set p
           { turned with
             lastConversion := some .invalid, invalidRun := 4, validRun := 0, range := true
             settled := if r.faulted then r.settled else false
             window := if r.faulted then r.window else [] } ∧
         p.val ∈ (t.fm.conds[Cond.probeRange.index]).active ∧ frame t)))

/-- The request of a load (R50): the four conditions that make it 0, and its value otherwise. The preload fraction (R51,
R54): the smaller of grant fraction and request; a decrease cuts SHADOW ON-TIME and may turn the output off at once, and
anything else changes nothing at the output. -/
def Obligations.RequestAndPreloadRule : Prop :=
  (∀ (l : LoadRec) (p : ProbeRec),
     ((l.rating = 0 ∨ l.active = false ∨ l.state ≠ .enabled ∨ p.settled = false) → l.requestOf p = 0) ∧
     (0 < l.rating → l.active = true → l.state = .enabled → p.settled = true →
       (l.setpoint - p.reading ≤ 0 → l.requestOf p = 0) ∧
       (∀ d : Nat, 0 < d → l.setpoint - p.reading = (d : Int) → l.requestOf p = min 1000 (l.bias + 1000 * d / l.pb)))) ∧
  (∀ l : LoadRec,
     (l.settlePreload).preload = min l.grant l.request ∧
     (min l.grant l.request < l.preload →
       (l.settlePreload).shadow = min l.shadow (min l.grant l.request * l.period / 1000) ∧
       (l.settlePreload).output = (l.output && decide (l.phase < (l.settlePreload).shadow))) ∧
     (l.preload ≤ min l.grant l.request → (l.settlePreload).shadow = l.shadow ∧ (l.settlePreload).output = l.output) ∧
     l.settlePreload = { l with
       preload := (l.settlePreload).preload, shadow := (l.settlePreload).shadow, output := (l.settlePreload).output })

/-- An output tick (R53) and the period end (R52). -/
def Obligations.OutputTickRule : Prop :=
  ∀ (l : LoadIx) (s : State),
    ((s.hlu.loads[l]).phase + 1 < (s.hlu.loads[l]).period → (s.hlu.loads[l]).phase + 1 < (s.hlu.loads[l]).shadow →
      exec (.outputTick l) s = .next (s.setLoad l { s.hlu.loads[l] with phase := (s.hlu.loads[l]).phase + 1 })) ∧
    ((s.hlu.loads[l]).phase + 1 < (s.hlu.loads[l]).period → (s.hlu.loads[l]).shadow ≤ (s.hlu.loads[l]).phase + 1 →
      exec (.outputTick l) s = .next
        (s.setLoad l { s.hlu.loads[l] with phase := (s.hlu.loads[l]).phase + 1, output := false })) ∧
    ((s.hlu.loads[l]).period ≤ (s.hlu.loads[l]).phase + 1 →
      exec (.outputTick l) s = .next
        (s.setLoad l { s.hlu.loads[l] with
          phase := 0, period := (s.hlu.loads[l]).nextPeriod
          shadow := (s.hlu.loads[l]).preload * (s.hlu.loads[l]).nextPeriod / 1000
          output := decide (0 < (s.hlu.loads[l]).preload * (s.hlu.loads[l]).nextPeriod / 1000) }))

/-- SET LOAD (R55, R61): the refusals, and a taken command on a load with no trip and no failed test whose rating is
not written to 0; TRIP LIMIT and PB are read in two's complement before they are clamped, which is the model's reading (log
entry 12). RESET LOAD (R57): the rows of its table, from the top. -/
def Obligations.SetLoadAndResetLoadRules : Prop :=
  (∀ (x : Station) (load : Byte) (im : LoadImage) (s : State),
     (21 < load.toNat → exec (.setLoad x load im) s = .next (s.setAnswer x ⟨0x20, ⟨.badArgument, []⟩⟩)) ∧
     ∀ l : LoadIx, load.toNat = l.val →
       ((s.hlu.loads[l]).testing = true → exec (.setLoad x load im) s = .next (s.setAnswer x ⟨0x20, ⟨.busy, []⟩⟩)) ∧
       ((s.hlu.loads[l]).testing = false → (s.hlu.loads[l]).trip = false → (s.hlu.loads[l]).cutoutFail = false →
         (0 < im.rating.toNat ∨ (s.hlu.loads[l]).rating = 0) →
         ∃ (r : LoadRec) (result : Result),
           exec (.setLoad x load im) s = .next (((s.setLoad l r).recompute l).setAnswer x ⟨0x20, ⟨result, []⟩⟩) ∧
           r = { s.hlu.loads[l] with
             rating := min 6000 im.rating.toNat
             tripLimit := clampInt 0 4000 im.tripLimit.toInt
             check := im.check.toNat
             pb := r.pb
             bias := min 500 im.bias.toNat
             nextPeriod := clampNat 50 1000 im.nextPeriod.toNat
             minOn := min 500 im.minOn.toNat
             checkFail := false
             grant := if (s.hlu.loads[l]).rating = min 6000 im.rating.toNat then (s.hlu.loads[l]).grant else 0 } ∧
           (r.pb : Int) = clampInt 10 500 im.pb.toInt ∧
           (result = .ok ↔
             im.rating.toNat ≤ 6000 ∧ 0 ≤ im.tripLimit.toInt ∧ im.tripLimit.toInt ≤ 4000 ∧ 10 ≤ im.pb.toInt ∧
               im.pb.toInt ≤ 500 ∧ im.bias.toNat ≤ 500 ∧ 50 ≤ im.nextPeriod.toNat ∧ im.nextPeriod.toNat ≤ 1000 ∧
               im.minOn.toNat ≤ 500) ∧
           (result = .ok ∨ result = .clamped))) ∧
  (∀ (x : Station) (load : Byte) (s : State),
     (21 < load.toNat → exec (.resetLoad x load) s = .next (s.setAnswer x ⟨0x21, ⟨.badArgument, []⟩⟩)) ∧
     ∀ l : LoadIx, load.toNat = l.val →
       ((s.hlu.loads[l]).state = .testing → exec (.resetLoad x load) s = .next (s.setAnswer x ⟨0x21, ⟨.busy, []⟩⟩)) ∧
       ((s.hlu.loads[l]).state ≠ .testing →
         ((s.hlu.loads[l]).rating = 0 ∨ (s.hlu.loads[l]).state = .faulted ∨
           ((s.hlu.loads[l]).state = .tripped ∧
             ((s.hlu.probes[controlProbe l]).faulted = true ∨
               ((s.hlu.probes[controlProbe l]).settled = true ∧
                 (s.hlu.loads[l]).tripLimit - 50 ≤ (s.hlu.probes[controlProbe l]).reading)))) →
         exec (.resetLoad x load) s = .next (s.setAnswer x ⟨0x21, ⟨.unavailable, []⟩⟩)) ∧
       ((s.hlu.loads[l]).state = .enabled → 0 < (s.hlu.loads[l]).rating →
         exec (.resetLoad x load) s = .next (s.setAnswer x ⟨0x21, ⟨.ok, []⟩⟩)) ∧
       ((s.hlu.loads[l]).state = .tripped → 0 < (s.hlu.loads[l]).rating → (s.hlu.probes[controlProbe l]).faulted = false →
         ((s.hlu.probes[controlProbe l]).settled = true →
           (s.hlu.probes[controlProbe l]).reading < (s.hlu.loads[l]).tripLimit - 50) →
         exec (.resetLoad x load) s = .next
           (((((s.setLoad l { s.hlu.loads[l] with trip := false }).recompute l).setFm
             (s.fm.setCond .overheat { s.fm.conds[Cond.overheat.index] with
               active := (s.fm.conds[Cond.overheat.index]).active.filter (fun a => decide (a ≠ l.val)) }))).setAnswer x
             ⟨0x21, ⟨.ok, []⟩⟩)))

/-- The trip comparator (R56): a valid conversion at or above TRIP LIMIT trips an installed load that is not TESTING and not tripped:
its request, preload fraction and shadow on-time become 0, its output is off, and OVERHEAT holds for it; any other valid
conversion leaves TRIP and OVERHEAT as they are. What a fault does to the channel (R17): the trip, a cavity probe that is
LOST, and a RATING set to 0 stop a channel in RUN or HOLD, stated with HEAT pages disabled; within an event, a channel in RUN
ends its step FAULT, one in HOLD is STOPPED with an ENDED notice, and IDLE and STOPPED stay; a core probe's fault ends a CORE
step and a SOAK with CORE TARGET in PROBE FAULT, and touches no other channel. That the ending of a channel in HOLD names
the LAST STEP of the ending before is the model's reading (log entry 20), and that the period of a conversion is the counter
with the time the edge brings, at most 65535, its choice (log entry 3). That a fault ends a record begun again within the same
event at once is the model's reading (log entry 19). -/
def Obligations.TripAndOvenFaultRules : Prop :=
  (∀ (p : ProbeIx) (l : LoadIx) (elapsed : BitVec 16) (s : State) (h : Nat) (v : Int),
     loadOf p = some l → (s.hlu.probes[p]).periodOpen = true → (s.hlu.probes[p]).highTime = some h →
     convert (min 65535 ((s.hlu.probes[p]).capture + elapsed.toNat)) h = .valid v →
     let r := s.hlu.loads[l]
     let trips : Prop := 0 < r.rating ∧ r.testing = false ∧ r.trip = false ∧ r.tripLimit ≤ v
     ∃ t, exec (.probeRisingEdge p elapsed) s = .next t ∧
       (trips →
         (t.hlu.loads[l]).trip = true ∧ (t.hlu.loads[l]).request = 0 ∧ (t.hlu.loads[l]).preload = 0 ∧
         (t.hlu.loads[l]).shadow = 0 ∧ (t.hlu.loads[l]).output = false ∧
         l.val ∈ (t.fm.conds[Cond.overheat.index]).active) ∧
       (¬ trips →
         (t.hlu.loads[l]).trip = r.trip ∧
         (t.fm.conds[Cond.overheat.index]).active = (s.fm.conds[Cond.overheat.index]).active)) ∧
  (∀ (c : Chan) (s : State), (s.fm.groups[0]).paging = false →
     (((s.fse.channels[c]).state = .run ∧ (s.fse.channels[c]).current.isSome = true) ∨ (s.fse.channels[c]).state = .hold) →
     let stops : Instr → Prop := fun i => ∃ t, exec i s = .next t ∧ (t.fse.channels[c]).state = .stopped
     let p := s.hlu.probes[cavityProbe c]
     let l := s.hlu.loads[ovenLoad c]
     (∀ (elapsed : BitVec 16) (h : Nat) (v : Int), p.periodOpen = true → p.highTime = some h →
       convert (min 65535 (p.capture + elapsed.toNat)) h = .valid v → 0 < l.rating → l.state = .enabled → l.tripLimit ≤ v →
       stops (.probeRisingEdge (cavityProbe c) elapsed)) ∧
     (2 ≤ p.stale → p.faulted = false → stops (.captureOverflow (cavityProbe c))) ∧
     (∀ (x : Station) (load : Byte) (im : LoadImage), load.toNat = c.val → im.rating = 0 → 0 < l.rating → l.testing = false →
       stops (.setLoad x load im))) ∧
  (∀ (c : Chan) (e : Ev),
     let ch := e.s.fse.channels[c]
     let t := e.take (.ovenFault c)
     let u := e.take (.coreFault c)
     ((ch.state = .idle ∨ ch.state = .stopped) → t = e) ∧
     (ch.state = .hold →
       (t.s.fse.channels[c]).state = .stopped ∧ (t.s.hlu.loads[ovenLoad c]).active = false ∧ t.s.fse.steps = e.s.fse.steps ∧
       ∀ (n : Ending) (x : Station), ch.lastEnding = some n → ch.owner = some x → (e.s.sp.queues[x]).notices.length < 16 →
         (t.s.sp.queues[x]).notices = (e.s.sp.queues[x]).notices ++ [e.s.endedNotice c n.lastStep .fault .stopped]) ∧
     (∀ i : StepIx, ch.state = .run → ch.current = some i →
       (t.s.fse.channels[c]).state = .stopped ∧ (t.s.hlu.loads[ovenLoad c]).active = false ∧
       (t.s.fse.steps[i]).completion.outcome = .fault ∧ (t.s.fse.steps[i]).owner = .station ∧ (t.s.fse.steps[i]).claim = none ∧
       (((e.s.fse.steps[i]).kind = .core ∨ ((e.s.fse.steps[i]).kind = .soak ∧ (e.s.fse.steps[i]).coreTarget.isSome = true)) →
         (u.s.fse.channels[c]).state = .hold ∧ (u.s.fse.channels[c]).holdSetpoint = ch.fallback ∧
         (u.s.fse.steps[i]).completion.outcome = .probeFault ∧ (u.s.fse.steps[i]).owner = .station) ∧
       (¬ ((e.s.fse.steps[i]).kind = .core ∨ ((e.s.fse.steps[i]).kind = .soak ∧ (e.s.fse.steps[i]).coreTarget.isSome = true)) →
         u = e)) ∧
     (ch.state ≠ .run → u = e))

/-- TEST CUTOUT (R58): its checks in order, and a taken one, after which the load is TESTING with its output off. The
completion of the test (R59): PASS or FAIL by TRIP LIMIT against 3500; a pass is stated whole on a load with no trip and
no failed check, a failed test by the flags and the request of its load, whatever else the event causes. -/
def Obligations.CutoutTestRule : Prop :=
  (∀ (x : Station) (load : Byte) (s : State),
     (21 < load.toNat → exec (.testCutout x load) s = .next (s.setAnswer x ⟨0x22, ⟨.badArgument, []⟩⟩)) ∧
     ∀ l : LoadIx, load.toNat = l.val →
       ((s.hlu.loads[l]).rating = 0 → exec (.testCutout x load) s = .next (s.setAnswer x ⟨0x22, ⟨.unavailable, []⟩⟩)) ∧
       (0 < (s.hlu.loads[l]).rating → ((s.hlu.loads[l]).testing = true ∨ s.inUse l = true) →
         exec (.testCutout x load) s = .next (s.setAnswer x ⟨0x22, ⟨.busy, []⟩⟩)) ∧
       (0 < (s.hlu.loads[l]).rating → (s.hlu.loads[l]).testing = false → s.inUse l = false →
         exec (.testCutout x load) s = .next
           ((s.setLoad l { s.hlu.loads[l] with
             testing := true, testStation := some x, request := 0, preload := 0, shadow := 0, output := false }).setAnswer x
             ⟨0x22, ⟨.ok, []⟩⟩))) ∧
  (∀ (l : LoadIx) (y : Station) (s : State),
     (s.hlu.loads[l]).testing = true → (s.hlu.loads[l]).testStation = some y →
     ((s.hlu.loads[l]).tripLimit ≤ 3500 → (s.hlu.loads[l]).trip = false → (s.hlu.loads[l]).checkFail = false →
       exec (.cutoutTestCompletion l) s = .next
         (((s.setLoad l { s.hlu.loads[l] with
             testing := false, lastTest := .pass, cutoutFail := false, testStation := none }).recompute l).postNotice y
           { source := .load, index := l.val, code := .testResult, p1 := 0, p2 := (s.hlu.loads[l]).tripLimit.toNat, p3 := 0,
             time := s.clock })) ∧
     (3500 < (s.hlu.loads[l]).tripLimit →
       ∃ t, exec (.cutoutTestCompletion l) s = .next t ∧
         (t.hlu.loads[l]).testing = false ∧ (t.hlu.loads[l]).lastTest = .fail ∧ (t.hlu.loads[l]).cutoutFail = true ∧
         (t.hlu.loads[l]).request = 0 ∧ (t.hlu.loads[l]).trip = (s.hlu.loads[l]).trip ∧
         (t.hlu.loads[l]).checkFail = (s.hlu.loads[l]).checkFail))

/-- The check value, and the verification expiry (R60): the timer restarts, and a load is faulted by it exactly where it is
installed, was not failed before, and holds a CHECK other than the check value; such a load has a request of 0, a shadow
on-time of 0 and its output off. -/
def Obligations.VerificationRule : Prop :=
  ((∀ (l : LoadIx) (rating limit : Nat), checkOf l rating limit = 65535 - (rating + 2 * (limit + 1000) + 4096 * l.val) % 65536) ∧
     checkOf 3 1800 2800 = 43847 ∧ checkOf 4 1800 2800 = 39751) ∧
  (∀ s : State, ∃ t, exec .verificationExpiry s = .next t ∧ t.hlu.verifyLeft = 10 ∧
     (∀ l : LoadIx,
       ((t.hlu.loads[l]).checkFail = true ↔
         ((s.hlu.loads[l]).checkFail = true ∨
           (0 < (s.hlu.loads[l]).rating ∧
             (s.hlu.loads[l]).check ≠ checkOf l (s.hlu.loads[l]).rating (s.hlu.loads[l]).tripLimit))) ∧
       ((s.hlu.loads[l]).checkFail = false → (t.hlu.loads[l]).checkFail = true →
         (t.hlu.loads[l]).request = 0 ∧ (t.hlu.loads[l]).preload = 0 ∧ (t.hlu.loads[l]).shadow = 0 ∧
           (t.hlu.loads[l]).output = false)) ∧
     t.clock = s.clock ∧ t.hlu.probes = s.hlu.probes ∧ t.pba = s.pba ∧ t.ppu.pools = s.ppu.pools ∧ t.dlu = s.dlu ∧
     t.pending = s.pending)

/-- Every step keeps the heat outputs sound (R50, R51, R54): the request of a load that may not heat is 0, the preload
fraction is the smaller of grant and request, the shadow on-time is within it, and the output is on only before it. -/
def Obligations.EveryStepKeepsTheOutputsSound : Prop :=
  ∀ s t : State, s.HeatSound → step s = .next t → t.HeatSound

/-- The laws of the loads (R54). Where the outputs are sound, a load that is not installed, TRIPPED, TESTING or FAULTED, or
whose control probe is unsettled, has SHADOW ON-TIME 0 and OUTPUT OFF. Where moreover the grants are within A IN FORCE, the
sum over all loads of SHADOW ON-TIME times RATING over PERIOD does not exceed A IN FORCE. -/
def Obligations.LawsOfTheLoads : Prop :=
  (∀ s : State, s.HeatSound → s.OutputsSafe) ∧
  (∀ s : State, s.HeatSound → s.BudgetHeld →
     (Finset.univ.sum fun l : LoadIx =>
       (((s.hlu.loads[l]).shadow * (s.hlu.loads[l]).rating : Nat) : ℚ) / ((s.hlu.loads[l]).period : ℚ)) ≤ (s.pba.inForce : ℚ))

/-! ### Chapter 3 -/

/-- SET CAP and SET BUDGET (R65, R66, R67). Where A is not lowered the values are written, no allocation is made, and the interval
timer runs on; where A rises from 0 while NO HEADROOM is set, it is cleared and its end reported for the source kept (R81).
Where A is lowered, an allocation is made at once. What an allocation leaves of the budget record and at the loads (R68,
R75, R76, R77, R80, R81), for the interval expiry and for both commands: its record, the pointer, the count, A IN FORCE, the
restarted timer, NO HEADROOM, the grant fraction of every installed load, and SAFETY SHORT, reported once for the
lowest-numbered load of class 1 whose grant is below its demand, and not at all where none is short. What an allocation reads
of each load (R69, R70, R71): whether it is installed, its demand, and its class, for the ovens, the warmers, the rinse
booster L20 and the wash tank L21 (`cls` is CLASS less 1). That UNUSED of the record leaves out a grant
whose fraction floors to 0 unmarked (log entry 35), and that L20 takes only its share of a scaled class 1 (log entry 36),
are the model's readings. -/
def Obligations.BudgetCommandsAndAllocation : Prop :=
  ∀ s : State,
    let short : Nat → LoadIx → Prop := fun a l =>
      (s.asks[l]).installed = true ∧ (s.asks[l]).cls = 0 ∧ grantOf s.asks a s.pba.pointer l < (s.asks[l]).demand
    let allocated : State → Nat → AllocCause → Prop := fun t a cause =>
      (let r := s.fm.conds[Cond.safetyShort.index]
       (∀ l : LoadIx, short a l → (∀ m : LoadIx, m < l → ¬ short a m) →
         t.fm.conds[Cond.safetyShort.index] =
           if r.latched then { r with occurrences := min 255 (r.occurrences + 1) }
           else { r with latched := true, firstSource := some l.val, firstAt := s.clock, occurrences := 1 }) ∧
       ((∀ l : LoadIx, ¬ short a l) → t.fm.conds[Cond.safetyShort.index] = r)) ∧
      t.pba.last = allocationOf s.asks a s.pba.pointer cause s.clock ∧ t.pba.pointer = s.pba.pointer + 1 ∧
      t.pba.count = (s.pba.count + 1) % 65536 ∧ t.pba.inForce = a ∧
      (t.pba.noHeadroom = true ↔ a = 0 ∧ ∃ l : LoadIx, (s.asks[l]).installed = true ∧ 0 < (s.asks[l]).demand) ∧
      (∀ l : LoadIx, 0 < (s.hlu.loads[l]).rating →
        (t.hlu.loads[l]).grant = (fractionOf s.asks[l] (grantOf s.asks a s.pba.pointer l)).1) ∧
      (∀ l : LoadIx, (s.hlu.loads[l]).rating = 0 → (t.hlu.loads[l]).grant = (s.hlu.loads[l]).grant) ∧
      t.clock = s.clock ∧ t.hlu.probes = s.hlu.probes ∧ t.ppu.pools = s.ppu.pools ∧ t.dlu = s.dlu ∧ t.pending = s.pending
    (∃ t, exec .intervalExpiry s = .next t ∧ allocated t s.pba.available .interval ∧ t.pba.timerLeft = s.pba.interval ∧
      t.pba.cap = s.pba.cap ∧ t.pba.unmanaged = s.pba.unmanaged ∧ t.pba.available = s.pba.available ∧
      t.pba.interval = s.pba.interval) ∧
    (∀ (x : Station) (cap unmanaged : BitVec 16) (interval : Byte) (i : Instr) (u seconds : Nat) (answer : Answer),
      ((i = .setCap x cap ∧ u = s.pba.unmanaged ∧ seconds = s.pba.interval ∧
          answer = ⟨0x30, ⟨if 65000 < cap.toNat then .clamped else .ok, []⟩⟩) ∨
        (i = .setBudget x cap unmanaged interval ∧ u = min 65000 unmanaged.toNat ∧ seconds = clampNat 1 30 interval.toNat ∧
          answer = ⟨0x31, ⟨if 65000 < cap.toNat ∨ 65000 < unmanaged.toNat ∨ interval.toNat < 1 ∨ 30 < interval.toNat then .clamped
            else .ok, []⟩⟩)) →
      let a := min 65000 cap.toNat - u
      let written : Pba :=
        { s.pba with cap := min 65000 cap.toNat, unmanaged := u, interval := seconds, available := a }
      (s.pba.available ≤ a → (s.pba.noHeadroom = false ∨ 0 < s.pba.available ∨ a = 0) →
        exec i s = .next ((s.setPba written).setAnswer x answer)) ∧
      (∀ l : LoadIx, s.pba.available = 0 → 0 < a → s.pba.noHeadroom = true → s.pba.headroomSource = some l →
        exec i s = .next
          (((s.setPba { written with noHeadroom := false, headroomSource := none }).setFm
            (s.fm.setCond .noHeadroom { s.fm.conds[Cond.noHeadroom.index] with
              active := (s.fm.conds[Cond.noHeadroom.index]).active.filter (fun k => decide (k ≠ l.val)) })).setAnswer x answer)) ∧
      (a < s.pba.available →
        ∃ t, exec i s = .next t ∧ allocated t a .cut ∧ t.pba.timerLeft = seconds ∧ t.pba.cap = min 65000 cap.toNat ∧
          t.pba.unmanaged = u ∧ t.pba.available = a ∧ t.pba.interval = seconds ∧ (t.sp.ports[x]).answer = some answer)) ∧
    (∀ l : LoadIx,
      let r := s.hlu.loads[l]
      (r.rating = 0 → (s.asks[l]).installed = false) ∧
      (0 < r.rating →
        (s.asks[l]).installed = true ∧ (s.asks[l]).rating = r.rating ∧ (s.asks[l]).minOn = r.minOn ∧
        (s.asks[l]).demand = (r.request * r.rating + 999) / 1000 ∧
        (∀ c : Chan, l = ovenLoad c →
          ((s.fse.channels[c]).state = .hold → (s.asks[l]).cls = 0) ∧
          (∀ i : StepIx, (s.fse.channels[c]).state = .run → (s.fse.channels[c]).current = some i →
            (s.asks[l]).cls = if (s.fse.steps[i]).flags.critical then 0 else 1) ∧
          ((s.fse.channels[c]).state = .idle ∨ (s.fse.channels[c]).state = .stopped → (s.asks[l]).cls = 2)) ∧
        (∀ w : WarmerIx, l = warmerLoad w → s.ppu.AgeListRight →
          let wanted := ∃ (n : ResIx) (q : ResRec), s.ppu.entries[n] = some q ∧ q.kind = (s.ppu.warmers[w]).kind
          (wanted → (s.asks[l]).cls = 1) ∧ (¬ wanted → (s.asks[l]).cls = 2)) ∧
        (l = 20 → (s.asks[l]).cls = 0) ∧
        (l = 21 → (s.asks[l]).cls = if s.dlu.racks = [] then 2 else 1)))

/-- The division of the budget (R72 to R74), whatever the demands, the classes and the pointer. No grant exceeds its
demand, and the grants together do not exceed A. A class served in full receives its demands; a scaled class receives
exactly the budget it meets, and each of its loads the floor of its share or one unit more. A grant fraction draws no
more than its grant, is at most 1000 where the grant is within the rating, and is 0 or at least the minimum on-fraction; the
mark stands exactly on a fraction that was dropped. That L20 is scaled with its class, against R84's words that it is granted
before every other load, is the model's reading (log entry 36), and that a fraction that floors to 0 is not a dropped one is
that of log entry 35. -/
def Obligations.DivisionOfTheBudget : Prop :=
  (∀ (v : Vector Ask 22) (a : Nat) (pointer : LoadIx),
     (∀ l : LoadIx, grantOf v a pointer l ≤ (v[l]).demand) ∧
     ((List.finRange 22).map (fun l => grantOf v a pointer l)).sum ≤ a) ∧
  (∀ (v : Vector Ask 22) (a : Nat) (pointer : LoadIx) (c : Fin 3),
     (classSum v c ≤ budgetFor v a c → ∀ l ∈ members v c, grantOf v a pointer l = (v[l]).demand) ∧
     (budgetFor v a c < classSum v c →
       ((members v c).map (fun l => grantOf v a pointer l)).sum = budgetFor v a c ∧
       ∀ l ∈ members v c,
         grantOf v a pointer l = (v[l]).demand * budgetFor v a c / classSum v c ∨
         grantOf v a pointer l = (v[l]).demand * budgetFor v a c / classSum v c + 1)) ∧
  (∀ (ask : Ask) (g : Nat), 0 < ask.rating →
     (fractionOf ask g).1 * ask.rating ≤ 1000 * g ∧
     (g ≤ ask.rating → (fractionOf ask g).1 ≤ 1000) ∧
     ((fractionOf ask g).1 = 0 ∨ ask.minOn ≤ (fractionOf ask g).1) ∧
     ((fractionOf ask g).2 = true ↔ 0 < g * 1000 / ask.rating ∧ g * 1000 / ask.rating < ask.minOn))

/-- Every step keeps the grants held by the loads within A IN FORCE (R54, R55, R77). -/
def Obligations.EveryStepKeepsTheBudgetHeld : Prop :=
  ∀ s t : State, s.BudgetHeld → step s = .next t → t.BudgetHeld

/-! ### Chapter 4 -/

/-- R103, whole: the refusals, and a taken INVENTORY SET, which writes STOCK, COOL and FOUND TOTAL of the kind and nothing else. -/
def Obligations.InventorySetRule : Prop :=
  ∀ (x : Station) (kind : Byte) (stock : BitVec 32) (s : State),
    (3 < kind.toNat → exec (.inventorySet x kind stock) s = .next (s.setAnswer x ⟨0x40, ⟨.badArgument, []⟩⟩)) ∧
    ∀ k : Kind, kind.toNat = k.val →
      let p := s.ppu.pools[k]
      (stock.toNat < p.warm + p.floor + p.soiled + p.wash + p.quar →
        exec (.inventorySet x kind stock) s = .next (s.setAnswer x ⟨0x40, ⟨.badArgument, []⟩⟩)) ∧
      (p.warm + p.floor + p.soiled + p.wash + p.quar ≤ stock.toNat →
        exec (.inventorySet x kind stock) s = .next
          ((s.setPool k { p with
              stock := stock.toNat, cool := stock.toNat - (p.warm + p.floor + p.soiled + p.wash + p.quar), found := 0 }).setAnswer x
            ⟨0x40, ⟨.ok, []⟩⟩))

/-- A movement clamped with found plates (R88), while no count passes 32 bits: what it takes, what it gives, what it
finds, and that the counts of the kind add up to STOCK afterwards where they did before. RETURN, REQUEUE and DISCARD (R104,
R105), whatever the soiled total causes: the pool record of the kind afterwards and the answer; a kind above 3 is refused.
Stated while no count passes 32 bits. That MOVED and FOUND take two bytes each is the model's reading (log entry 22). -/
def Obligations.MovementsAndPlateCommands : Prop :=
  (∀ (p : PoolRec) (src dst : Place) (n : Nat), src ≠ dst →
     p.at dst + n < 4294967296 → p.stock + n < 4294967296 → p.found + n < 4294967296 →
       let r := p.move src dst n
       r.2.moved = min n (p.at src) ∧ r.2.found = n - min n (p.at src) ∧
       r.1.at src = p.at src - n ∧ r.1.at dst = p.at dst + n ∧
       (∀ q : Place, q ≠ src → q ≠ dst → r.1.at q = p.at q) ∧
       r.1.stock = p.stock + (n - p.at src) ∧ r.1.found = p.found + (n - p.at src) ∧
       (p.Balanced → r.1.Balanced)) ∧
  (∀ (x : Station) (kind : Byte) (n : BitVec 16) (s : State),
     (3 < kind.toNat →
       exec (.returnPlates x kind n) s = .next (s.setAnswer x ⟨0x41, ⟨.badArgument, []⟩⟩) ∧
       exec (.requeue x kind n) s = .next (s.setAnswer x ⟨0x42, ⟨.badArgument, []⟩⟩) ∧
       exec (.discard x kind n) s = .next (s.setAnswer x ⟨0x43, ⟨.badArgument, []⟩⟩)) ∧
     ∀ k : Kind, kind.toNat = k.val →
       let p := s.ppu.pools[k]
       let m := min 9999 n.toNat
       let result : Result := if 9999 < n.toNat then .clamped else .ok
       p.soiled + m < 4294967296 → p.stock + m < 4294967296 → p.found + m < 4294967296 →
       (∃ t, exec (.returnPlates x kind n) s = .next t ∧
         t.ppu.pools = s.ppu.pools.set k { p with
           floor := p.floor - m, soiled := p.soiled + m, stock := p.stock + (m - p.floor), found := p.found + (m - p.floor) } ∧
         (t.sp.ports[x]).answer = some ⟨0x41, ⟨result, u16 (min m p.floor) ++ u16 (m - min m p.floor)⟩⟩ ∧
         t.ppu.warmers = s.ppu.warmers ∧ t.clock = s.clock ∧ t.hlu.probes = s.hlu.probes ∧ t.pba = s.pba ∧
         t.dlu.racks = s.dlu.racks ∧ t.dlu.settings = s.dlu.settings ∧ t.pending = s.pending) ∧
       (∃ t, exec (.requeue x kind n) s = .next t ∧
         t.ppu.pools = s.ppu.pools.set k { p with quar := p.quar - m, soiled := p.soiled + min m p.quar } ∧
         (t.sp.ports[x]).answer = some ⟨0x42, ⟨result, u16 (min m p.quar) ++ u16 0⟩⟩ ∧
         t.ppu.warmers = s.ppu.warmers ∧ t.clock = s.clock ∧ t.hlu.probes = s.hlu.probes ∧ t.pba = s.pba ∧
         t.dlu.racks = s.dlu.racks ∧ t.dlu.settings = s.dlu.settings ∧ t.pending = s.pending) ∧
       exec (.discard x kind n) s = .next
         ((s.setPool k { p with quar := p.quar - m, stock := p.stock - min m p.quar }).setAnswer x
           ⟨0x43, ⟨result, u16 (min m p.quar) ++ u16 0⟩⟩))

/-- Flow control crosses its watermarks with hysteresis (R143 to R145): the state it enters on a new soiled total. A refresh
expiry (R146, R147), whatever the page it submits causes: the refresh timer and OWED PAGE afterwards. -/
def Obligations.FlowControlRule : Prop :=
  (∀ (total : Nat) (e : Ev),
     ((e.soiledHandover total).s.dlu.flow.holding =
       if e.s.dlu.flow.holding then decide (e.s.dlu.settings.low < total) else decide (e.s.dlu.settings.high ≤ total)) ∧
     (e.soiledHandover total).s.dlu.flow.soiledTotal = total ∧
     (e.s.dlu.flow.holding = false → e.s.dlu.settings.high ≤ total →
       (e.soiledHandover total).s.dlu.flow.refreshLeft = some (e.s.dlu.settings.holdTime / 2)) ∧
     (e.s.dlu.flow.holding = false → total < e.s.dlu.settings.high →
       (e.soiledHandover total).s = e.s.setFlow { e.s.dlu.flow with soiledTotal := total }) ∧
     (e.s.dlu.flow.holding = true → e.s.dlu.settings.low < total →
       (e.soiledHandover total).s = e.s.setFlow { e.s.dlu.flow with soiledTotal := total })) ∧
  (∀ s : State, s.dlu.flow.refreshLeft.isSome = true →
     let held := s.pgu.queue.any (fun p => decide (p.state = .queued) && decide (p.originator = .dishLine))
     let takes := held || decide (s.pgu.queue.length < 48)
     (s.dlu.flow.holding = true → ∃ t, exec .refreshExpiry s = .next t ∧
       t.dlu = { s.dlu with flow := { s.dlu.flow with
         refreshLeft := some (s.dlu.settings.holdTime / 2), owed := if takes then .none else .hold } } ∧
       t.clock = s.clock ∧ t.hlu.probes = s.hlu.probes ∧ t.pba = s.pba ∧ t.ppu.pools = s.ppu.pools ∧ t.pending = s.pending) ∧
     (s.dlu.flow.holding = false → s.dlu.flow.owed = .release → ∃ t, exec .refreshExpiry s = .next t ∧
       t.dlu = { s.dlu with flow := { s.dlu.flow with
         refreshLeft := if takes then none else some (s.dlu.settings.holdTime / 2), owed := if takes then .none else .release } } ∧
       t.clock = s.clock ∧ t.hlu.probes = s.hlu.probes ∧ t.pba = s.pba ∧ t.ppu.pools = s.ppu.pools ∧ t.pending = s.pending))

/-- Every step keeps the pool (R85, R130): the six location counts of each kind add up to its STOCK, and WASH equals the
COUNTs of its rack records inside the machine, while STOCK and FOUND TOTAL stand far enough below 32 bits and the counts
of labels, racks and warmers within the ranges of their fields. -/
def Obligations.EveryStepKeepsThePool : Prop :=
  ∀ s t : State, s.PoolSound → s.PoolHeadroom → step s = .next t → t.PoolSound

/-- WARMER COUNT (R106): the refusals, and a taken recount, whatever it causes at the reservations: COUNT, the restart
of counting, the movement between COOL and WARM, and the answer. Stated while no count passes 32 bits. SET WARMER (R93, R94,
R101, R102): the refusals in order, and a taken command: the six fields, the restart of counting where it installs the
warmer, the return to COLD where it uninstalls it, READINESS judged against the present reading, the setpoint handed to
the load, and the answer. READINESS at the probe of the warmer (R101, R102): a reading update takes a COLD warmer to SOAKING
with its SOAK TIME where it is installed, its load is installed and neither TRIPPED nor FAULTED, and the reading is at or
above SETPOINT − BAND, and a SOAKING or READY one to COLD where the reading is below; a fault of the probe takes it to COLD, and
so does a trip of its load. Stated of both events, and of the valid conversion, the overflow and the invalid conversion that
bring them. BAND is read in two's complement before it is clamped (log entry 12), and MOVED and FOUND take
two bytes each (log entry 22); these are the model's readings. -/
def Obligations.WarmerCommandRules : Prop :=
  (∀ (x : Station) (warmer n : Byte) (s : State),
     (7 < warmer.toNat → exec (.warmerCount x warmer n) s = .next (s.setAnswer x ⟨0x44, ⟨.badArgument, []⟩⟩)) ∧
     ∀ w : WarmerIx, warmer.toNat = w.val →
       let r := s.ppu.warmers[w]
       let p := s.ppu.pools[r.kind]
       let m := min n.toNat r.capacity
       (r.capacity = 0 → exec (.warmerCount x warmer n) s = .next (s.setAnswer x ⟨0x44, ⟨.unavailable, []⟩⟩)) ∧
       (0 < r.capacity → p.warm + m < 4294967296 → p.cool + r.count < 4294967296 → p.stock + m + r.count < 4294967296 →
         p.found + m + r.count < 4294967296 →
         ∃ t, exec (.warmerCount x warmer n) s = .next t ∧
           t.ppu.warmers = s.ppu.warmers.set w
             { r with count := m, sub := 0, errorRun := 0, encoderFault := false, pair := s.pins.encoders[w] } ∧
           t.ppu.pools = s.ppu.pools.set r.kind
             (if r.count < m then
               { p with warm := p.warm + (m - r.count), cool := p.cool - (m - r.count)
                        stock := p.stock + (m - r.count - p.cool), found := p.found + (m - r.count - p.cool) }
             else
               { p with warm := p.warm - (r.count - m), cool := p.cool + (r.count - m)
                        stock := p.stock + (r.count - m - p.warm), found := p.found + (r.count - m - p.warm) }) ∧
           (t.sp.ports[x]).answer = some ⟨0x44, ⟨if r.capacity < n.toNat then .clamped else .ok,
             if r.count < m then u16 (min (m - r.count) p.cool) ++ u16 (m - r.count - min (m - r.count) p.cool)
             else u16 (min (r.count - m) p.warm) ++ u16 (r.count - m - min (r.count - m) p.warm)⟩⟩ ∧
           t.clock = s.clock ∧ t.hlu.probes = s.hlu.probes ∧ t.pba = s.pba ∧ t.dlu = s.dlu ∧ t.pending = s.pending)) ∧
  (∀ (x : Station) (warmer : Byte) (im : WarmerImage) (s : State),
     (7 < warmer.toNat ∨ 3 < im.kind.toNat →
       exec (.setWarmer x warmer im) s = .next (s.setAnswer x ⟨0x45, ⟨.badArgument, []⟩⟩)) ∧
     ∀ (w : WarmerIx) (k : Kind), warmer.toNat = w.val → im.kind.toNat = k.val →
       let r := s.ppu.warmers[w]
       ((k ≠ r.kind ∧ 0 < r.count) ∨ min 240 im.capacity.toNat < r.count →
         exec (.setWarmer x warmer im) s = .next (s.setAnswer x ⟨0x45, ⟨.busy, []⟩⟩)) ∧
       (¬ (k ≠ r.kind ∧ 0 < r.count) → r.count ≤ min 240 im.capacity.toNat →
         let p := s.hlu.probes[warmerProbe w]
         let l := s.hlu.loads[warmerLoad w]
         let setpoint := clampInt 0 3500 im.setpoint.toInt
         let band := clampInt 10 500 im.band.toInt
         let installs := r.capacity = 0 ∧ 0 < im.capacity.toNat
         let written : WarmerRec :=
           { r with
             kind := k, capacity := min 240 im.capacity.toNat, pitch := clampNat 2 64 im.pitch.toNat
             soakTime := clampNat 60 900 im.soakTime.toNat, setpoint := setpoint, band := band
             sub := if clampNat 2 64 im.pitch.toNat = r.pitch then r.sub else 0 }
         let counting : WarmerRec :=
           if installs then { written with sub := 0, errorRun := 0, encoderFault := false, pair := s.pins.encoders[w] } else written
         let rests : WarmerRec :=
           if 0 < r.capacity ∧ im.capacity.toNat = 0 then { counting with readiness := .cold, soakLeft := 0 } else counting
         let judged : WarmerRec :=
           if rests.readiness = .cold then
             if 0 < im.capacity.toNat ∧ 0 < l.rating ∧ (l.state = .enabled ∨ l.state = .testing) ∧ p.settled = true ∧
                 setpoint - band ≤ p.reading then
               { rests with readiness := .soaking, soakLeft := clampNat 60 900 im.soakTime.toNat }
             else rests
           else if p.settled = true ∧ p.reading < setpoint - band then { rests with readiness := .cold, soakLeft := 0 }
           else rests
         ∃ t, exec (.setWarmer x warmer im) s = .next t ∧
           t.ppu.warmers = s.ppu.warmers.set w judged ∧
           t.hlu = (s.handSetpoint (warmerLoad w) setpoint (decide (0 < im.capacity.toNat))).hlu ∧
           t.fm = (if installs then
             s.fm.setCond .encoder { s.fm.conds[Cond.encoder.index] with
               active := (s.fm.conds[Cond.encoder.index]).active.filter (fun a => decide (a ≠ w.val)) }
             else s.fm) ∧
           (t.sp.ports[x]).answer = some ⟨0x45, ⟨
             if im.capacity.toNat ≤ 240 ∧ 2 ≤ im.pitch.toNat ∧ im.pitch.toNat ≤ 64 ∧ 60 ≤ im.soakTime.toNat ∧
               im.soakTime.toNat ≤ 900 ∧ 0 ≤ im.setpoint.toInt ∧ im.setpoint.toInt ≤ 3500 ∧ 10 ≤ im.band.toInt ∧
               im.band.toInt ≤ 500 then .ok else .clamped, []⟩⟩ ∧
           t.ppu.pools = s.ppu.pools ∧ t.ppu.entries = s.ppu.entries ∧ t.ppu.ageList = s.ppu.ageList ∧ t.clock = s.clock ∧
           t.fse = s.fse ∧ t.pba = s.pba ∧ t.dlu = s.dlu ∧ t.pgu = s.pgu ∧ t.sp.queues = s.sp.queues ∧ t.pins = s.pins ∧
           t.pending = s.pending)) ∧
  (∀ (w : WarmerIx) (s : State),
     let r := s.ppu.warmers[w]
     let l := s.hlu.loads[warmerLoad w]
     let p := s.hlu.probes[warmerProbe w]
     let cold : WarmerRec := { r with readiness := .cold, soakLeft := 0 }
     let judged : Int → WarmerRec := fun v =>
       if r.readiness = .cold then
         if 0 < r.capacity ∧ 0 < l.rating ∧ (l.state = .enabled ∨ l.state = .testing) ∧ r.setpoint - r.band ≤ v then
           { r with readiness := .soaking, soakLeft := r.soakTime }
         else r
       else if v < r.setpoint - r.band then cold
       else r
     let leaves : Instr → WarmerRec → Prop := fun i q =>
       ∃ t, exec i s = .next t ∧ t.ppu.warmers = s.ppu.warmers.set w q ∧ t.ppu.pools = s.ppu.pools ∧ t.clock = s.clock ∧
         t.pba = s.pba ∧ t.pending = s.pending
     (∀ e : Ev, e.s = s →
       (p.settled = true →
         e.readingUpdate (warmerProbe w) =
           e.on (fun _ => (s.recompute (warmerLoad w)).setWarmer w (judged p.reading))) ∧
       e.probeFault (warmerProbe w) =
         e.on (fun _ =>
           ((s.setProbe (warmerProbe w) { p with settled := false, window := [] }).recompute (warmerLoad w)).setWarmer w cold)) ∧
     (∀ (elapsed : BitVec 16) (h : Nat) (v : Int), p.periodOpen = true → p.highTime = some h → p.window.length ≤ 4 →
       convert (min 65535 (p.capture + elapsed.toNat)) h = .valid v →
       let trips := l.state = .enabled ∧ 0 < l.rating ∧ l.tripLimit ≤ v
       let reads := (p.faulted = false ∨ 3 ≤ p.validRun) ∧ 3 ≤ p.window.length
       let window := if p.window.length = 4 then p.window.drop 1 ++ [v] else p.window ++ [v]
       (trips → leaves (.probeRisingEdge (warmerProbe w) elapsed) cold) ∧
       (¬ trips → reads → leaves (.probeRisingEdge (warmerProbe w) elapsed) (judged (window.sum / 4))) ∧
       (¬ trips → ¬ reads → leaves (.probeRisingEdge (warmerProbe w) elapsed) r)) ∧
     (∀ (elapsed : BitVec 16) (h : Nat), p.periodOpen = true → p.highTime = some h →
       convert (min 65535 (p.capture + elapsed.toNat)) h = .invalid →
       (p.faulted = false → 3 ≤ p.invalidRun → leaves (.probeRisingEdge (warmerProbe w) elapsed) cold) ∧
       (p.faulted = true ∨ p.invalidRun < 3 → leaves (.probeRisingEdge (warmerProbe w) elapsed) r)) ∧
     (p.faulted = false → 2 ≤ p.stale → leaves (.captureOverflow (warmerProbe w)) cold) ∧
     (p.faulted = true ∨ p.stale < 2 → leaves (.captureOverflow (warmerProbe w)) r))

/-- The load switch sets MODE and nothing else (R98). The soak timer (R101), whatever the readiness it brings causes: SOAK
REMAINING falls by one, and at 0 the warmer is READY. -/
def Obligations.SoakTimerAndLoadSwitch : Prop :=
  (∀ (w : WarmerIx) (isOpen : Bool) (s : State),
     exec (.loadSwitchChange w isOpen) s = .next
       (s.setWarmer w { s.ppu.warmers[w] with switchOpen := isOpen, mode := if isOpen then .serving else .loading })) ∧
  (∀ (w : WarmerIx) (s : State), (s.ppu.warmers[w]).readiness = .soaking →
     (1 < (s.ppu.warmers[w]).soakLeft →
       exec (.soakTimerExpiry w) s = .next
         (s.setWarmer w { s.ppu.warmers[w] with soakLeft := (s.ppu.warmers[w]).soakLeft - 1 })) ∧
     ((s.ppu.warmers[w]).soakLeft ≤ 1 →
       ∃ t, exec (.soakTimerExpiry w) s = .next t ∧
         t.ppu.warmers = s.ppu.warmers.set w { s.ppu.warmers[w] with soakLeft := 0, readiness := .ready } ∧
         t.ppu.pools = s.ppu.pools ∧ t.clock = s.clock ∧ t.hlu.probes = s.hlu.probes ∧ t.pba = s.pba ∧ t.dlu = s.dlu ∧
         t.pending = s.pending))

/-- The table of R95; an accepted pair that makes no count step (R95, R96): PHASE PAIR, SUB-COUNT and ERROR RUN; and a rise
that completes a plate in SERVING mode, which is a DRAW (R99), whatever it is charged to: one plate goes from WARM to FLOOR
and COUNT falls by one. -/
def Obligations.EncoderRule : Prop :=
  ((∀ before after : Pair, turn before after =
     if before = after then .none
     else if (before.a ≠ after.a) ∧ (before.b ≠ after.b) then .invalid
     else if after.b = (!before.a) ∧ before.a = after.a ∨ after.a = before.b ∧ before.b = after.b then .rise
     else .fall) ∧
   ∀ (w : WarmerIx) (a b : Bool) (s : State),
     let r := s.ppu.warmers[w]
     let put : WarmerRec → State := fun r' =>
       { s.setWarmer w r' with pins := { s.pins with encoders := s.pins.encoders.set w ⟨a, b⟩ } }
     ((r.capacity = 0 ∨ r.encoderFault = true ∨ turn r.pair ⟨a, b⟩ = .none) →
       exec (.encoderTransition w a b) s = .next (put { r with pair := ⟨a, b⟩ })) ∧
     (0 < r.capacity → r.encoderFault = false → turn r.pair ⟨a, b⟩ = .rise → r.sub + 1 < r.pitch → -(r.pitch : Int) < r.sub + 1 →
       exec (.encoderTransition w a b) s = .next (put { r with pair := ⟨a, b⟩, errorRun := 0, sub := r.sub + 1 })) ∧
     (0 < r.capacity → r.encoderFault = false → turn r.pair ⟨a, b⟩ = .fall → -(r.pitch : Int) < r.sub - 1 → r.sub - 1 < r.pitch →
       exec (.encoderTransition w a b) s = .next (put { r with pair := ⟨a, b⟩, errorRun := 0, sub := r.sub - 1 })) ∧
     (0 < r.capacity → r.encoderFault = false → turn r.pair ⟨a, b⟩ = .invalid → r.errorRun + 1 < 4 →
       exec (.encoderTransition w a b) s = .next (put { r with pair := ⟨a, b⟩, errorRun := r.errorRun + 1 }))) ∧
  (∀ (w : WarmerIx) (a b : Bool) (s : State),
     let r := s.ppu.warmers[w]
     let p := s.ppu.pools[r.kind]
     0 < r.capacity → r.encoderFault = false → turn r.pair ⟨a, b⟩ = .rise → (r.pitch : Int) = r.sub + 1 → 0 < r.count →
     r.mode = .serving → 0 < p.warm → p.floor + 1 < 4294967296 → p.stock < 4294967296 → p.found < 4294967296 →
       ∃ t, exec (.encoderTransition w a b) s = .next t ∧
         t.ppu.pools = s.ppu.pools.set r.kind { p with warm := p.warm - 1, floor := p.floor + 1 } ∧
         t.ppu.warmers = s.ppu.warmers.set w { r with pair := ⟨a, b⟩, errorRun := 0, sub := 0, count := r.count - 1 } ∧
         t.clock = s.clock ∧ t.hlu.probes = s.hlu.probes ∧ t.pba = s.pba ∧ t.dlu = s.dlu ∧ t.pending = s.pending)

/-- The count steps of a warmer (R96, R97, R99, R100), whatever they cause at the reservations and the fault monitor: the fourth
invalid transition in a row, and a count step below 0 or above CAPACITY, set ENCODER FAULT, which then holds for the warmer,
and move no plate; an UNLOAD takes a plate from WARM to COOL; a LOAD takes one from COOL, and a PUT BACK from FLOOR, or from
COOL where FLOOR is 0, a plate missing there being found. Stated while no count passes 32 bits. -/
def Obligations.CountStepRules : Prop :=
  ∀ (w : WarmerIx) (a b : Bool) (s : State),
    let r := s.ppu.warmers[w]
    let p := s.ppu.pools[r.kind]
    let stepped : WarmerRec := { r with pair := ⟨a, b⟩, errorRun := 0, sub := 0 }
    let becomes : State → WarmerRec → PoolRec → Prop := fun t r' p' =>
      t.ppu.warmers = s.ppu.warmers.set w r' ∧ t.ppu.pools = s.ppu.pools.set r.kind p' ∧
      t.pins = { s.pins with encoders := s.pins.encoders.set w ⟨a, b⟩ } ∧
      t.clock = s.clock ∧ t.hlu.probes = s.hlu.probes ∧ t.pba = s.pba ∧ t.dlu = s.dlu ∧ t.pending = s.pending
    let faulted : WarmerRec → Prop := fun r' =>
      ∃ t, exec (.encoderTransition w a b) s = .next t ∧ becomes t { r' with encoderFault := true } p ∧
        w.val ∈ (t.fm.conds[Cond.encoder.index]).active
    let counts : Nat → PoolRec → Prop := fun n p' =>
      ∃ t, exec (.encoderTransition w a b) s = .next t ∧ becomes t { stepped with count := n } p'
    let down : Prop := turn r.pair ⟨a, b⟩ = .rise ∧ r.sub + 1 = (r.pitch : Int)
    let up : Prop := turn r.pair ⟨a, b⟩ = .fall ∧ r.sub - 1 = -(r.pitch : Int)
    let found : PoolRec :=
      { p with
        warm := p.warm + 1, cool := p.cool - 1, stock := p.stock + (1 - p.cool), found := p.found + (1 - p.cool) }
    0 < r.capacity → 0 < r.pitch → r.encoderFault = false →
    (turn r.pair ⟨a, b⟩ = .invalid → 3 ≤ r.errorRun → faulted { r with pair := ⟨a, b⟩, errorRun := r.errorRun + 1 }) ∧
    (down → r.count = 0 → faulted stepped) ∧
    (up → r.capacity ≤ r.count → faulted stepped) ∧
    (p.warm + 1 < 4294967296 → p.cool + 1 < 4294967296 → p.stock + 1 < 4294967296 → p.found + 1 < 4294967296 →
      (down → 0 < r.count → r.mode = .loading → 0 < p.warm →
        counts (r.count - 1) { p with warm := p.warm - 1, cool := p.cool + 1 }) ∧
      (up → r.count < r.capacity → r.mode = .loading → counts (r.count + 1) found) ∧
      (up → r.count < r.capacity → r.mode = .serving → 0 < p.floor →
        counts (r.count + 1) { p with warm := p.warm + 1, floor := p.floor - 1 }) ∧
      (up → r.count < r.capacity → r.mode = .serving → p.floor = 0 → counts (r.count + 1) found))

/-! ### Chapter 5 -/

/-- RESERVE (R111, R113, R114): the refusals in order, and a taken command where no entry of the kind waits: the new
entry and its place in the AGE LIST, READY at once exactly where the ready plates cover it. CANCEL RESERVATION (R122):
the refusals in order; and a taken command, stated where no entry of the kind waits and no channel waits for an entry:
the entry is free, its index has left the AGE LIST, and no count of plates has changed. -/
def Obligations.ReserveAndCancelRules : Prop :=
  (∀ (x : Station) (kind n : Byte) (s : State),
     (3 < kind.toNat → exec (.reserve x kind n) s = .next (s.setAnswer x ⟨0x50, ⟨.badArgument, []⟩⟩)) ∧
     ∀ k : Kind, kind.toNat = k.val →
       ((n.toNat = 0 ∨ 240 < n.toNat ∨ s.ppu.reserveCapacity k < n.toNat) →
         exec (.reserve x kind n) s = .next (s.setAnswer x ⟨0x50, ⟨.badArgument, []⟩⟩)) ∧
       (0 < n.toNat → n.toNat ≤ 240 → n.toNat ≤ s.ppu.reserveCapacity k → s.ppu.freeEntry = none →
         exec (.reserve x kind n) s = .next (s.setAnswer x ⟨0x50, ⟨.full, []⟩⟩)) ∧
       (∀ i : ResIx, 0 < n.toNat → n.toNat ≤ 240 → n.toNat ≤ s.ppu.reserveCapacity k → s.ppu.freeEntry = some i →
         s.ppu.AgeListRight → (∀ (j : ResIx) (r : ResRec), s.ppu.entries[j] = some r → r.kind = k → r.state ≠ .waiting) →
         let ready := decide (n.toNat + s.ppu.sumOutstanding k ≤ s.ppu.readyWarm k)
         let entry : ResRec :=
           { kind := k, count := n.toNat, requested := n.toNat, drawn := 0, owner := .station x
             state := if ready then .ready else .waiting, shortened := false, creation := s.ppu.nextCreation, createdAt := s.clock }
         let made : State :=
           { s with ppu := { s.ppu with
               entries := s.ppu.entries.set i (some entry), ageList := s.ppu.ageList ++ [i]
               nextCreation := (s.ppu.nextCreation + 1) % 65536 } }
         let told : State :=
           if ready then made.postNotice x
             { source := .reservation, index := i.val, code := .reservationReady, p1 := s.ppu.nextCreation, p2 := k.val
               p3 := n.toNat, time := s.clock }
           else made
         exec (.reserve x kind n) s = .next
           (told.setAnswer x ⟨0x50, ⟨.ok, u8 i.val ++ u16 s.ppu.nextCreation ++ u8 (if ready then 1 else 0)⟩⟩))) ∧
  (∀ (x : Station) (idx : Byte) (creation : BitVec 16) (s : State),
     (15 < idx.toNat → exec (.cancelReservation x idx creation) s = .next (s.setAnswer x ⟨0x51, ⟨.badArgument, []⟩⟩)) ∧
     ∀ i : ResIx, idx.toNat = i.val →
       ((∀ r, s.ppu.entries[i] = some r → r.creation ≠ creation.toNat) →
         exec (.cancelReservation x idx creation) s = .next (s.setAnswer x ⟨0x51, ⟨.notFound, []⟩⟩)) ∧
       (∀ r, s.ppu.entries[i] = some r → r.creation = creation.toNat → r.owner ≠ .station x →
         exec (.cancelReservation x idx creation) s = .next (s.setAnswer x ⟨0x51, ⟨.notOwner, []⟩⟩)) ∧
       (∀ r, s.ppu.entries[i] = some r → r.creation = creation.toNat → r.owner = .station x →
         (∀ (j : ResIx) (q : ResRec), j ≠ i → s.ppu.entries[j] = some q → q.kind = r.kind → q.state ≠ .waiting) →
         s.fse.entryWaiters = [] →
         exec (.cancelReservation x idx creation) s = .next
           (({ s with ppu := { s.ppu with
               entries := s.ppu.entries.set i none
               ageList := s.ppu.ageList.filter (fun j => decide (j ≠ i)) } } : State).setAnswer x
             ⟨0x51, ⟨.ok, u8 r.kind.val ++ u8 r.requested ++ u8 r.count ++ u8 r.drawn ++ u8 r.state.code⟩⟩)))

/-- R116: a draw is charged to the oldest DRAWING entry of its kind, otherwise to the oldest READY one, otherwise to none; an
entry is found wherever one of its kind is DRAWING or READY. The charge that does not complete its entry, and the one that
does: the entry ends DONE, or SHORT where SHORTENED, its owner is told, readiness is evaluated, and the engine is handed a
free-entry report (R120, R123, R124). The law of R117: after the revocation of a kind its outstanding sum is at most its
WARM, WARM is unchanged, and the AGE LIST still holds exactly the live entries. The order of revocation (R117, R118): the
newest READY entry returns to WAITING; with none READY the newest DRAWING one is shortened to the room left, and ends SHORT
where there is none. An evaluation promises no plate twice (R114): it keeps the law where readyWarm is within WARM. Which
entries it makes READY: it judges the oldest WAITING entry of the kind, which becomes READY, and whose owner is told, where
readyWarm covers its COUNT beside the outstanding sum; the evaluation then goes on with that sum, and it stops at the first
WAITING entry that is not covered, and where none waits. -/
def Obligations.DrawsAndTheReservationLaw : Prop :=
  (∀ (k : Kind) (e : Ev),
     ((∀ x ∈ e.s.ppu.live k, x.2.state = .waiting) → e.chargeDraw k = e) ∧
     (∀ (i : ResIx) (r : ResRec), e.s.ppu.chargeTo k = some (i, r) → r.drawn + 1 < r.count →
       (r.state = .drawing ∨ r.state = .ready) ∧
       (r.state = .ready → ∀ x ∈ e.s.ppu.live k, x.2.state ≠ .drawing) ∧
       (∃ older newer, e.s.ppu.live k = older ++ (i, r) :: newer ∧ ∀ x ∈ older, x.2.state ≠ r.state) ∧
       e.chargeDraw k = e.on (State.setEntry i (some { r with drawn := r.drawn + 1, state := .drawing })))) ∧
  (∀ (k : Kind) (e : Ev), e.s.ppu.AgeListRight →
     let t := (e.revokeFrom k (e.s.ppu.ageList.length + 1)).1
     t.s.ppu.LawHolds k ∧ t.s.ppu.pools = e.s.ppu.pools ∧ t.s.ppu.AgeListRight) ∧
  (∀ (k : Kind) (e : Ev), e.s.ppu.AgeListRight → e.s.ppu.readyWarm k ≤ (e.s.ppu.pools[k]).warm → e.s.ppu.LawHolds k →
     (e.evaluate k).s.ppu.LawHolds k ∧ (e.evaluate k).s.ppu.pools = e.s.ppu.pools) ∧
  (∀ (k : Kind) (e : Ev),
     ((∃ x ∈ e.s.ppu.live k, x.2.state ≠ .waiting) → ∃ (i : ResIx) (r : ResRec), e.s.ppu.chargeTo k = some (i, r)) ∧
     (∀ (i : ResIx) (r : ResRec), e.s.ppu.chargeTo k = some (i, r) →
       (r.state = .drawing ∨ r.state = .ready) ∧
       (r.state = .ready → ∀ x ∈ e.s.ppu.live k, x.2.state ≠ .drawing) ∧
       (∃ older newer, e.s.ppu.live k = older ++ (i, r) :: newer ∧ ∀ x ∈ older, x.2.state ≠ r.state) ∧
       (r.count ≤ r.drawn + 1 →
         let freed : Ev := e.on (fun s => { s with ppu := s.ppu.freed i })
         (∀ y : Station, r.owner = .station y →
           e.chargeDraw k =
             ((freed.on (State.postNotice y (e.s.entryNotice i .reservationEnded r.creation (if r.shortened then 1 else 0)
               (r.drawn + 1)))).evaluate k).hand .entryFree) ∧
         (∀ c : Chan, r.owner = .channel c →
           e.chargeDraw k = ((freed.hand (.entryEnded c i r.creation r.shortened)).evaluate k).hand .entryFree)))) ∧
  (∀ (k : Kind) (e : Ev),
     e.revoke k =
       Ev.times (fun x => (x.evaluate k).hand .entryFree) (e.revokeFrom k (e.s.ppu.ageList.length + 1)).2
         (e.revokeFrom k (e.s.ppu.ageList.length + 1)).1 ∧
     (e.s.ppu.LawHolds k → e.revoke k = e)) ∧
  (∀ (k : Kind) (n : Nat) (e : Ev) (i : ResIx) (r : ResRec) (older newer : List (ResIx × ResRec)),
     e.s.ppu.AgeListRight → ¬ e.s.ppu.LawHolds k → e.s.ppu.live k = older ++ (i, r) :: newer →
     (r.state = .ready → (∀ x ∈ newer, x.2.state ≠ .ready) →
       let back : Ev := e.on (State.setEntry i (some { r with state := .waiting }))
       (∀ y : Station, r.owner = .station y →
         e.revokeFrom k (n + 1) =
           (back.on (State.postNotice y
             (e.s.entryNotice i .reservationRevoked r.creation r.kind.val r.count))).revokeFrom k n) ∧
       (∀ c : Chan, r.owner = .channel c → e.revokeFrom k (n + 1) = back.revokeFrom k n)) ∧
     (r.state = .drawing → (∀ x ∈ e.s.ppu.live k, x.2.state ≠ .ready) → (∀ x ∈ newer, x.2.state ≠ .drawing) →
       let room := (e.s.ppu.pools[k]).warm - ((older ++ newer).map (fun x => x.2.outstanding)).sum
       let cut : Ev :=
         (e.on (State.setEntry i (some { r with count := r.drawn + room, shortened := true }))).raise .shorted i.val
       let freed : Ev := cut.on (fun s => { s with ppu := s.ppu.freed i })
       (0 < room → e.revokeFrom k (n + 1) = (cut, 0)) ∧
       (room = 0 →
         (∀ y : Station, r.owner = .station y →
           let rest := (freed.on (State.postNotice y (e.s.entryNotice i .reservationEnded r.creation 1 r.drawn))).revokeFrom k n
           e.revokeFrom k (n + 1) = (rest.1, rest.2 + 1)) ∧
         (∀ c : Chan, r.owner = .channel c →
           let rest := (freed.hand (.entryEnded c i r.creation true)).revokeFrom k n
           e.revokeFrom k (n + 1) = (rest.1, rest.2 + 1))))) ∧
  (∀ (k : Kind) (e : Ev),
     ((∀ x ∈ e.s.ppu.live k, x.2.state ≠ .waiting) → e.evaluate k = e) ∧
     (∀ (i : ResIx) (r : ResRec) (older newer : List (ResIx × ResRec)),
       e.s.ppu.live k = older ++ (i, r) :: newer → r.state = .waiting → (∀ x ∈ older, x.2.state ≠ .waiting) →
       let ready : Ev := e.on (State.setEntry i (some { r with state := .ready }))
       (e.s.ppu.readyWarm k < r.count + e.s.ppu.sumOutstanding k → e.evaluate k = e) ∧
       (r.count + e.s.ppu.sumOutstanding k ≤ e.s.ppu.readyWarm k →
         (∀ y : Station, r.owner = .station y →
           e.evaluate k =
             (ready.on (State.postNotice y
               (e.s.entryNotice i .reservationReady r.creation k.val r.count))).evaluate k) ∧
         (∀ c : Chan, r.owner = .channel c →
           e.evaluate k = (ready.hand (.entryReady c i r.creation)).evaluate k))))

/-- Every step keeps the law of R117: while WARM of each kind is the sum of the COUNTs of its warmers (R91) and the AGE LIST is
right (R108), the plates still promised of a kind never exceed its WARM. The premise rules out states that no run reaches:
an entry with nothing left to draw, a COUNT above CAPACITY, a WAIT PLATES record that asks for no plate. -/
def Obligations.EveryStepKeepsTheReservationLaw : Prop :=
  ∀ s t : State, s.ReservationsSound → step s = .next t → t.ReservationsSound

/-! ### Chapter 6 -/

/-- LABEL RACK (R129): the refusals in order, and the label appended with the number then in the queue. SET DISH (R126 to
R128), whatever a change of CONVEYOR FAST causes: the settings brought to their ranges with LOW below HIGH and DWELL MIN
below DWELL MAX, the answer, the setpoints handed to L20 and L21, and a group discarded where GROUP M changed. That BASE
COUNTER then keeps its value is the model's reading (log entry 28), and so is that RINSE SETPOINT, WASH SETPOINT and RINSE
MIN are read in two's complement before they are clamped (log entry 12). -/
def Obligations.LabelRackAndSetDishRules : Prop :=
  (∀ (x : Station) (kind count : Byte) (s : State),
     (3 < kind.toNat → exec (.labelRack x kind count) s = .next (s.setAnswer x ⟨0x60, ⟨.badArgument, []⟩⟩)) ∧
     ∀ k : Kind, kind.toNat = k.val →
       (count = 0 → exec (.labelRack x kind count) s = .next (s.setAnswer x ⟨0x60, ⟨.badArgument, []⟩⟩)) ∧
       (count ≠ 0 → 8 ≤ s.dlu.labels.length →
         exec (.labelRack x kind count) s = .next (s.setAnswer x ⟨0x60, ⟨.full, []⟩⟩)) ∧
       (count ≠ 0 → s.dlu.labels.length < 8 →
         exec (.labelRack x kind count) s = .next
           ((s.setDlu { s.dlu with labels := s.dlu.labels ++ [⟨k, min 60 count.toNat⟩] }).setAnswer x
             ⟨0x60, ⟨if 60 < count.toNat then .clamped else .ok, u8 (s.dlu.labels.length + 1)⟩⟩))) ∧
  (∀ (x : Station) (im : DishImage) (s : State),
     (3 < im.dishStation.toNat → exec (.setDish x im) s = .next (s.setAnswer x ⟨0x61, ⟨.badArgument, []⟩⟩)) ∧
     ∀ y : Station, im.dishStation.toNat = y.val → ∃ t, exec (.setDish x im) s = .next t ∧
       t.dlu.settings =
         { rinseSetpoint := clampInt 0 3500 im.rinseSetpoint.toInt, washSetpoint := clampInt 0 3500 im.washSetpoint.toInt
           rinseMin := clampInt 0 3500 im.rinseMin.toInt, dwellMin := clampNat 1 600 im.dwellMin.toNat
           dwellMax := max (clampNat 1 600 im.dwellMin.toNat + 1) (clampNat 10 3600 im.dwellMax.toNat)
           groupM := clampNat 4 64 im.groupM.toNat, mmPerPulse := clampNat 1 100 im.mmPerPulse.toNat
           machineLength := clampNat 500 10000 im.machineLength.toNat, high := clampNat 1 9999 im.high.toNat
           low := min (clampNat 1 9999 im.high.toNat - 1) im.low.toNat, holdTime := clampNat 60 1800 im.holdTime.toNat
           clearingRole := im.clearingRole.toNat, holdMessage := im.holdMessage.toNat, releaseMessage := im.releaseMessage.toNat
           dishStation := y } ∧
       t.dlu.conveyor =
         (if clampNat 4 64 im.groupM.toNat = s.dlu.settings.groupM then s.dlu.conveyor
          else { s.dlu.conveyor with groupOpen := false, pulses := 0, spannedStall := false }) ∧
       (∃ result : Result, (t.sp.ports[x]).answer = some ⟨0x61, ⟨result, []⟩⟩ ∧ (result = .ok ∨ result = .clamped) ∧
         (result = .ok ↔
           t.dlu.settings.rinseSetpoint = im.rinseSetpoint.toInt ∧ t.dlu.settings.washSetpoint = im.washSetpoint.toInt ∧
             t.dlu.settings.rinseMin = im.rinseMin.toInt ∧ t.dlu.settings.dwellMin = im.dwellMin.toNat ∧
             t.dlu.settings.dwellMax = im.dwellMax.toNat ∧ t.dlu.settings.groupM = im.groupM.toNat ∧
             t.dlu.settings.mmPerPulse = im.mmPerPulse.toNat ∧ t.dlu.settings.machineLength = im.machineLength.toNat ∧
             t.dlu.settings.high = im.high.toNat ∧ t.dlu.settings.low = im.low.toNat ∧
             t.dlu.settings.holdTime = im.holdTime.toNat)) ∧
       t.dlu.labels = s.dlu.labels ∧ t.dlu.racks = s.dlu.racks ∧ t.dlu.nextSequence = s.dlu.nextSequence ∧
       t.dlu.flow = s.dlu.flow ∧
       (t.hlu.loads[rinseLoad]).setpoint = clampInt 0 3500 im.rinseSetpoint.toInt ∧
       (t.hlu.loads[rinseLoad]).active = decide (0 < im.rinseSetpoint.toInt) ∧
       (t.hlu.loads[washLoad]).setpoint = clampInt 0 3500 im.washSetpoint.toInt ∧
       (t.hlu.loads[washLoad]).active = decide (0 < im.washSetpoint.toInt) ∧
       t.clock = s.clock ∧ t.hlu.probes = s.hlu.probes ∧ t.pba = s.pba ∧ t.ppu.pools = s.ppu.pools ∧ t.pending = s.pending)

/-- A rack entry (R130 to R133), whatever its reports and the soiled total cause: the label taken, the record made,
the sequence number, and the plates moved, in its four cases. Stated while no count passes 32 bits. A rack exit (R135
to R137), whatever its reports cause: the oldest record leaves; its plates go to COOL from a rack that passes the
three tests and to QUAR otherwise; an exit with no record inside moves nothing. That a residence is a difference of clock
values modulo 2^32 is the model's reading (log entry 10). -/
def Obligations.RackEntryAndExitRules : Prop :=
  (∀ s : State, ∃ t, exec .rackEntry s = .next t ∧
     t.dlu.nextSequence = (s.dlu.nextSequence + 1) % 65536 ∧ t.dlu.settings = s.dlu.settings ∧ t.dlu.conveyor = s.dlu.conveyor ∧
     t.dlu.labels = s.dlu.labels.drop 1 ∧
     (let rack : Option Kind → Nat → RackRec := fun kind count =>
       { sequence := s.dlu.nextSequence, kind := kind, count := count, enteredAt := s.clock
         minRinse := if (s.hlu.probes[rinseProbe]).settled then (s.hlu.probes[rinseProbe]).reading else -500
         rinseFault := !(s.hlu.probes[rinseProbe]).settled, jam := false }
      (s.dlu.labels = [] → t.ppu.pools = s.ppu.pools ∧
       t.dlu.racks = if s.dlu.racks.length < 10 then s.dlu.racks ++ [rack none 0] else s.dlu.racks) ∧
      (∀ l rest, s.dlu.labels = l :: rest →
       let p := s.ppu.pools[l.kind]
       p.wash + l.count < 4294967296 → p.quar + l.count < 4294967296 → p.stock + l.count < 4294967296 →
       p.found + l.count < 4294967296 →
       (s.dlu.racks.length < 10 →
         t.dlu.racks = s.dlu.racks ++ [rack (some l.kind) l.count] ∧
         t.ppu.pools = s.ppu.pools.set l.kind { p with
           soiled := p.soiled - l.count, wash := p.wash + l.count
           stock := p.stock + (l.count - p.soiled), found := p.found + (l.count - p.soiled) }) ∧
       (10 ≤ s.dlu.racks.length →
         t.dlu.racks = s.dlu.racks ∧
         t.ppu.pools = s.ppu.pools.set l.kind { p with
           soiled := p.soiled - l.count, quar := p.quar + l.count
           stock := p.stock + (l.count - p.soiled), found := p.found + (l.count - p.soiled) }))) ∧
     t.clock = s.clock ∧ t.hlu.probes = s.hlu.probes ∧ t.pba = s.pba ∧ t.ppu.warmers = s.ppu.warmers ∧ t.pending = s.pending) ∧
  (∀ s : State, ∃ t, exec .rackExit s = .next t ∧
     t.dlu = { s.dlu with racks := s.dlu.racks.drop 1 } ∧
     (s.dlu.racks = [] → t.ppu.pools = s.ppu.pools) ∧
     (∀ r rest, s.dlu.racks = r :: rest → r.kind = none → t.ppu.pools = s.ppu.pools) ∧
     (∀ r rest k, s.dlu.racks = r :: rest → r.kind = some k →
       let p := s.ppu.pools[k]
       r.count ≤ p.wash → p.cool + r.count < 4294967296 → p.quar + r.count < 4294967296 → p.stock < 4294967296 →
       p.found < 4294967296 →
       ((r.rinseFault = false ∧ s.dlu.settings.rinseMin ≤ r.minRinse ∧
           s.dlu.settings.dwellMin ≤ secondsSince r.enteredAt s.clock) →
         t.ppu.pools = s.ppu.pools.set k { p with wash := p.wash - r.count, cool := p.cool + r.count }) ∧
       (¬ (r.rinseFault = false ∧ s.dlu.settings.rinseMin ≤ r.minRinse ∧
           s.dlu.settings.dwellMin ≤ secondsSince r.enteredAt s.clock) →
         t.ppu.pools = s.ppu.pools.set k { p with wash := p.wash - r.count, quar := p.quar + r.count })) ∧
     t.clock = s.clock ∧ t.hlu.probes = s.hlu.probes ∧ t.pba = s.pba ∧ t.ppu.warmers = s.ppu.warmers ∧ t.pending = s.pending)

/-- The jam check and the service clock's second (R138, 0.5.2): JAM is set on every rack whose residence has reached
DWELL MAX, and on no other; the clock counts one second in 32 bits. That the second is taken with this row is the model's
choice (log entry 7), and that a residence is a difference of clock values modulo 2^32 its reading (log entry 10).
The conveyor (R140, R141), whatever its conditions cause: an opening pulse, a pulse within a group, a
completing pulse with and without a stall, and the stall expiry. That BASE COUNTER takes the time a pulse brings as an
operand, and stops at 10000, is the model's choice (log entry 3). -/
def Obligations.JamCheckAndConveyorRules : Prop :=
  (∀ s : State, ∃ t, exec .jamCheck s = .next t ∧
     t.clock = (s.clock + 1) % 4294967296 ∧
     t.dlu.racks = s.dlu.racks.map (fun r =>
       { r with jam := r.jam || decide (s.dlu.settings.dwellMax ≤ secondsSince r.enteredAt ((s.clock + 1) % 4294967296)) }) ∧
     t.dlu.labels = s.dlu.labels ∧ t.dlu.settings = s.dlu.settings ∧ t.dlu.conveyor = s.dlu.conveyor ∧
     t.hlu.probes = s.hlu.probes ∧ t.ppu.pools = s.ppu.pools ∧ t.ppu.warmers = s.ppu.warmers ∧ t.pending = s.pending) ∧
  (∀ (elapsed : BitVec 16) (s : State),
     let c := s.dlu.conveyor
     let d := s.dlu.settings
     let base := min 10000 (c.base + elapsed.toNat)
     (∃ t, exec (.conveyorPulse elapsed) s = .next t ∧
       t.dlu = { s.dlu with conveyor :=
         if c.groupOpen = false then { c with groupOpen := true, pulses := 0, spannedStall := false, base := 0, seen := true }
         else if c.pulses + 1 < d.groupM then { c with pulses := c.pulses + 1, base := base }
         else if c.spannedStall then { c with pulses := 0, spannedStall := false, base := 0 }
         else { c with
           pulses := 0, spannedStall := false, base := 0, moving := true, lastGroupMs := max 1 base
           speed := d.groupM * d.mmPerPulse * 1000 / max 1 base } } ∧
       t.clock = s.clock ∧ t.hlu.probes = s.hlu.probes ∧ t.pba = s.pba ∧ t.ppu.pools = s.ppu.pools ∧ t.pending = s.pending) ∧
     (c.groupOpen = true → ∃ t, exec .stallExpiry s = .next t ∧
       t.dlu = { s.dlu with conveyor := { c with moving := false, speed := 0, spannedStall := true, base := 0 } } ∧
       t.clock = s.clock ∧ t.hlu.probes = s.hlu.probes ∧ t.pba = s.pba ∧ t.ppu.pools = s.ppu.pools ∧ t.pending = s.pending))

/-! ### Chapter 7 -/

/-- SET BADGE (R152), BADGE STATE (R153), ASSIGN FUNCTION (R155), CLEAR FUNCTIONS (R156) and KEY (R154): the refusals in
order, and the one badge record that each writes. A KEY toggles AVAILABLE and ON BREAK on the badge that holds the address,
whatever the key value; an OFF SHIFT badge and an address that no badge holds change nothing. -/
def Obligations.RosterCommands : Prop :=
  (∀ (x : Station) (badge : Byte) (address : BitVec 24) (role zone : Byte) (s : State),
     (95 < badge.toNat → exec (.setBadge x badge address role zone) s = .next (s.setAnswer x ⟨0x70, ⟨.badArgument, []⟩⟩)) ∧
     ∀ b : BadgeIx, badge.toNat = b.val →
       let r := s.pgu.badges[b]
       let written : BadgeRec :=
         { r with
           address := if address = 0 then none else some address.toNat, role := role.toNat, zone := min 15 zone.toNat }
       let shared := address ≠ 0 ∧ ∃ o : BadgeIx, o ≠ b ∧ (s.pgu.badges[o]).address = some address.toNat
       let refused := (address = 0 ∧ r.state ≠ .offShift) ∨
         ((if address = 0 then none else some address.toNat) ≠ r.address ∧ ∃ p ∈ s.pgu.queue, b ∈ p.recipients)
       (shared → exec (.setBadge x badge address role zone) s = .next (s.setAnswer x ⟨0x70, ⟨.badArgument, []⟩⟩)) ∧
       (¬ shared → refused → exec (.setBadge x badge address role zone) s = .next (s.setAnswer x ⟨0x70, ⟨.busy, []⟩⟩)) ∧
       (¬ shared → ¬ refused →
         exec (.setBadge x badge address role zone) s = .next
           ((s.setPgu { s.pgu with badges := s.pgu.badges.set b written }).setAnswer x
             ⟨0x70, ⟨if 15 < zone.toNat then .clamped else .ok, []⟩⟩))) ∧
  (∀ (x : Station) (badge st : Byte) (function : BitVec 16) (s : State),
     (95 < badge.toNat →
       exec (.badgeState x badge st) s = .next (s.setAnswer x ⟨0x71, ⟨.badArgument, []⟩⟩) ∧
       exec (.assignFunction x badge function) s = .next (s.setAnswer x ⟨0x72, ⟨.badArgument, []⟩⟩) ∧
       exec (.clearFunctions x badge) s = .next (s.setAnswer x ⟨0x73, ⟨.badArgument, []⟩⟩)) ∧
     ∀ b : BadgeIx, badge.toNat = b.val →
       let r := s.pgu.badges[b]
       let put : BadgeRec → State := fun r' => s.setPgu { s.pgu with badges := s.pgu.badges.set b r' }
       (2 < st.toNat → exec (.badgeState x badge st) s = .next (s.setAnswer x ⟨0x71, ⟨.badArgument, []⟩⟩)) ∧
       (st = 0 → exec (.badgeState x badge st) s = .next ((put { r with state := .offShift }).setAnswer x ⟨0x71, ⟨.ok, []⟩⟩)) ∧
       ((st = 1 ∨ st = 2) → r.address = none →
         exec (.badgeState x badge st) s = .next (s.setAnswer x ⟨0x71, ⟨.unavailable, []⟩⟩)) ∧
       (st = 1 → r.address ≠ none →
         exec (.badgeState x badge st) s = .next ((put { r with state := .available }).setAnswer x ⟨0x71, ⟨.ok, []⟩⟩)) ∧
       (st = 2 → r.address ≠ none →
         exec (.badgeState x badge st) s = .next ((put { r with state := .onBreak }).setAnswer x ⟨0x71, ⟨.ok, []⟩⟩)) ∧
       (let h : Fin 64 := hashIndex function.toNat
        exec (.assignFunction x badge function) s = .next
         ((put { r with functions := r.functions.set h true }).setAnswer x
           ⟨0x72, ⟨.ok, u8 h.val ++ u8 (if r.functions[h] then 1 else 0)⟩⟩)) ∧
       exec (.clearFunctions x badge) s = .next
         ((put { r with functions := Vector.replicate 64 false }).setAnswer x ⟨0x73, ⟨.ok, []⟩⟩)) ∧
  (∀ (address : BitVec 24) (value : Byte) (s : State),
     ((∀ b : BadgeIx, (s.pgu.badges[b]).address ≠ some address.toNat) → exec (.key address value) s = .next s) ∧
     ∀ b : BadgeIx, (s.pgu.badges[b]).address = some address.toNat →
       (∀ o : BadgeIx, (s.pgu.badges[o]).address = some address.toNat → o = b) →
       let r := s.pgu.badges[b]
       let put : BadgeRec → State := fun r' => s.setPgu { s.pgu with badges := s.pgu.badges.set b r' }
       (r.state = .offShift → exec (.key address value) s = .next s) ∧
       (r.state = .available → exec (.key address value) s = .next (put { r with state := .onBreak })) ∧
       (r.state = .onBreak → exec (.key address value) s = .next (put { r with state := .available })))

/-- The eligibility chain (R162, R163) for one badge: an OFF SHIFT badge is never accepted; a badge named by index is
accepted whatever its break or engagement; a badge ON BREAK or engaged is passed over below URGENT while the filter is
enabled; and the last filter is that of the target's form,
with the role qualifier where there is one. -/
def Obligations.EligibilityChain : Prop :=
  ∀ (g : Pgu) (priority : Priority) (t : Addressee) (b : BadgeIx),
    ((g.badges[b]).state = .offShift → g.accepts priority t b = false) ∧
    ((g.badges[b]).state ≠ .offShift → t.target = .badge b → g.accepts priority t b = true) ∧
    (t.target ≠ .badge b → g.enables[0] = true → (g.badges[b]).state = .onBreak → priority ≠ .urgent →
      g.accepts priority t b = false) ∧
    (t.target ≠ .badge b → g.enables[1] = true → g.engaged b = true → priority ≠ .urgent → t.target ≠ .all →
      g.accepts priority t b = false) ∧
    ((g.badges[b]).state = .available → g.engaged b = false →
      (∀ role, t.target = .role role →
        g.accepts priority t b = (g.enables[2] && decide ((g.badges[b]).role = role))) ∧
      (∀ z, t.target = .zone z → t.qualifier = none →
        g.accepts priority t b = (g.enables[3] && decide ((g.badges[b]).zone = z))) ∧
      (∀ f q, t.target = .function f → t.qualifier = some q →
        g.accepts priority t b = (g.enables[4] && (g.badges[b]).functions[hashIndex f] && decide ((g.badges[b]).role = q))) ∧
      (∀ z q, t.target = .zone z → t.qualifier = some q →
        g.accepts priority t b = (g.enables[3] && decide ((g.badges[b]).zone = z) && decide ((g.badges[b]).role = q))) ∧
      (∀ f, t.target = .function f → t.qualifier = none →
        g.accepts priority t b = (g.enables[4] && (g.badges[b]).functions[hashIndex f])) ∧
      (t.target = .all → g.accepts priority t b = g.enables[5]))

/-- Which page payloads are taken (R159, R170, R218), field by field, and what a taken one submits: PRIORITY above 3, ACK POLICY
above 2, a form above 4, a BADGE above 95, a ZONE above 15, a qualifier with a form that allows none, and an ESCALATION FORM
other than 0 while its PRESENCE bit is clear are the structural errors. That a BADGE, ROLE or ZONE is read in the low byte
alone, and that an escalation qualifier without an escalation target is an error, is the model's reading (log entry 15). -/
def Obligations.PageSubmissionRule : Prop :=
  ∀ im : PageImage,
    let badTarget : Byte → BitVec 16 → Bool → Prop := fun form value qualified =>
      4 < form.toNat ∨ (form = 0 ∧ 95 < value.toNat % 256) ∨ (form = 2 ∧ 15 < value.toNat % 256) ∨
        (qualified = true ∧ (form = 0 ∨ form = 1 ∨ form = 4))
    let names : Byte → BitVec 16 → Bool → Byte → Addressee → Prop := fun form value qualified qualifier a =>
      a.qualifier = (if qualified then some qualifier.toNat else none) ∧
      (form = 0 → ∃ b : BadgeIx, b.val = value.toNat % 256 ∧ a.target = .badge b) ∧
      (form = 1 → a.target = .role (value.toNat % 256)) ∧ (form = 2 → a.target = .zone (value.toNat % 256)) ∧
      (form = 3 → a.target = .function value.toNat) ∧ (form = 4 → a.target = .all)
    (submissionOf im = none ↔
      3 < im.priority.toNat ∨ 2 < im.ackPolicy.toNat ∨ badTarget im.form im.value (im.presence.getLsbD 0) ∨
        (im.presence.getLsbD 1 = true ∧ badTarget im.escForm im.escValue (im.presence.getLsbD 2)) ∨
        (im.presence.getLsbD 1 = false ∧ (im.escForm ≠ 0 ∨ im.presence.getLsbD 2 = true))) ∧
    (∀ sub : Submission, submissionOf im = some sub →
      sub.priority.code = im.priority.toNat ∧ sub.ackPolicy.code = im.ackPolicy.toNat ∧
      sub.message = im.message.toNat ∧ sub.parameter = im.parameter.toNat ∧
      names im.form im.value (im.presence.getLsbD 0) im.qualifier sub.addressee ∧
      (im.presence.getLsbD 1 = false → sub.escalation = none) ∧
      (im.presence.getLsbD 1 = true →
        ∃ a, sub.escalation = some a ∧ names im.escForm im.escValue (im.presence.getLsbD 2) im.escQualifier a))

/-! ### Chapter 8 -/

/-- PAGE (R171): a structural error, a full queue, and a taken one that starts no transmission because the link is DOWN or the
transmitter busy; a taken one to a badge by index, not OFF SHIFT, on an empty queue, which starts the transmission at
once (R170, R176 to R178); and one that joins any queue with the transmitter free and the link UP, which makes a selection. That ARRIVAL ORDER and SENDING ORDER take the order counter before it is raised, and that SENDING
ORDER is 0 until then, is the model's reading (log entry 24). Numbering (R167): while the queue and the retention list
leave room, the number a new page receives is the first from NEXT NUMBER on, wrapping from 255 to 0, that neither holds;
and one is always found. -/
def Obligations.PageAndNumberingRules : Prop :=
  (∀ (x : Station) (im : PageImage) (s : State),
     (submissionOf im = none → exec (.page x im) s = .next (s.setAnswer x ⟨0x80, ⟨.badArgument, []⟩⟩)) ∧
     ∀ sub : Submission, submissionOf im = some sub →
       let n := s.pgu.freeNumber 256 s.pgu.nextNumber
       let page : PageRec :=
         { number := n, priority := sub.priority, originator := .station x, noticeStation := some x, reportTo := .station
           addressee := sub.addressee, escalation := sub.escalation, message := sub.message, parameter := sub.parameter
           ackPolicy := sub.ackPolicy, escalated := false, state := .queued, arrival := s.pgu.order, sendingOrder := 0
           recipients := [], pending := [], acked := [], deadline := none, submittedAt := s.clock }
       (48 ≤ s.pgu.queue.length → exec (.page x im) s = .next (s.setAnswer x ⟨0x80, ⟨.full, []⟩⟩)) ∧
       (s.pgu.queue.length < 48 → (s.pgu.linkUp = false ∨ s.pgu.inFlight.isSome = true) →
         exec (.page x im) s = .next
           ((s.setPgu { s.pgu with
             queue := s.pgu.queue ++ [page], nextNumber := (n + 1) % 256, order := (s.pgu.order + 1) % 65536 }).setAnswer x
             ⟨0x80, ⟨.ok, u8 n⟩⟩)) ∧
       (s.pgu.queue = [] → s.pgu.linkUp = true → s.pgu.inFlight = none →
         ∀ (b : BadgeIx) (address : Nat), sub.addressee.target = .badge b → (s.pgu.badges[b]).state ≠ .offShift →
           (s.pgu.badges[b]).address = some address →
           exec (.page x im) s = .next
             ((s.setPgu { s.pgu with
               queue := [{ page with
                 state := .sending, sendingOrder := (s.pgu.order + 1) % 65536, recipients := [b], pending := [b] }]
               nextNumber := (n + 1) % 256, order := ((s.pgu.order + 1) % 65536 + 1) % 65536
               inFlight := some { number := n, badge := b, address := address, orphaned := false, left := 2 }
               sent := some
                 { number := n, address := address, message := sub.message, parameter := sub.parameter, priority := sub.priority } }).setAnswer
               x ⟨0x80, ⟨.ok, u8 n⟩⟩)) ∧
       (s.pgu.queue.length < 48 → s.pgu.linkUp = true → s.pgu.inFlight = none →
         exec (.page x im) s = .next
           ((Ev.start (s.setPgu { s.pgu with
             queue := s.pgu.queue ++ [page], nextNumber := (n + 1) % 256
             order := (s.pgu.order + 1) % 65536 })).select.finish.setAnswer x ⟨0x80, ⟨.ok, u8 n⟩⟩))) ∧
  (∀ g : Pgu, g.nextNumber < 256 → g.queue.length < 48 → g.retention.length ≤ 8 →
     let held : Nat → Prop := fun n => (∃ p ∈ g.queue, p.number = n) ∨ (∃ r ∈ g.retention, r.number = n)
     ∃ d, d < 256 ∧ g.freeNumber 256 g.nextNumber = (g.nextNumber + d) % 256 ∧ ¬ held ((g.nextNumber + d) % 256) ∧
       ∀ k, k < d → held ((g.nextNumber + k) % 256))

/-- CANCEL PAGE (R184): its three checks in order, and a taken one with no channel waiting for a queue place: the page
leaves the queue, its transmission in flight is orphaned, and the answer carries where the page stood. SET PAGING
(R160, R180): an enable byte above 1 refuses the command; a taken one writes the six enables, 1 for ENABLED as 10.4 codes them,
and the four windows, each brought to 10..900, and answers with the values in force. That the answer codes ENABLED 0 and
DISABLED 1, the order in which R160 lists them, is the model's reading of R215 (log entry 22). -/
def Obligations.CancelPageAndSetPagingRules : Prop :=
  (∀ (x : Station) (number : BitVec 16) (s : State),
     (255 < number.toNat → exec (.cancelPage x number) s = .next (s.setAnswer x ⟨0x81, ⟨.badArgument, []⟩⟩)) ∧
     (number.toNat ≤ 255 → (∀ p ∈ s.pgu.queue, p.number ≠ number.toNat) →
       exec (.cancelPage x number) s = .next (s.setAnswer x ⟨0x81, ⟨.notFound, []⟩⟩)) ∧
     ∀ p : PageRec, number.toNat ≤ 255 → s.pgu.queue.find? (fun q => decide (q.number = number.toNat)) = some p →
       (p.originator ≠ .station x → exec (.cancelPage x number) s = .next (s.setAnswer x ⟨0x81, ⟨.notOwner, []⟩⟩)) ∧
       (p.originator = .station x → s.fse.placeWaiters = [] →
         exec (.cancelPage x number) s = .next
           ((s.setPgu { s.pgu with
             queue := s.pgu.queue.filter (fun q => decide (q.number ≠ number.toNat))
             inFlight := s.pgu.inFlight.map (fun f =>
               if f.number = number.toNat ∧ f.orphaned = false then { f with orphaned := true } else f) }).setAnswer x
             ⟨0x81, ⟨.ok, u8 p.state.code ++ u8 (if p.escalated then 1 else 0) ++ u8 p.recipients.length
               ++ u8 p.acked.length⟩⟩))) ∧
  (∀ (x : Station) (im : PagingImage) (s : State),
     ((∃ i : Fin 6, 1 < (im.enables[i]).toNat) →
       exec (.setPaging x im) s = .next (s.setAnswer x ⟨0x83, ⟨.badArgument, []⟩⟩)) ∧
     ((∀ i : Fin 6, (im.enables[i]).toNat ≤ 1) →
       ∃ (enables : Vector Bool 6) (windows : Vector Nat 4) (result : Result),
         exec (.setPaging x im) s = .next
           ((s.setPgu { s.pgu with enables := enables, windows := windows }).setAnswer x
             ⟨0x83, ⟨result, ((List.finRange 6).map (fun i => u8 (if enables[i] then 0 else 1))).flatten
               ++ ((List.finRange 4).map (fun i => u16 windows[i])).flatten⟩⟩) ∧
         (∀ i : Fin 6, enables[i] = decide (im.enables[i] = 1)) ∧
         (∀ i : Fin 4, windows[i] = max 10 (min 900 (im.windows[i]).toNat)) ∧
         (result = .ok ↔ ∀ i : Fin 4, 10 ≤ (im.windows[i]).toNat ∧ (im.windows[i]).toNat ≤ 900) ∧
         (result = .ok ∨ result = .clamped)))

/-- What a completed transmission does to the link (R179), whatever becomes of its page: a success clears CONSECUTIVE
FAILURES and brings the link UP with its retry timer stopped; a failure or the timer's expiry counts up to 3, and the
third takes the link DOWN with a 10 s retry timer. A TX DONE that does not match the in-flight record, and an expiry with a
free transmitter, change nothing (R178), and neither does a frame that cannot be read (R175). -/
def Obligations.CompletionAndLinkRule : Prop :=
  (∀ s : State, exec .unreadableBaseFrame s = .next s) ∧
  (∀ (number : Byte) (address : BitVec 24) (ok : Bool) (s : State),
     (∀ f, s.pgu.inFlight = some f → f.number ≠ number.toNat ∨ f.address ≠ address.toNat) →
     exec (.txDone number address ok) s = .next s) ∧
  (∀ s : State, s.pgu.inFlight = none → exec .transmissionTimerExpiry s = .next s) ∧
  (∀ (number : Byte) (address : BitVec 24) (f : InFlight) (s : State),
     s.pgu.inFlight = some f → f.number = number.toNat → f.address = address.toNat →
     ∃ t, exec (.txDone number address true) s = .next t ∧
       t.pgu.failures = 0 ∧ t.pgu.linkUp = true ∧
       t.pgu.retryLeft = (if s.pgu.linkUp then s.pgu.retryLeft else none) ∧
       t.pgu.badges = s.pgu.badges ∧ t.pgu.enables = s.pgu.enables ∧ t.pgu.windows = s.pgu.windows ∧ t.clock = s.clock ∧
       t.hlu.probes = s.hlu.probes ∧ t.pba = s.pba ∧ t.ppu.pools = s.ppu.pools ∧ t.dlu = s.dlu ∧ t.sp.ports = s.sp.ports) ∧
  (∀ (i : Instr) (f : InFlight) (s : State), s.pgu.inFlight = some f →
     (i = .transmissionTimerExpiry ∨
       ∃ (number : Byte) (address : BitVec 24), i = .txDone number address false ∧ f.number = number.toNat ∧ f.address = address.toNat) →
     ∃ t, exec i s = .next t ∧
       t.pgu.failures = min 3 (s.pgu.failures + 1) ∧
       t.pgu.linkUp = (s.pgu.linkUp && decide (s.pgu.failures < 2)) ∧
       t.pgu.retryLeft = (if s.pgu.linkUp = true ∧ 2 ≤ s.pgu.failures then some 10 else s.pgu.retryLeft) ∧
       t.pgu.badges = s.pgu.badges ∧ t.pgu.enables = s.pgu.enables ∧ t.pgu.windows = s.pgu.windows ∧ t.clock = s.clock ∧
       t.hlu.probes = s.hlu.probes ∧ t.pba = s.pba ∧ t.ppu.pools = s.ppu.pools ∧ t.dlu = s.dlu ∧ t.sp.ports = s.sp.ports)

/-- What a completed transmission does to its page (R178, R180), with that page alone in the queue and the link UP: a
success delivers the badge and a failure drops it; the last one makes the page SENT with its deadline, and one that
leaves recipients pending has the next TRANSMIT sent. An orphaned transmission concerns no page. A retry expiry
(R179): in DOWN the timer restarts with 10 s, and with the transmitter free one selection is made, which sends
TRANSMIT for a page SENDING alone. With any pages in the queue, a retry expiry and a completion that leaves its page recipients
to send to make a selection, and so does a completed orphan. Which page a selection takes (R168, R176): the head is the QUEUED page
of the highest PRIORITY, and of those the oldest by ARRIVAL ORDER; the foremost SENDING page that of the highest PRIORITY, and of
those the oldest by SENDING ORDER. A head strictly above every SENDING page is evaluated, and the selection starts again;
otherwise the foremost SENDING page transmits to its first pending badge; with neither, nothing is sent. The evaluation of
the head (R161, R177, R180): SENDING with the next SENDING ORDER, its recipients and its pending badges; then, without a
recipient, QUEUED again at LEVEL 1 or ended NO RECIPIENT, and with none pending, SENT or ended DONE. In UP the retry timer is
stopped; that its expiry then does nothing is the model's choice (log entry 9), and that DEADLINE is taken modulo 2^32 its
reading (log entry 10). That orders are compared as the older the lower, round the counter, and that an order takes the counter
before it is raised, is its reading too (log entry 24). -/
def Obligations.CompletionPageAndRetryRules : Prop :=
  (∀ (i : Instr) (ok : Bool) (f : InFlight) (p : PageRec) (s : State),
     s.pgu.inFlight = some f → s.pgu.linkUp = true → s.pgu.failures < 2 →
     ((ok = false ∧ i = .transmissionTimerExpiry) ∨
       ∃ (number : Byte) (address : BitVec 24), i = .txDone number address ok ∧ f.number = number.toNat ∧ f.address = address.toNat) →
     let failures := if ok then 0 else s.pgu.failures + 1
     let recipients := if ok then p.recipients else p.recipients.filter (fun c => decide (c ≠ f.badge))
     (f.orphaned = true → s.pgu.queue = [] →
       exec i s = .next (s.setPgu { s.pgu with inFlight := none, failures := failures })) ∧
     (f.orphaned = false → s.pgu.queue = [p] → p.number = f.number → p.state = .sending → p.ackPolicy ≠ .none →
       recipients ≠ [] → ¬ (ok = false ∧ p.ackPolicy = .all ∧ p.acked = recipients) →
       (p.pending.filter (fun c => decide (c ≠ f.badge)) = [] →
         exec i s = .next (s.setPgu { s.pgu with
           inFlight := none, failures := failures
           queue := [{ p with
             recipients := recipients, pending := [], state := .sent
             deadline := some ((s.clock + s.pgu.window p.priority) % 4294967296) }] })) ∧
       (∀ (b : BadgeIx) (rest : List BadgeIx) (address : Nat),
         p.pending.filter (fun c => decide (c ≠ f.badge)) = b :: rest → (s.pgu.badges[b]).address = some address →
         exec i s = .next (s.setPgu { s.pgu with
           failures := failures
           queue := [{ p with recipients := recipients, pending := b :: rest }]
           inFlight := some { number := p.number, badge := b, address := address, orphaned := false, left := 2 }
           sent := some
             { number := p.number, address := address, message := p.message, parameter := p.parameter, priority := p.priority } })))) ∧
  (∀ s : State,
     (s.pgu.linkUp = true → exec .retryExpiry s = .next s) ∧
     (s.pgu.linkUp = false → (s.pgu.inFlight.isSome = true ∨ s.pgu.queue = []) →
       exec .retryExpiry s = .next (s.setPgu { s.pgu with retryLeft := some 10 })) ∧
     (s.pgu.linkUp = false → s.pgu.inFlight = none →
       ∀ (p : PageRec) (b : BadgeIx) (rest : List BadgeIx) (address : Nat),
         s.pgu.queue = [p] → p.state = .sending → p.pending = b :: rest → (s.pgu.badges[b]).address = some address →
         exec .retryExpiry s = .next (s.setPgu { s.pgu with
           retryLeft := some 10
           inFlight := some { number := p.number, badge := b, address := address, orphaned := false, left := 2 }
           sent := some
             { number := p.number, address := address, message := p.message, parameter := p.parameter, priority := p.priority } })) ∧
     (s.pgu.linkUp = false → s.pgu.inFlight = none →
       exec .retryExpiry s = .next (Ev.start (s.setPgu { s.pgu with retryLeft := some 10 })).select.finish)) ∧
  (∀ (i : Instr) (ok : Bool) (f : InFlight) (s : State),
     s.pgu.inFlight = some f → s.pgu.linkUp = true → s.pgu.failures < 2 →
     ((ok = false ∧ i = .transmissionTimerExpiry) ∨
       ∃ (number : Byte) (address : BitVec 24), i = .txDone number address ok ∧ f.number = number.toNat ∧ f.address = address.toNat) →
     let freed : Pgu := { s.pgu with inFlight := none, failures := if ok then 0 else s.pgu.failures + 1 }
     (f.orphaned = true → exec i s = .next (Ev.start (s.setPgu freed)).select.finish) ∧
     (∀ p : PageRec, f.orphaned = false → s.pgu.queue.find? (fun q => decide (q.number = f.number)) = some p →
       let recipients := if ok then p.recipients else p.recipients.filter (fun c => decide (c ≠ f.badge))
       let pending := p.pending.filter (fun c => decide (c ≠ f.badge))
       recipients ≠ [] → pending ≠ [] → ¬ (ok = false ∧ p.ackPolicy = .all ∧ p.acked = recipients) →
       exec i s = .next (Ev.start (s.setPgu { freed with
         queue := s.pgu.queue.map (fun q =>
           if q.number = f.number then { p with recipients := recipients, pending := pending } else q) })).select.finish)) ∧
  (∀ (n : Nat) (e : Ev),
     let g := e.s.pgu
     let precedes : (PageRec → Nat) → PageRec → PageRec → Prop := fun order p q =>
       p.priority.code < q.priority.code ∨
         (p.priority = q.priority ∧ orderAge g.order (order p) < orderAge g.order (order q))
     let leads : PageState → (PageRec → Nat) → PageRec → Prop := fun st order p =>
       p ∈ g.queue ∧ p.state = st ∧ ∀ q ∈ g.queue, q.state = st → q ≠ p → precedes order p q
     e.select = e.selectFrom (2 * g.queue.length + 1) ∧
     (∀ h : PageRec, leads .queued PageRec.arrival h →
       (∀ q ∈ g.queue, q.state = .sending → h.priority.code < q.priority.code) →
       e.selectFrom (n + 1) = (e.selectHead h).selectFrom n) ∧
     (∀ (p : PageRec) (b : BadgeIx) (rest : List BadgeIx) (address : Nat), leads .sending PageRec.sendingOrder p →
       (∀ q ∈ g.queue, q.state = .queued → p.priority.code ≤ q.priority.code) →
       p.pending = b :: rest → (g.badges[b]).address = some address →
       e.selectFrom (n + 1) = e.on (fun s => s.setPgu { g with
         inFlight := some { number := p.number, badge := b, address := address, orphaned := false, left := 2 }
         sent := some
           { number := p.number, address := address, message := p.message, parameter := p.parameter, priority := p.priority } })) ∧
     ((∀ q ∈ g.queue, q.state = .sent) → e.selectFrom n = e)) ∧
  (∀ (h : PageRec) (e : Ev),
     let g := e.s.pgu
     let accepted := g.accepted h.priority (if h.escalated then h.escalation.getD h.addressee else h.addressee)
     let evaluated : PageRec :=
       { h with
         state := .sending, sendingOrder := g.order
         recipients := (List.finRange 96).filter (fun b => decide (b ∈ h.recipients ∨ b ∈ accepted))
         pending := (List.finRange 96).filter (fun b => decide (b ∈ h.pending ∨ (b ∈ accepted ∧ b ∉ h.recipients))) }
     let order := (g.order + 1) % 65536
     let becomes : PageRec → Nat → Ev := fun p o => e.on (fun s => s.setPgu { g with
       queue := g.queue.map (fun q => if q.number = h.number then p else q), order := o })
     let ends : PageOutcome → Ev := fun o =>
       (e.on (fun s => s.setPgu { g.leftBy h.number with order := order })).reportPageEnd evaluated o true
     (evaluated.recipients ≠ [] → evaluated.pending ≠ [] → e.selectHead h = becomes evaluated order) ∧
     (evaluated.recipients ≠ [] → evaluated.pending = [] →
       (h.ackPolicy ≠ .none →
         e.selectHead h = becomes
           { evaluated with
             state := .sent, deadline := some ((e.s.clock + g.window h.priority) % 4294967296) } order) ∧
       (h.ackPolicy = .none → e.selectHead h = ends .done)) ∧
     (evaluated.recipients = [] →
       (h.escalated = false → h.escalation.isSome = true →
         e.selectHead h = becomes
           { evaluated with escalated := true, state := .queued, arrival := order, deadline := none }
           ((order + 1) % 65536)) ∧
       ((h.escalated = true ∨ h.escalation = none) → e.selectHead h = ends .noRecipient)))

/-- ACK (R181, R183): an ACK that no page and no retention entry answers to changes nothing; a counted one ends a page of
policy ANY, or of policy ALL whose last recipient it is, DONE, and is otherwise kept in ACKED SET; a late answer takes its
entry from the retention list and is told to the notice station. The ends are stated for a page reported to a station with
no channel waiting for its place. That the seconds to a late answer are a difference of clock values modulo 2^32 is the
model's reading (log entry 10). -/
def Obligations.AckRule : Prop :=
  ∀ (address : BitVec 24) (number : Byte) (s : State),
    ((∀ p ∈ s.pgu.queue, p.number ≠ number.toNat) → (∀ r ∈ s.pgu.retention, r.number ≠ number.toNat) →
      exec (.ack address number) s = .next s) ∧
    (∀ (p : PageRec) (b : BadgeIx),
      s.pgu.queue.find? (fun q => decide (q.number = number.toNat)) = some p →
      (s.pgu.badges[b]).address = some address.toNat →
      (∀ o : BadgeIx, (s.pgu.badges[o]).address = some address.toNat → o = b) →
      ((p.ackPolicy = .none ∨ b ∉ p.recipients ∨ b ∈ p.pending ∨ b ∈ p.acked) →
        (∀ r ∈ s.pgu.retention, r.number ≠ number.toNat) → exec (.ack address number) s = .next s) ∧
      (p.ackPolicy ≠ .none → b ∈ p.recipients → b ∉ p.pending → b ∉ p.acked →
        let acked := insertBy (fun a c => decide (a.val < c.val)) b p.acked
        (∀ c, c ∈ acked ↔ c = b ∨ c ∈ p.acked) ∧ acked.length = p.acked.length + 1 ∧
        (p.ackPolicy = .all → acked ≠ p.recipients →
          exec (.ack address number) s = .next (s.setPgu { s.pgu with
            queue := s.pgu.queue.map (fun q => if q.number = number.toNat then { p with acked := acked } else q) })) ∧
        ((p.ackPolicy = .any ∨ acked = p.recipients) → s.fse.placeWaiters = [] → s.pgu.inFlight = none →
          ∀ y : Station, p.reportTo = .station → p.noticeStation = some y →
            exec (.ack address number) s = .next
              ((s.setPgu { s.pgu with queue := s.pgu.queue.filter (fun q => decide (q.number ≠ number.toNat)) }).postNotice y
                { source := .page, index := number.toNat, code := .pageEnded, p1 := 0, p2 := p.acked.length + 1
                  p3 := p.recipients.length, time := s.clock })))) ∧
    (∀ (r : Retained) (u : BadgeIx × Nat) (y : Station),
      (∀ p ∈ s.pgu.queue, p.number ≠ number.toNat) →
      s.pgu.retention.find? (fun q => decide (q.number = number.toNat)) = some r →
      r.unanswered.find? (fun v => decide (v.2 = address.toNat)) = some u → r.noticeStation = some y →
      exec (.ack address number) s = .next
        ((s.setPgu { s.pgu with retention := s.pgu.retention.filter (fun q => decide (q.number ≠ number.toNat)) }).postNotice y
          { source := .page, index := number.toNat, code := .lateAnswer, p1 := u.1.val, p2 := r.outcome.code
            p3 := min 65535 (secondsSince r.endedAt s.clock), time := s.clock }))

/-- A deadline expiry (R182): a page with nobody's answer and an escalation target not yet used escalates; a page of policy ALL
with some answers ends PARTIAL, and any other UNANSWERED. The escalation is stated where no transmission may start. An end
(R169, R183): the page leaves the queue, a transmission for it is orphaned, its entry joins the retention list, from which
the oldest of eight leaves, and the end is reported: a PAGE ENDED notice to NOTICE STATION, a report to the engine for the
channel, or nothing. An URGENT page that ends UNANSWERED raises UNANSWERED URGENT with its number before that, latched or
counted, with the fault page it may owe where no transmission may start. The ends of a page reported to a station or to
nobody are stated whole where no channel waits for its place; of one reported to a channel, by what the engine is handed.
That a number which no SENT page holds does nothing is the model's choice (log entry 9), and that a page that is queued takes
the order counter before it is raised its reading (log entry 24). -/
def Obligations.DeadlineRule : Prop :=
  ∀ (number : Byte) (s : State),
    ((∀ p ∈ s.pgu.queue, p.number = number.toNat → p.state ≠ .sent) → exec (.deadlineExpiry number) s = .next s) ∧
    ∀ p : PageRec, s.pgu.queue.find? (fun q => decide (q.number = number.toNat)) = some p → p.state = .sent →
      p.deadline.isSome = true →
      (p.acked = [] → p.escalated = false → p.escalation.isSome = true → (s.pgu.linkUp = false ∨ s.pgu.inFlight.isSome = true) →
        exec (.deadlineExpiry number) s = .next (s.setPgu { s.pgu with
          queue := s.pgu.queue.map (fun q =>
            if q.number = number.toNat then { q with escalated := true, state := .queued, arrival := s.pgu.order, deadline := none }
            else q)
          order := (s.pgu.order + 1) % 65536 })) ∧
      ((p.acked ≠ [] ∨ p.escalated = true ∨ p.escalation = none) →
        let outcome : PageOutcome := if p.ackPolicy = .all ∧ p.acked ≠ [] then .partial_ else .unanswered
        let left : Pgu := { s.pgu.leftBy number.toNat with
          retention := (if 8 ≤ s.pgu.retention.length then s.pgu.retention.drop 1 else s.pgu.retention) ++ [
            { number := number.toNat, originator := p.originator, noticeStation := p.noticeStation, priority := p.priority
              message := p.message, parameter := p.parameter, outcome := outcome, endedAt := s.clock
              unanswered := (p.recipients.filter (fun b => !p.pending.contains b && !p.acked.contains b)).map
                (fun b => (b, (s.pgu.badges[b]).address.getD 0)) }] }
        let t := s.setPgu left
        let u : Cond := .unansweredUrgent
        let r := s.fm.conds[u.index]
        let silent : Prop := p.priority ≠ .urgent ∨ outcome = .partial_
        (∀ reported : State → State, s.fse.placeWaiters = [] →
          ((p.reportTo = .none ∧ reported = fun x => x) ∨
            ∃ y : Station, p.reportTo = .station ∧ p.noticeStation = some y ∧
              reported = State.postNotice y (s.pageEndedNotice p outcome)) →
          (silent → exec (.deadlineExpiry number) s = .next (reported t)) ∧
          (¬ silent → r.latched = true →
            exec (.deadlineExpiry number) s =
              .next (reported (t.setFm (s.fm.setCond u { r with occurrences := min 255 (r.occurrences + 1) })))) ∧
          (¬ silent → r.latched = false → ∃ f : Fm, s.fm.Latches f u number.toNat s.clock ∧
            (¬ s.fm.OwesPage u →
              exec (.deadlineExpiry number) s = .next (reported ((t.setFm f).tellSubscribers u number.toNat))) ∧
            (s.fm.OwesPage u → left.queue.length < 48 → (s.pgu.linkUp = false ∨ s.pgu.inFlight.isSome = true) →
              exec (.deadlineExpiry number) s =
                .next (reported (((t.setFm f).tellSubscribers u number.toNat).setPgu
                  (left.withFaultPage u number.toNat (s.fm.groups[u.group]).pageRole s.clock)))))) ∧
        (∀ c : Chan, silent → p.reportTo = .channel → p.originator = .channel c →
          (Ev.start s).deadline number.toNat =
            { Ev.start t with work := [.pageEnded c number.toNat outcome, .placeFree] } ∧
          exec (.deadlineExpiry number) s = .next ((Ev.start s).deadline number.toNat).finish) ∧
        (∀ c : Chan, ¬ silent → p.reportTo = .channel → p.originator = .channel c →
          (Ev.start s).deadline number.toNat =
            (((Ev.start t).raise u number.toNat).hand (.pageEnded c number.toNat outcome)).hand .placeFree ∧
          exec (.deadlineExpiry number) s = .next ((Ev.start s).deadline number.toNat).finish))

/-! ### Chapter 9 -/

/-- Latching (R189 to R191): a report of a latched condition is counted and changes nothing else; a report of a clear one latches
it with its source and the service clock, ALERT is judged anew, and the subscribed stations are told. Where it makes a group
latched whose PAGING is ENABLED it submits the fault page of R193, URGENT and to PAGE ROLE, which joins a queue with room and
is selected for at once where the transmitter is free and the link UP. A full queue (R174) gives up its newest QUEUED page of
the lowest priority below URGENT, stated where no transmission may start; where it has none, URGENT NOT QUEUED is raised for
the group. A report that a condition holds puts its source among the active ones, once; a report that it ends
removes it and leaves the latch. That orders are compared as the older the lower, round the counter, and that ARRIVAL ORDER
takes the counter before it is raised, is the model's reading (log entry 24). -/
def Obligations.LatchingRule : Prop :=
  ∀ (c : Cond) (source : Nat) (e : Ev),
    let r := e.s.fm.conds[c.index]
    (r.latched = true →
      e.raise c source = e.on (fun s => s.setFm (s.fm.setCond c { r with occurrences := min 255 (r.occurrences + 1) }))) ∧
    (r.latched = false →
      ((e.s.fm.groups[c.group]).paging = false ∨ ∃ d : Cond, d.group = c.group ∧ (e.s.fm.conds[d.index]).latched = true) →
      ∃ f : Fm,
        e.raise c source = e.on (fun s => (s.setFm f).tellSubscribers c source) ∧
        f.conds[c.index] = { r with latched := true, firstSource := some source, firstAt := e.s.clock, occurrences := 1 } ∧
        (∀ d : Cond, d ≠ c → f.conds[d.index] = e.s.fm.conds[d.index]) ∧ f.groups = e.s.fm.groups ∧ f.subs = e.s.fm.subs ∧
        (f.alert = true ↔ ∃ d : Cond, (f.conds[d.index]).latched = true ∧ (f.groups[d.group]).masked = false)) ∧
    (∀ x : Station, (e.s.sp.queues[x]).notices.length < 16 →
      ((e.s.tellSubscribers c source).sp.queues[x]).notices =
        (e.s.sp.queues[x]).notices ++
          (if (e.s.fm.subs[x])[c.group] then
            [{ source := .fault, index := c.group.val, code := .fault, p1 := c.number, p2 := source
               p3 := if c.lasting then 1 else 0, time := e.s.clock }]
           else [])) ∧
    (source ∈ r.active → e.condHolds c source = e) ∧
    (source ∉ r.active →
      e.condHolds c source
        = (e.on (fun s => s.setFm (s.fm.setCond c { r with active := insertBy (fun a b => decide (a < b)) source r.active }))).raise
            c source) ∧
    e.condEnds c source
      = e.on (fun s => s.setFm (s.fm.setCond c { r with active := r.active.filter (fun a => decide (a ≠ source)) })) ∧
    (e.s.fm.OwesPage c →
      let g := e.s.pgu
      let paged : Pgu → Pgu := fun h => h.withFaultPage c source (e.s.fm.groups[c.group]).pageRole e.s.clock
      ∃ f : Fm, e.s.fm.Latches f c source e.s.clock ∧
        let told : Ev := e.on (fun s => (s.setFm f).tellSubscribers c source)
        let joined : Ev := told.on (fun s => s.setPgu (paged g))
        (g.queue.length < 48 → (g.linkUp = false ∨ g.inFlight.isSome = true) → e.raise c source = joined) ∧
        (g.queue.length < 48 → g.linkUp = true → g.inFlight = none → e.raise c source = joined.select) ∧
        (48 ≤ g.queue.length → (g.linkUp = false ∨ g.inFlight.isSome = true) →
          ∀ p ∈ g.queue, p.state = .queued → p.priority ≠ .urgent →
            (∀ q ∈ g.queue, q.state = .queued → q.priority ≠ .urgent → q ≠ p →
              q.priority.code < p.priority.code ∨
                (q.priority = p.priority ∧ orderAge g.order q.arrival < orderAge g.order p.arrival)) →
            e.raise c source =
              ((told.on (fun s => s.setPgu (g.leftBy p.number))).reportPageEnd p .displaced true).on
                (fun s => s.setPgu (paged (g.leftBy p.number)))) ∧
        (48 ≤ g.queue.length → (∀ p ∈ g.queue, p.state = .queued → p.priority = .urgent) →
          e.raise c source = told.raise .urgentNotQueued c.group.val))

/-- CLEAR FAULTS (R196): the refusals, and a taken one: every condition of a named group is cleared, or latched anew
with its lowest active source where one stands; the others keep their latches; ALERT is judged; and the answer names
the re-latched conditions of each named group. No notice is posted and no page submitted. SET FAULT MASK (R195),
SUBSCRIBE FAULTS (R198) and SET FAULT PAGING (R199): the refusals, and what a taken one writes. That ACTIVE SOURCES alone
decide a re-latch is the model's reading (log entry 29), and so are the bytes of the mask answer (log entry 22): MASKED 0 and
UNMASKED 1, the order in which R187 lists them, and ALERT 1 for asserted. That the PAGING byte 1 of SET FAULT PAGING is
ENABLED is the model's choice (log entry 34). -/
def Obligations.FaultCommandRules : Prop :=
  (∀ (x : Station) (groups : Byte) (s : State),
     ((groups = 0 ∨ 63 < groups.toNat) → exec (.clearFaults x groups) s = .next (s.setAnswer x ⟨0x90, ⟨.badArgument, []⟩⟩)) ∧
     (groups ≠ 0 → groups.toNat ≤ 63 →
       ∃ f : Fm,
         exec (.clearFaults x groups) s = .next
           ((s.setFm f).setAnswer x
             ⟨0x90, ⟨.ok, ((List.finRange 6).map (fun g =>
               if groups.getLsbD g.val then
                 counted (fun c => u8 c.number) (Cond.all.filter (fun c => decide (c.group = g) && (f.conds[c.index]).latched))
               else [])).flatten⟩⟩) ∧
         f.groups = s.fm.groups ∧ f.subs = s.fm.subs ∧
         (f.alert = true ↔ ∃ c : Cond, (f.conds[c.index]).latched = true ∧ (f.groups[c.group]).masked = false) ∧
         ∀ c : Cond,
           (groups.getLsbD c.group.val = false → f.conds[c.index] = s.fm.conds[c.index]) ∧
           (groups.getLsbD c.group.val = true →
             ((s.fm.conds[c.index]).active = [] →
               f.conds[c.index] = { latched := false, firstSource := none, firstAt := 0, occurrences := 0, active := [] }) ∧
             (∀ lowest rest, (s.fm.conds[c.index]).active = lowest :: rest →
               f.conds[c.index] =
                 { latched := true, firstSource := some lowest, firstAt := s.clock, occurrences := 1, active := lowest :: rest })))) ∧
  ((∀ (x : Station) (masks : Vector Byte 6) (s : State),
      ((∃ g : Group, 1 < (masks[g]).toNat) →
        exec (.setFaultMask x masks) s = .next (s.setAnswer x ⟨0x91, ⟨.badArgument, []⟩⟩)) ∧
      ((∀ g : Group, (masks[g]).toNat ≤ 1) →
        ∃ f : Fm,
          exec (.setFaultMask x masks) s = .next
            ((s.setFm f).setAnswer x
              ⟨0x91, ⟨.ok, ((List.finRange 6).map (fun g => u8 (if (f.groups[g]).masked then 0 else 1))).flatten
                ++ u8 (if f.alert then 1 else 0)⟩⟩) ∧
          f.conds = s.fm.conds ∧ f.subs = s.fm.subs ∧
          (∀ g : Group, f.groups[g] = { s.fm.groups[g] with masked := decide (masks[g] = 1) }) ∧
          (f.alert = true ↔ ∃ c : Cond, (s.fm.conds[c.index]).latched = true ∧ masks[c.group] = 0))) ∧
   (∀ (x : Station) (groups : Byte) (s : State),
      (63 < groups.toNat → exec (.subscribeFaults x groups) s = .next (s.setAnswer x ⟨0x92, ⟨.badArgument, []⟩⟩)) ∧
      (groups.toNat ≤ 63 →
        ∃ v : Vector Bool 6,
          exec (.subscribeFaults x groups) s = .next
            ((s.setFm { s.fm with subs := s.fm.subs.set x v }).setAnswer x ⟨0x92, ⟨.ok, []⟩⟩) ∧
          ∀ g : Group, v[g] = groups.getLsbD g.val)) ∧
   (∀ (x : Station) (paging : Vector (Byte × Byte) 6) (s : State),
      ((∃ g : Group, 1 < (paging[g]).1.toNat) →
        exec (.setFaultPaging x paging) s = .next (s.setAnswer x ⟨0x93, ⟨.badArgument, []⟩⟩)) ∧
      ((∀ g : Group, (paging[g]).1.toNat ≤ 1) →
        ∃ groups : Vector GroupRec 6,
          exec (.setFaultPaging x paging) s = .next
            ((s.setFm { s.fm with groups := groups }).setAnswer x ⟨0x93, ⟨.ok, []⟩⟩) ∧
          ∀ g : Group, groups[g] =
            { s.fm.groups[g] with paging := decide ((paging[g]).1 = 1), pageRole := (paging[g]).2.toNat })))

/-! ### Chapter 10 -/

/-- FETCH NOTICE (R212, R213): an empty queue, a queue with no channel waiting, and one refilled by the channel next
in rotation. SET PORT (R209): the refusals, and a taken one, which writes the three fields of the port named and
leaves its running timers as they stand. -/
def Obligations.FetchNoticeAndSetPortRules : Prop :=
  (∀ (x : Station) (s : State),
     let q := s.sp.queues[x]
     let flag := u8 (if q.overflow then 1 else 0)
     (q.notices = [] →
       exec (.fetchNotice x) s = .next ((s.setQueue x { q with overflow := false }).setAnswer x ⟨0xA0, ⟨.empty, flag ++ u8 0⟩⟩)) ∧
     (∀ n rest, q.notices = n :: rest →
       (q.waiting = [] →
         exec (.fetchNotice x) s = .next
           ((s.setQueue x { q with notices := rest, overflow := false }).setAnswer x
             ⟨0xA0, ⟨.ok, flag ++ u8 rest.length ++ n.bytes⟩⟩)) ∧
       (∀ (k : Nat) (c : Chan) (ending : Ending), k < 12 → c.val = (q.served.val + 1 + k) % 12 → c ∈ q.waiting →
         (∀ j, j < k → ∀ d : Chan, d.val = (q.served.val + 1 + j) % 12 → d ∉ q.waiting) →
         (s.fse.channels[c]).stacked = some ending →
         exec (.fetchNotice x) s = .next
           (((s.setQueue x
               { notices := rest ++ [
                   { source := .channel, index := ending.channel.val, code := .ended, p1 := ending.lastStep.val
                     p2 := ending.outcome.code, p3 := 256 * ending.entered.code + (if ending.superseded then 1 else 0)
                     time := ending.endedAt }]
                 overflow := false, waiting := q.waiting.filter (fun d => decide (d ≠ c)), served := c }).setChan c
             { s.fse.channels[c] with
               stacked := none, owner := if (s.fse.channels[c]).state = .idle then none else (s.fse.channels[c]).owner }).setAnswer x
             ⟨0xA0, ⟨.ok, flag ++ u8 (rest.length + 1) ++ n.bytes⟩⟩)))) ∧
  (∀ (x : Station) (port short : Byte) (long : BitVec 16) (action : Byte) (s : State),
     ((3 < port.toNat ∨ 1 < action.toNat) →
       exec (.setPort x port short long action) s = .next (s.setAnswer x ⟨0xA1, ⟨.badArgument, []⟩⟩)) ∧
     ∀ y : Station, port.toNat = y.val → action.toNat ≤ 1 →
       let sh := max 5 (min 60 short.toNat)
       let lg := max (sh + 1) (max 30 (min 600 long.toNat))
       exec (.setPort x port short long action) s = .next
         ((s.setPort y { s.sp.ports[y] with shortSilence := sh, longSilence := lg, holdAction := decide (action = 1) }).setAnswer x
           ⟨0xA1, ⟨if sh = short.toNat ∧ lg = long.toNat then .ok else .clamped, []⟩⟩))

/-- The silence timers (R208, R18). An expiry sets SLOW or LOST, stops its timer and makes the condition hold for the
station, whatever that causes. With ACTION HOLD a channel in RUN that the silent station owns, here the only one, ends LINK
LOST into HOLD at its fallback setpoint; that is stated for a channel without reservation and page, room for its notices
and a LINK group without paging. That a stopped timer does not
expire is the model's choice (log entry 9). -/
def Obligations.SilenceTimerRules : Prop :=
  (∀ (x : Station) (s : State),
     ((s.sp.ports[x]).shortLeft = none → exec (.shortTimerExpiry x) s = .next s) ∧
     ((s.sp.ports[x]).longLeft = none → exec (.longTimerExpiry x) s = .next s) ∧
     ((s.sp.ports[x]).shortLeft.isSome = true → ∃ t, exec (.shortTimerExpiry x) s = .next t ∧
       t.sp.ports = s.sp.ports.set x { s.sp.ports[x] with slow := true, shortLeft := none } ∧
       x.val ∈ (t.fm.conds[Cond.slow.index]).active ∧ t.clock = s.clock ∧ t.hlu.probes = s.hlu.probes ∧ t.pba = s.pba ∧
       t.ppu.pools = s.ppu.pools ∧ t.dlu = s.dlu) ∧
     ((s.sp.ports[x]).longLeft.isSome = true → ∃ t, exec (.longTimerExpiry x) s = .next t ∧
       t.sp.ports = s.sp.ports.set x { s.sp.ports[x] with lost := true, longLeft := none } ∧
       x.val ∈ (t.fm.conds[Cond.lost.index]).active ∧ t.clock = s.clock ∧ t.hlu.probes = s.hlu.probes ∧ t.pba = s.pba ∧
       t.ppu.pools = s.ppu.pools ∧ t.dlu = s.dlu)) ∧
  (∀ (x : Station) (s : State) (c : Chan) (i : StepIx),
     (s.sp.ports[x]).longLeft.isSome = true → (s.sp.ports[x]).holdAction = true → (s.fm.groups[5]).paging = false →
     (s.sp.queues[x]).notices.length < 14 →
     (s.fse.channels[c]).state = .run → (s.fse.channels[c]).owner = some x → (s.fse.channels[c]).current = some i →
     (s.fse.channels[c]).reservation = none → (s.fse.channels[c]).page = none →
     (∀ d : Chan, d ≠ c → (s.fse.channels[d]).state = .run → (s.fse.channels[d]).owner ≠ some x) →
     ∃ t, exec (.longTimerExpiry x) s = .next t ∧
       (t.fse.channels[c]).state = .hold ∧ (t.fse.channels[c]).owner = some x ∧ (t.fse.channels[c]).current = none ∧
       (t.fse.channels[c]).holdSetpoint = (s.fse.channels[c]).fallback ∧
       (t.fse.channels[c]).lastEnding = some
         { channel := c, lastStep := i, outcome := .linkLost, entered := .hold, endedAt := s.clock, superseded := false, owedTo := x } ∧
       (t.sp.queues[x]).notices.getLast? = some
         { source := .channel, index := c.val, code := .ended, p1 := i.val, p2 := 11, p3 := 512, time := s.clock } ∧
       (t.hlu.loads[ovenLoad c]).setpoint = (s.fse.channels[c]).fallback ∧ (t.hlu.loads[ovenLoad c]).active = true ∧
       (∀ d : Chan, d ≠ c → t.fse.channels[d] = s.fse.channels[d])) ∧
  (∀ (x : Station) (s : State),
     (s.sp.ports[x]).longLeft.isSome = true → (s.fm.groups[5]).paging = false →
     ((s.sp.ports[x]).holdAction = false ∨
       ∀ d : Chan, (s.fse.channels[d]).state = .run → (s.fse.channels[d]).owner ≠ some x) →
     ∃ t, exec (.longTimerExpiry x) s = .next t ∧ t.fse = s.fse ∧ t.hlu = s.hlu ∧ t.ppu = s.ppu ∧ t.pgu = s.pgu)

/-- Command frames (R203 to R205, R207), on a port that is neither SLOW nor LOST. A frame found valid is taken at once where no
response is outstanding: an unknown COMMAND byte and a wrong payload length are answered without effect. Where one is
outstanding, the frame is buffered. Either restarts the silence timers and attaches the port. A frame with a wrong checksum
restarts nothing, is answered FRAME ERROR when taken, and is counted by the fault monitor, here with FRAME ERROR latched. -/
def Obligations.CommandFrameRule : Prop :=
  ∀ (x : Station) (body : List Byte) (checksum : BitVec 16) (s : State),
    1 ≤ body.length → body.length ≤ 64 →
    let p := s.sp.ports[x]
    let heard : PortRec :=
      { p with
        inFrame := false, soFar := [], attached := true, lastValidAt := s.clock, shortLeft := some p.shortSilence
        longLeft := some p.longSilence }
    let answered : PortRec → Result → State := fun r result =>
      s.setPort x { r with
        outstanding := true, answer := some ⟨body.headD 0, ⟨result, []⟩⟩
        line := responseFrame ⟨body.headD 0, ⟨result, []⟩⟩ }
    let counted : State → State := fun t =>
      t.setFm (t.fm.setCond .frameError { s.fm.conds[Cond.frameError.index] with
        occurrences := min 255 ((s.fm.conds[Cond.frameError.index]).occurrences + 1) })
    (frameCheck body = checksum → p.slow = false → p.lost = false →
      (p.outstanding = false → decodeCommand x (body.headD 0) (body.drop 1) = .unknown →
        exec (.commandFrame x body checksum) s = .next (answered heard .unknownCommand)) ∧
      (p.outstanding = false → decodeCommand x (body.headD 0) (body.drop 1) = .badLength →
        exec (.commandFrame x body checksum) s = .next (answered heard .badArgument)) ∧
      (p.outstanding = true → p.buffered = none →
        exec (.commandFrame x body checksum) s = .next (s.setPort x { heard with buffered := some ⟨body, true⟩ })) ∧
      (p.outstanding = true → p.buffered.isSome = true → (s.fm.conds[Cond.frameError.index]).latched = true →
        exec (.commandFrame x body checksum) s = .next (counted (s.setPort x heard)))) ∧
    (frameCheck body ≠ checksum → (s.fm.conds[Cond.frameError.index]).latched = true →
      (p.outstanding = false →
        exec (.commandFrame x body checksum) s = .next (counted (answered { p with inFrame := false, soFar := [] } .frameError))) ∧
      (p.outstanding = true → p.buffered = none →
        exec (.commandFrame x body checksum) s = .next
          (counted (s.setPort x { p with inFrame := false, soFar := [], buffered := some ⟨body, false⟩ }))))

/-- A command carried by a valid frame has the effect of its own row (R205): on a free port that is neither SLOW nor LOST, the frame
leaves what the row leaves on the state with the frame received, and puts the response frame of the answer on the line. -/
def Obligations.FramedCommandHasItsRowsEffect : Prop :=
  ∀ (x : Station) (body : List Byte) (i : Instr) (s : State),
    1 ≤ body.length → body.length ≤ 64 → decodeCommand x (body.headD 0) (body.drop 1) = .command i →
    (s.sp.ports[x]).outstanding = false → (s.sp.ports[x]).slow = false → (s.sp.ports[x]).lost = false →
    let p := s.sp.ports[x]
    let s1 := s.setPort x
      { p with
        inFrame := false, soFar := [], attached := true, lastValidAt := s.clock, shortLeft := some p.shortSilence
        longLeft := some p.longSilence, outstanding := true }
    ∃ (t : State) (r : Response),
      exec i s1 = .next t ∧ (t.sp.ports[x]).answer = some ⟨body.headD 0, r⟩ ∧
      exec (.commandFrame x body (frameCheck body)) s = .next
        (t.setPort x { t.sp.ports[x] with line := responseFrame ⟨body.headD 0, r⟩ })

/-- The receiver and the transmitter of a port (R202, R204): hunting for SYNC, gathering bytes, a bad LENGTH, the last byte,
which makes the frame arrive whole, the byte gap, and the response sent with no frame buffered, with an invalid one and with a
valid one, which is then taken as its own row would be. The abandonments are stated exactly with FRAME ERROR latched. That a
byte gap outside a frame and a response sent with none outstanding do nothing is the model's choice (log entry 9). -/
def Obligations.ReceiverRule : Prop :=
  ∀ (x : Station) (b : Byte) (s : State),
    let p := s.sp.ports[x]
    (p.inFrame = false → b ≠ 0xA5#8 → exec (.receivedByte x b) s = .next s) ∧
    (p.inFrame = false →
      exec (.receivedByte x 0xA5#8) s = .next (s.setPort x { p with inFrame := true, soFar := [0xA5#8] })) ∧
    (p.inFrame = true → p.soFar = [0xA5#8] → (b = 0 ∨ 64 < b.toNat) →
      exec (.receivedByte x b) s = exec (.byteGapExpiry x) s) ∧
    (p.inFrame = true → p.soFar = [0xA5#8] → 1 ≤ b.toNat → b.toNat ≤ 64 →
      exec (.receivedByte x b) s = .next (s.setPort x { p with soFar := [0xA5#8, b] })) ∧
    (∀ (len : Byte) (rest : List Byte), p.inFrame = true → p.soFar = 0xA5#8 :: len :: rest → 1 ≤ len.toNat → len.toNat ≤ 64 →
      rest.length ≤ len.toNat → exec (.receivedByte x b) s = .next (s.setPort x { p with soFar := 0xA5#8 :: len :: (rest ++ [b]) })) ∧
    (∀ (len high : Byte) (body : List Byte), p.inFrame = true → p.soFar = 0xA5#8 :: len :: (body ++ [high]) →
      body.length = len.toNat → 1 ≤ len.toNat → len.toNat ≤ 64 →
      exec (.receivedByte x b) s = exec (.commandFrame x body (high ++ b)) s) ∧
    (p.inFrame = false → exec (.byteGapExpiry x) s = .next s) ∧
    (p.inFrame = true → (s.fm.conds[Cond.frameError.index]).latched = true →
      exec (.byteGapExpiry x) s = .next
        ((s.setPort x { p with inFrame := false, soFar := [] }).setFm
          (s.fm.setCond .frameError { s.fm.conds[Cond.frameError.index] with
            occurrences := min 255 ((s.fm.conds[Cond.frameError.index]).occurrences + 1) }))) ∧
    (p.outstanding = false → exec (.responseSent x) s = .next s) ∧
    (p.outstanding = true → p.buffered = none →
      exec (.responseSent x) s = .next (s.setPort x { p with outstanding := false, line := [] })) ∧
    (∀ body : List Byte, p.outstanding = true → p.buffered = some ⟨body, false⟩ →
      exec (.responseSent x) s = .next
        (s.setPort x { p with
          buffered := none, answer := some ⟨body.headD 0, ⟨.frameError, []⟩⟩
          line := responseFrame ⟨body.headD 0, ⟨.frameError, []⟩⟩ })) ∧
    (∀ body : List Byte, p.outstanding = true → p.buffered = some ⟨body, true⟩ →
      let waiting : State := s.setPort x { p with buffered := none, line := [] }
      let refused : Result → State := fun result =>
        s.setPort x { p with
          buffered := none, answer := some ⟨body.headD 0, ⟨result, []⟩⟩
          line := responseFrame ⟨body.headD 0, ⟨result, []⟩⟩ }
      (decodeCommand x (body.headD 0) (body.drop 1) = .unknown →
        exec (.responseSent x) s = .next (refused .unknownCommand)) ∧
      (decodeCommand x (body.headD 0) (body.drop 1) = .badLength →
        exec (.responseSent x) s = .next (refused .badArgument)) ∧
      (∀ i : Instr, decodeCommand x (body.headD 0) (body.drop 1) = .command i →
        ∃ (t : State) (r : Response),
          exec i waiting = .next t ∧ (t.sp.ports[x]).answer = some ⟨body.headD 0, r⟩ ∧
          exec (.responseSent x) s = .next
            (t.setPort x { t.sp.ports[x] with line := responseFrame ⟨body.headD 0, r⟩ })))

/-! ### The whole part -/

/-- The READ commands answer and change nothing else (R5, R12, R46, R62, R82, R107, R125, R149, R158, R185, R200, R209):
each answers OK exactly where its selector names something, and says what else it answers. That READ DISH judges its position
for the selector RACK alone is the model's reading (log entry 16), and so is that a READ BADGE form above 1 is refused BAD
ARGUMENT, as a value outside its set (log entry 13; R206). -/
def Obligations.ReadCommandsOnlyAnswer : Prop :=
  ∀ (x : Station) (s : State),
    let answers : Instr → Byte → Prop → Prop := fun i code good =>
      ∃ r : Response, exec i s = .next (s.setAnswer x ⟨code, r⟩) ∧ (good → r.result = .ok) ∧ (¬ good → r = ⟨.badArgument, []⟩)
    (∀ idx : BitVec 16, answers (.readStep x idx) 0x11 (idx.toNat ≤ 511)) ∧
    (∀ v : Byte,
      answers (.readChannel x v) 0x17 (v.toNat ≤ 11) ∧ answers (.readLoad x v) 0x23 (v.toNat ≤ 21) ∧
      answers (.readProbe x v) 0x24 (v.toNat ≤ 33) ∧ answers (.readReservation x v) 0x52 (v.toNat ≤ 15) ∧
      answers (.readPort x v) 0xA2 (v.toNat ≤ 3) ∧
      answers (.readPool x v) 0x46 (v.toNat ≤ 3 ∨ (16 ≤ v.toNat ∧ v.toNat ≤ 23)) ∧
      ∀ position : Byte,
        (v ≠ 2 → answers (.readDish x v position) 0x62 (v.toNat ≤ 3)) ∧
        (9 < position.toNat → answers (.readDish x 2 position) 0x62 False) ∧
        (position.toNat ≤ 9 → position.toNat < s.dlu.racks.length → answers (.readDish x 2 position) 0x62 True) ∧
        (position.toNat ≤ 9 → s.dlu.racks.length ≤ position.toNat →
          exec (.readDish x 2 position) s = .next (s.setAnswer x ⟨0x62, ⟨.notFound, []⟩⟩))) ∧
    answers (.readBudget x) 0x32 True ∧ answers (.readFaults x) 0x94 True ∧
    (∀ value : BitVec 24,
      answers (.readBadge x 0 value) 0x74 (value.toNat ≤ 95) ∧
      (∀ form : Byte, 1 < form.toNat → answers (.readBadge x form value) 0x74 False) ∧
      (value = 0 → answers (.readBadge x 1 value) 0x74 False) ∧
      (value ≠ 0 → (∃ b : BadgeIx, (s.pgu.badges[b]).address = some value.toNat) → answers (.readBadge x 1 value) 0x74 True) ∧
      (value ≠ 0 → (∀ b : BadgeIx, (s.pgu.badges[b]).address ≠ some value.toNat) →
        exec (.readBadge x 1 value) s = .next (s.setAnswer x ⟨0x74, ⟨.notFound, []⟩⟩))) ∧
    (∀ number : BitVec 16,
      (number = 65535#16 → answers (.readPage x number) 0x82 True) ∧
      (255 < number.toNat → number ≠ 65535#16 → answers (.readPage x number) 0x82 False) ∧
      (number.toNat ≤ 255 → ((∃ p ∈ s.pgu.queue, p.number = number.toNat) ∨ ∃ r ∈ s.pgu.retention, r.number = number.toNat) →
        answers (.readPage x number) 0x82 True) ∧
      (number.toNat ≤ 255 → (∀ p ∈ s.pgu.queue, p.number ≠ number.toNat) → (∀ r ∈ s.pgu.retention, r.number ≠ number.toNat) →
        exec (.readPage x number) s = .next (s.setAnswer x ⟨0x82, ⟨.notFound, []⟩⟩)))

/-- Reading a command frame gives back the command written, with every operand at every value: COMMAND and PAYLOAD of a
station command decode to that command (R205, R214, R216, R218, 10.4). -/
def Obligations.DecodeOfEncode : Prop :=
  ∀ (i : Instr) (x : Station), senderOf i = some x →
    decodeCommand x ((encodeCommand i).headD 0) ((encodeCommand i).drop 1) = .command i

/-- The state right after reset meets every invariant stated here, whatever the levels on the field lines. -/
def Obligations.ResetMeetsEveryInvariant : Prop :=
  ∀ pins : Pins,
    (State.resetWith pins).HeatSound ∧ (State.resetWith pins).BudgetHeld ∧ (State.resetWith pins).PoolSound ∧
    (State.resetWith pins).AtnRight ∧ (State.resetWith pins).NoticesFit ∧ (State.resetWith pins).AlertRight ∧
    (State.resetWith pins).PagingFits ∧ (State.resetWith pins).DishFits ∧ (State.resetWith pins).ReservationsSound

/-- Every step keeps ALERT right (R194), the attention lines right (R211) and the notice queues within 16 records (R210). -/
def Obligations.EveryStepKeepsAlertAndNoticesRight : Prop :=
  ∀ s t : State, s.AlertRight → s.AtnRight → s.NoticesFit → step s = .next t → t.AlertRight ∧ t.AtnRight ∧ t.NoticesFit

/-- Every step keeps the page queue within 48 pages and the retention list within 8 entries (R168, R183), and the label queue
within 8 labels and the machine within 10 rack records (R129, R130). -/
def Obligations.EveryStepKeepsTheQueuesInBounds : Prop :=
  ∀ s t : State, s.PagingFits → s.DishFits → step s = .next t → t.PagingFits ∧ t.DishFits
end

