-- ==== Sys2Proof/Laws/Codec.lean ====
section
/-! SUPPORT. Sys2Proof/Laws/Codec.lean: fields read back as they were written, high byte first (R214). -/

namespace Sys2Proof

/-- A field cut into its high part and its low part is whole again when they are joined. -/
theorem join_split {m n : Nat} (v : BitVec (m + n)) : v.extractLsb' n m ++ v.extractLsb' 0 n = v := by
  apply BitVec.eq_of_getLsbD_eq
  intro i hi
  rw [BitVec.getLsbD_append]
  by_cases h : i < n
  · simp [h]
  · have h1 : i - n < m := by omega
    have h2 : n + (i - n) = i := by omega
    simp [h, h1, h2]

theorem at2_bytes2 (v : BitVec 16) : at2 (bytes2 v) 0 = v := join_split (m := 8) (n := 8) v

theorem at3_bytes3 (v : BitVec 24) : at3 (bytes3 v) 0 = v := by
  have h : (v.extractLsb' 8 8 ++ v.extractLsb' 0 8 : BitVec 16) = v.extractLsb' 0 16 := by
    rw [← join_split (m := 8) (n := 8) (v.extractLsb' 0 16)]
    congr 1 <;> (
      apply BitVec.eq_of_getLsbD_eq
      intro i hi
      have h1 : 8 + i < 16 := by omega
      have h2 : i < 16 := by omega
      simp [hi, h1, h2])
  show v.extractLsb' 16 8 ++ (v.extractLsb' 8 8 ++ v.extractLsb' 0 8 : BitVec 16) = v
  rw [h]; exact join_split (m := 8) (n := 16) v

theorem at4_bytes4 (v : BitVec 32) : at4 (bytes4 v) 0 = v := by
  have h : (v.extractLsb' 8 8 ++ v.extractLsb' 0 8 : BitVec 16) = v.extractLsb' 0 16 := by
    rw [← join_split (m := 8) (n := 8) (v.extractLsb' 0 16)]
    congr 1 <;> (
      apply BitVec.eq_of_getLsbD_eq
      intro i hi
      have h1 : 8 + i < 16 := by omega
      have h2 : i < 16 := by omega
      simp [hi, h1, h2])
  have h' : (v.extractLsb' 24 8 ++ v.extractLsb' 16 8 : BitVec 16) = v.extractLsb' 16 16 := by
    rw [← join_split (m := 8) (n := 8) (v.extractLsb' 16 16)]
    congr 1 <;> (
      apply BitVec.eq_of_getLsbD_eq
      intro i hi
      have h1 : 8 + i < 16 := by omega
      have h2 : i < 16 := by omega
      have h3 : 16 + (8 + i) = 24 + i := by omega
      simp [hi, h1, h2, h3])
  show (v.extractLsb' 24 8 ++ v.extractLsb' 16 8 : BitVec 16) ++ (v.extractLsb' 8 8 ++ v.extractLsb' 0 8 : BitVec 16) = v
  rw [h, h']; exact join_split (m := 16) (n := 16) v

end Sys2Proof
end

