-- ==== Sys2Proof/Laws/State.lean ====
section
/-! SUPPORT. Sys2Proof/Laws/State.lean: what each named update of the state does to every field, one lemma a field, so that no
proof unfolds a record update. -/

namespace Sys2Proof.Machine

open Sys2Proof

/-! ### setStep -/

@[simp] theorem State.setStep_clock (i : StepIx) (r : StepRec) (s : State) : (s.setStep i r).clock = s.clock := rfl
@[simp] theorem State.setStep_hlu (i : StepIx) (r : StepRec) (s : State) : (s.setStep i r).hlu = s.hlu := rfl
@[simp] theorem State.setStep_pba (i : StepIx) (r : StepRec) (s : State) : (s.setStep i r).pba = s.pba := rfl
@[simp] theorem State.setStep_ppu (i : StepIx) (r : StepRec) (s : State) : (s.setStep i r).ppu = s.ppu := rfl
@[simp] theorem State.setStep_dlu (i : StepIx) (r : StepRec) (s : State) : (s.setStep i r).dlu = s.dlu := rfl
@[simp] theorem State.setStep_pgu (i : StepIx) (r : StepRec) (s : State) : (s.setStep i r).pgu = s.pgu := rfl
@[simp] theorem State.setStep_fm (i : StepIx) (r : StepRec) (s : State) : (s.setStep i r).fm = s.fm := rfl
@[simp] theorem State.setStep_sp (i : StepIx) (r : StepRec) (s : State) : (s.setStep i r).sp = s.sp := rfl
@[simp] theorem State.setStep_pins (i : StepIx) (r : StepRec) (s : State) : (s.setStep i r).pins = s.pins := rfl
@[simp] theorem State.setStep_pending (i : StepIx) (r : StepRec) (s : State) : (s.setStep i r).pending = s.pending := rfl
@[simp] theorem State.setStep_fse_channels (i : StepIx) (r : StepRec) (s : State) : (s.setStep i r).fse.channels = s.fse.channels := rfl
@[simp] theorem State.setStep_fse_entryWaiters (i : StepIx) (r : StepRec) (s : State) : (s.setStep i r).fse.entryWaiters = s.fse.entryWaiters := rfl
@[simp] theorem State.setStep_fse_entryServed (i : StepIx) (r : StepRec) (s : State) : (s.setStep i r).fse.entryServed = s.fse.entryServed := rfl
@[simp] theorem State.setStep_fse_placeWaiters (i : StepIx) (r : StepRec) (s : State) : (s.setStep i r).fse.placeWaiters = s.fse.placeWaiters := rfl
@[simp] theorem State.setStep_fse_placeServed (i : StepIx) (r : StepRec) (s : State) : (s.setStep i r).fse.placeServed = s.fse.placeServed := rfl
@[simp] theorem State.setStep_fse_steps (i : StepIx) (r : StepRec) (s : State) : (s.setStep i r).fse.steps = s.fse.steps.set i r := rfl

/-! ### setChan -/

@[simp] theorem State.setChan_clock (c : Chan) (r : ChanRec) (s : State) : (s.setChan c r).clock = s.clock := rfl
@[simp] theorem State.setChan_hlu (c : Chan) (r : ChanRec) (s : State) : (s.setChan c r).hlu = s.hlu := rfl
@[simp] theorem State.setChan_pba (c : Chan) (r : ChanRec) (s : State) : (s.setChan c r).pba = s.pba := rfl
@[simp] theorem State.setChan_ppu (c : Chan) (r : ChanRec) (s : State) : (s.setChan c r).ppu = s.ppu := rfl
@[simp] theorem State.setChan_dlu (c : Chan) (r : ChanRec) (s : State) : (s.setChan c r).dlu = s.dlu := rfl
@[simp] theorem State.setChan_pgu (c : Chan) (r : ChanRec) (s : State) : (s.setChan c r).pgu = s.pgu := rfl
@[simp] theorem State.setChan_fm (c : Chan) (r : ChanRec) (s : State) : (s.setChan c r).fm = s.fm := rfl
@[simp] theorem State.setChan_sp (c : Chan) (r : ChanRec) (s : State) : (s.setChan c r).sp = s.sp := rfl
@[simp] theorem State.setChan_pins (c : Chan) (r : ChanRec) (s : State) : (s.setChan c r).pins = s.pins := rfl
@[simp] theorem State.setChan_pending (c : Chan) (r : ChanRec) (s : State) : (s.setChan c r).pending = s.pending := rfl
@[simp] theorem State.setChan_fse_steps (c : Chan) (r : ChanRec) (s : State) : (s.setChan c r).fse.steps = s.fse.steps := rfl
@[simp] theorem State.setChan_fse_entryWaiters (c : Chan) (r : ChanRec) (s : State) : (s.setChan c r).fse.entryWaiters = s.fse.entryWaiters := rfl
@[simp] theorem State.setChan_fse_entryServed (c : Chan) (r : ChanRec) (s : State) : (s.setChan c r).fse.entryServed = s.fse.entryServed := rfl
@[simp] theorem State.setChan_fse_placeWaiters (c : Chan) (r : ChanRec) (s : State) : (s.setChan c r).fse.placeWaiters = s.fse.placeWaiters := rfl
@[simp] theorem State.setChan_fse_placeServed (c : Chan) (r : ChanRec) (s : State) : (s.setChan c r).fse.placeServed = s.fse.placeServed := rfl
@[simp] theorem State.setChan_fse_channels (c : Chan) (r : ChanRec) (s : State) : (s.setChan c r).fse.channels = s.fse.channels.set c r := rfl

/-! ### onFse -/

@[simp] theorem State.onFse_clock (f : Fse → Fse) (s : State) : (s.onFse f).clock = s.clock := rfl
@[simp] theorem State.onFse_hlu (f : Fse → Fse) (s : State) : (s.onFse f).hlu = s.hlu := rfl
@[simp] theorem State.onFse_pba (f : Fse → Fse) (s : State) : (s.onFse f).pba = s.pba := rfl
@[simp] theorem State.onFse_ppu (f : Fse → Fse) (s : State) : (s.onFse f).ppu = s.ppu := rfl
@[simp] theorem State.onFse_dlu (f : Fse → Fse) (s : State) : (s.onFse f).dlu = s.dlu := rfl
@[simp] theorem State.onFse_pgu (f : Fse → Fse) (s : State) : (s.onFse f).pgu = s.pgu := rfl
@[simp] theorem State.onFse_fm (f : Fse → Fse) (s : State) : (s.onFse f).fm = s.fm := rfl
@[simp] theorem State.onFse_sp (f : Fse → Fse) (s : State) : (s.onFse f).sp = s.sp := rfl
@[simp] theorem State.onFse_pins (f : Fse → Fse) (s : State) : (s.onFse f).pins = s.pins := rfl
@[simp] theorem State.onFse_pending (f : Fse → Fse) (s : State) : (s.onFse f).pending = s.pending := rfl
@[simp] theorem State.onFse_fse (f : Fse → Fse) (s : State) : (s.onFse f).fse = f s.fse := rfl

/-! ### setProbe -/

@[simp] theorem State.setProbe_clock (p : ProbeIx) (r : ProbeRec) (s : State) : (s.setProbe p r).clock = s.clock := rfl
@[simp] theorem State.setProbe_fse (p : ProbeIx) (r : ProbeRec) (s : State) : (s.setProbe p r).fse = s.fse := rfl
@[simp] theorem State.setProbe_pba (p : ProbeIx) (r : ProbeRec) (s : State) : (s.setProbe p r).pba = s.pba := rfl
@[simp] theorem State.setProbe_ppu (p : ProbeIx) (r : ProbeRec) (s : State) : (s.setProbe p r).ppu = s.ppu := rfl
@[simp] theorem State.setProbe_dlu (p : ProbeIx) (r : ProbeRec) (s : State) : (s.setProbe p r).dlu = s.dlu := rfl
@[simp] theorem State.setProbe_pgu (p : ProbeIx) (r : ProbeRec) (s : State) : (s.setProbe p r).pgu = s.pgu := rfl
@[simp] theorem State.setProbe_fm (p : ProbeIx) (r : ProbeRec) (s : State) : (s.setProbe p r).fm = s.fm := rfl
@[simp] theorem State.setProbe_sp (p : ProbeIx) (r : ProbeRec) (s : State) : (s.setProbe p r).sp = s.sp := rfl
@[simp] theorem State.setProbe_pins (p : ProbeIx) (r : ProbeRec) (s : State) : (s.setProbe p r).pins = s.pins := rfl
@[simp] theorem State.setProbe_pending (p : ProbeIx) (r : ProbeRec) (s : State) : (s.setProbe p r).pending = s.pending := rfl
@[simp] theorem State.setProbe_hlu_loads (p : ProbeIx) (r : ProbeRec) (s : State) : (s.setProbe p r).hlu.loads = s.hlu.loads := rfl
@[simp] theorem State.setProbe_hlu_verifyLeft (p : ProbeIx) (r : ProbeRec) (s : State) : (s.setProbe p r).hlu.verifyLeft = s.hlu.verifyLeft := rfl
@[simp] theorem State.setProbe_hlu_probes (p : ProbeIx) (r : ProbeRec) (s : State) : (s.setProbe p r).hlu.probes = s.hlu.probes.set p r := rfl

/-! ### setLoad -/

@[simp] theorem State.setLoad_clock (l : LoadIx) (r : LoadRec) (s : State) : (s.setLoad l r).clock = s.clock := rfl
@[simp] theorem State.setLoad_fse (l : LoadIx) (r : LoadRec) (s : State) : (s.setLoad l r).fse = s.fse := rfl
@[simp] theorem State.setLoad_pba (l : LoadIx) (r : LoadRec) (s : State) : (s.setLoad l r).pba = s.pba := rfl
@[simp] theorem State.setLoad_ppu (l : LoadIx) (r : LoadRec) (s : State) : (s.setLoad l r).ppu = s.ppu := rfl
@[simp] theorem State.setLoad_dlu (l : LoadIx) (r : LoadRec) (s : State) : (s.setLoad l r).dlu = s.dlu := rfl
@[simp] theorem State.setLoad_pgu (l : LoadIx) (r : LoadRec) (s : State) : (s.setLoad l r).pgu = s.pgu := rfl
@[simp] theorem State.setLoad_fm (l : LoadIx) (r : LoadRec) (s : State) : (s.setLoad l r).fm = s.fm := rfl
@[simp] theorem State.setLoad_sp (l : LoadIx) (r : LoadRec) (s : State) : (s.setLoad l r).sp = s.sp := rfl
@[simp] theorem State.setLoad_pins (l : LoadIx) (r : LoadRec) (s : State) : (s.setLoad l r).pins = s.pins := rfl
@[simp] theorem State.setLoad_pending (l : LoadIx) (r : LoadRec) (s : State) : (s.setLoad l r).pending = s.pending := rfl
@[simp] theorem State.setLoad_hlu_probes (l : LoadIx) (r : LoadRec) (s : State) : (s.setLoad l r).hlu.probes = s.hlu.probes := rfl
@[simp] theorem State.setLoad_hlu_verifyLeft (l : LoadIx) (r : LoadRec) (s : State) : (s.setLoad l r).hlu.verifyLeft = s.hlu.verifyLeft := rfl
@[simp] theorem State.setLoad_hlu_loads (l : LoadIx) (r : LoadRec) (s : State) : (s.setLoad l r).hlu.loads = s.hlu.loads.set l r := rfl

/-! ### setPba -/

@[simp] theorem State.setPba_clock (b : Pba) (s : State) : (s.setPba b).clock = s.clock := rfl
@[simp] theorem State.setPba_fse (b : Pba) (s : State) : (s.setPba b).fse = s.fse := rfl
@[simp] theorem State.setPba_hlu (b : Pba) (s : State) : (s.setPba b).hlu = s.hlu := rfl
@[simp] theorem State.setPba_ppu (b : Pba) (s : State) : (s.setPba b).ppu = s.ppu := rfl
@[simp] theorem State.setPba_dlu (b : Pba) (s : State) : (s.setPba b).dlu = s.dlu := rfl
@[simp] theorem State.setPba_pgu (b : Pba) (s : State) : (s.setPba b).pgu = s.pgu := rfl
@[simp] theorem State.setPba_fm (b : Pba) (s : State) : (s.setPba b).fm = s.fm := rfl
@[simp] theorem State.setPba_sp (b : Pba) (s : State) : (s.setPba b).sp = s.sp := rfl
@[simp] theorem State.setPba_pins (b : Pba) (s : State) : (s.setPba b).pins = s.pins := rfl
@[simp] theorem State.setPba_pending (b : Pba) (s : State) : (s.setPba b).pending = s.pending := rfl
@[simp] theorem State.setPba_pba (b : Pba) (s : State) : (s.setPba b).pba = b := rfl

/-! ### setPool -/

@[simp] theorem State.setPool_clock (k : Kind) (r : PoolRec) (s : State) : (s.setPool k r).clock = s.clock := rfl
@[simp] theorem State.setPool_fse (k : Kind) (r : PoolRec) (s : State) : (s.setPool k r).fse = s.fse := rfl
@[simp] theorem State.setPool_hlu (k : Kind) (r : PoolRec) (s : State) : (s.setPool k r).hlu = s.hlu := rfl
@[simp] theorem State.setPool_pba (k : Kind) (r : PoolRec) (s : State) : (s.setPool k r).pba = s.pba := rfl
@[simp] theorem State.setPool_dlu (k : Kind) (r : PoolRec) (s : State) : (s.setPool k r).dlu = s.dlu := rfl
@[simp] theorem State.setPool_pgu (k : Kind) (r : PoolRec) (s : State) : (s.setPool k r).pgu = s.pgu := rfl
@[simp] theorem State.setPool_fm (k : Kind) (r : PoolRec) (s : State) : (s.setPool k r).fm = s.fm := rfl
@[simp] theorem State.setPool_sp (k : Kind) (r : PoolRec) (s : State) : (s.setPool k r).sp = s.sp := rfl
@[simp] theorem State.setPool_pins (k : Kind) (r : PoolRec) (s : State) : (s.setPool k r).pins = s.pins := rfl
@[simp] theorem State.setPool_pending (k : Kind) (r : PoolRec) (s : State) : (s.setPool k r).pending = s.pending := rfl
@[simp] theorem State.setPool_ppu_warmers (k : Kind) (r : PoolRec) (s : State) : (s.setPool k r).ppu.warmers = s.ppu.warmers := rfl
@[simp] theorem State.setPool_ppu_entries (k : Kind) (r : PoolRec) (s : State) : (s.setPool k r).ppu.entries = s.ppu.entries := rfl
@[simp] theorem State.setPool_ppu_ageList (k : Kind) (r : PoolRec) (s : State) : (s.setPool k r).ppu.ageList = s.ppu.ageList := rfl
@[simp] theorem State.setPool_ppu_nextCreation (k : Kind) (r : PoolRec) (s : State) : (s.setPool k r).ppu.nextCreation = s.ppu.nextCreation := rfl
@[simp] theorem State.setPool_ppu_pools (k : Kind) (r : PoolRec) (s : State) : (s.setPool k r).ppu.pools = s.ppu.pools.set k r := rfl

/-! ### setWarmer -/

@[simp] theorem State.setWarmer_clock (w : WarmerIx) (r : WarmerRec) (s : State) : (s.setWarmer w r).clock = s.clock := rfl
@[simp] theorem State.setWarmer_fse (w : WarmerIx) (r : WarmerRec) (s : State) : (s.setWarmer w r).fse = s.fse := rfl
@[simp] theorem State.setWarmer_hlu (w : WarmerIx) (r : WarmerRec) (s : State) : (s.setWarmer w r).hlu = s.hlu := rfl
@[simp] theorem State.setWarmer_pba (w : WarmerIx) (r : WarmerRec) (s : State) : (s.setWarmer w r).pba = s.pba := rfl
@[simp] theorem State.setWarmer_dlu (w : WarmerIx) (r : WarmerRec) (s : State) : (s.setWarmer w r).dlu = s.dlu := rfl
@[simp] theorem State.setWarmer_pgu (w : WarmerIx) (r : WarmerRec) (s : State) : (s.setWarmer w r).pgu = s.pgu := rfl
@[simp] theorem State.setWarmer_fm (w : WarmerIx) (r : WarmerRec) (s : State) : (s.setWarmer w r).fm = s.fm := rfl
@[simp] theorem State.setWarmer_sp (w : WarmerIx) (r : WarmerRec) (s : State) : (s.setWarmer w r).sp = s.sp := rfl
@[simp] theorem State.setWarmer_pins (w : WarmerIx) (r : WarmerRec) (s : State) : (s.setWarmer w r).pins = s.pins := rfl
@[simp] theorem State.setWarmer_pending (w : WarmerIx) (r : WarmerRec) (s : State) : (s.setWarmer w r).pending = s.pending := rfl
@[simp] theorem State.setWarmer_ppu_pools (w : WarmerIx) (r : WarmerRec) (s : State) : (s.setWarmer w r).ppu.pools = s.ppu.pools := rfl
@[simp] theorem State.setWarmer_ppu_entries (w : WarmerIx) (r : WarmerRec) (s : State) : (s.setWarmer w r).ppu.entries = s.ppu.entries := rfl
@[simp] theorem State.setWarmer_ppu_ageList (w : WarmerIx) (r : WarmerRec) (s : State) : (s.setWarmer w r).ppu.ageList = s.ppu.ageList := rfl
@[simp] theorem State.setWarmer_ppu_nextCreation (w : WarmerIx) (r : WarmerRec) (s : State) : (s.setWarmer w r).ppu.nextCreation = s.ppu.nextCreation := rfl
@[simp] theorem State.setWarmer_ppu_warmers (w : WarmerIx) (r : WarmerRec) (s : State) : (s.setWarmer w r).ppu.warmers = s.ppu.warmers.set w r := rfl

/-! ### setEntry -/

@[simp] theorem State.setEntry_clock (i : ResIx) (r : Option ResRec) (s : State) : (s.setEntry i r).clock = s.clock := rfl
@[simp] theorem State.setEntry_fse (i : ResIx) (r : Option ResRec) (s : State) : (s.setEntry i r).fse = s.fse := rfl
@[simp] theorem State.setEntry_hlu (i : ResIx) (r : Option ResRec) (s : State) : (s.setEntry i r).hlu = s.hlu := rfl
@[simp] theorem State.setEntry_pba (i : ResIx) (r : Option ResRec) (s : State) : (s.setEntry i r).pba = s.pba := rfl
@[simp] theorem State.setEntry_dlu (i : ResIx) (r : Option ResRec) (s : State) : (s.setEntry i r).dlu = s.dlu := rfl
@[simp] theorem State.setEntry_pgu (i : ResIx) (r : Option ResRec) (s : State) : (s.setEntry i r).pgu = s.pgu := rfl
@[simp] theorem State.setEntry_fm (i : ResIx) (r : Option ResRec) (s : State) : (s.setEntry i r).fm = s.fm := rfl
@[simp] theorem State.setEntry_sp (i : ResIx) (r : Option ResRec) (s : State) : (s.setEntry i r).sp = s.sp := rfl
@[simp] theorem State.setEntry_pins (i : ResIx) (r : Option ResRec) (s : State) : (s.setEntry i r).pins = s.pins := rfl
@[simp] theorem State.setEntry_pending (i : ResIx) (r : Option ResRec) (s : State) : (s.setEntry i r).pending = s.pending := rfl
@[simp] theorem State.setEntry_ppu_pools (i : ResIx) (r : Option ResRec) (s : State) : (s.setEntry i r).ppu.pools = s.ppu.pools := rfl
@[simp] theorem State.setEntry_ppu_warmers (i : ResIx) (r : Option ResRec) (s : State) : (s.setEntry i r).ppu.warmers = s.ppu.warmers := rfl
@[simp] theorem State.setEntry_ppu_ageList (i : ResIx) (r : Option ResRec) (s : State) : (s.setEntry i r).ppu.ageList = s.ppu.ageList := rfl
@[simp] theorem State.setEntry_ppu_nextCreation (i : ResIx) (r : Option ResRec) (s : State) : (s.setEntry i r).ppu.nextCreation = s.ppu.nextCreation := rfl
@[simp] theorem State.setEntry_ppu_entries (i : ResIx) (r : Option ResRec) (s : State) : (s.setEntry i r).ppu.entries = s.ppu.entries.set i r := rfl

/-! ### setDlu -/

@[simp] theorem State.setDlu_clock (d : Dlu) (s : State) : (s.setDlu d).clock = s.clock := rfl
@[simp] theorem State.setDlu_fse (d : Dlu) (s : State) : (s.setDlu d).fse = s.fse := rfl
@[simp] theorem State.setDlu_hlu (d : Dlu) (s : State) : (s.setDlu d).hlu = s.hlu := rfl
@[simp] theorem State.setDlu_pba (d : Dlu) (s : State) : (s.setDlu d).pba = s.pba := rfl
@[simp] theorem State.setDlu_ppu (d : Dlu) (s : State) : (s.setDlu d).ppu = s.ppu := rfl
@[simp] theorem State.setDlu_pgu (d : Dlu) (s : State) : (s.setDlu d).pgu = s.pgu := rfl
@[simp] theorem State.setDlu_fm (d : Dlu) (s : State) : (s.setDlu d).fm = s.fm := rfl
@[simp] theorem State.setDlu_sp (d : Dlu) (s : State) : (s.setDlu d).sp = s.sp := rfl
@[simp] theorem State.setDlu_pins (d : Dlu) (s : State) : (s.setDlu d).pins = s.pins := rfl
@[simp] theorem State.setDlu_pending (d : Dlu) (s : State) : (s.setDlu d).pending = s.pending := rfl
@[simp] theorem State.setDlu_dlu (d : Dlu) (s : State) : (s.setDlu d).dlu = d := rfl

/-! ### setConveyor -/

@[simp] theorem State.setConveyor_clock (c : Conveyor) (s : State) : (s.setConveyor c).clock = s.clock := rfl
@[simp] theorem State.setConveyor_fse (c : Conveyor) (s : State) : (s.setConveyor c).fse = s.fse := rfl
@[simp] theorem State.setConveyor_hlu (c : Conveyor) (s : State) : (s.setConveyor c).hlu = s.hlu := rfl
@[simp] theorem State.setConveyor_pba (c : Conveyor) (s : State) : (s.setConveyor c).pba = s.pba := rfl
@[simp] theorem State.setConveyor_ppu (c : Conveyor) (s : State) : (s.setConveyor c).ppu = s.ppu := rfl
@[simp] theorem State.setConveyor_pgu (c : Conveyor) (s : State) : (s.setConveyor c).pgu = s.pgu := rfl
@[simp] theorem State.setConveyor_fm (c : Conveyor) (s : State) : (s.setConveyor c).fm = s.fm := rfl
@[simp] theorem State.setConveyor_sp (c : Conveyor) (s : State) : (s.setConveyor c).sp = s.sp := rfl
@[simp] theorem State.setConveyor_pins (c : Conveyor) (s : State) : (s.setConveyor c).pins = s.pins := rfl
@[simp] theorem State.setConveyor_pending (c : Conveyor) (s : State) : (s.setConveyor c).pending = s.pending := rfl
@[simp] theorem State.setConveyor_dlu_settings (c : Conveyor) (s : State) : (s.setConveyor c).dlu.settings = s.dlu.settings := rfl
@[simp] theorem State.setConveyor_dlu_labels (c : Conveyor) (s : State) : (s.setConveyor c).dlu.labels = s.dlu.labels := rfl
@[simp] theorem State.setConveyor_dlu_racks (c : Conveyor) (s : State) : (s.setConveyor c).dlu.racks = s.dlu.racks := rfl
@[simp] theorem State.setConveyor_dlu_nextSequence (c : Conveyor) (s : State) : (s.setConveyor c).dlu.nextSequence = s.dlu.nextSequence := rfl
@[simp] theorem State.setConveyor_dlu_flow (c : Conveyor) (s : State) : (s.setConveyor c).dlu.flow = s.dlu.flow := rfl
@[simp] theorem State.setConveyor_dlu_conveyor (c : Conveyor) (s : State) : (s.setConveyor c).dlu.conveyor = c := rfl

/-! ### setFlow -/

@[simp] theorem State.setFlow_clock (f : Flow) (s : State) : (s.setFlow f).clock = s.clock := rfl
@[simp] theorem State.setFlow_fse (f : Flow) (s : State) : (s.setFlow f).fse = s.fse := rfl
@[simp] theorem State.setFlow_hlu (f : Flow) (s : State) : (s.setFlow f).hlu = s.hlu := rfl
@[simp] theorem State.setFlow_pba (f : Flow) (s : State) : (s.setFlow f).pba = s.pba := rfl
@[simp] theorem State.setFlow_ppu (f : Flow) (s : State) : (s.setFlow f).ppu = s.ppu := rfl
@[simp] theorem State.setFlow_pgu (f : Flow) (s : State) : (s.setFlow f).pgu = s.pgu := rfl
@[simp] theorem State.setFlow_fm (f : Flow) (s : State) : (s.setFlow f).fm = s.fm := rfl
@[simp] theorem State.setFlow_sp (f : Flow) (s : State) : (s.setFlow f).sp = s.sp := rfl
@[simp] theorem State.setFlow_pins (f : Flow) (s : State) : (s.setFlow f).pins = s.pins := rfl
@[simp] theorem State.setFlow_pending (f : Flow) (s : State) : (s.setFlow f).pending = s.pending := rfl
@[simp] theorem State.setFlow_dlu_settings (f : Flow) (s : State) : (s.setFlow f).dlu.settings = s.dlu.settings := rfl
@[simp] theorem State.setFlow_dlu_labels (f : Flow) (s : State) : (s.setFlow f).dlu.labels = s.dlu.labels := rfl
@[simp] theorem State.setFlow_dlu_racks (f : Flow) (s : State) : (s.setFlow f).dlu.racks = s.dlu.racks := rfl
@[simp] theorem State.setFlow_dlu_nextSequence (f : Flow) (s : State) : (s.setFlow f).dlu.nextSequence = s.dlu.nextSequence := rfl
@[simp] theorem State.setFlow_dlu_conveyor (f : Flow) (s : State) : (s.setFlow f).dlu.conveyor = s.dlu.conveyor := rfl
@[simp] theorem State.setFlow_dlu_flow (f : Flow) (s : State) : (s.setFlow f).dlu.flow = f := rfl

/-! ### setRacks -/

@[simp] theorem State.setRacks_clock (l : List RackRec) (s : State) : (s.setRacks l).clock = s.clock := rfl
@[simp] theorem State.setRacks_fse (l : List RackRec) (s : State) : (s.setRacks l).fse = s.fse := rfl
@[simp] theorem State.setRacks_hlu (l : List RackRec) (s : State) : (s.setRacks l).hlu = s.hlu := rfl
@[simp] theorem State.setRacks_pba (l : List RackRec) (s : State) : (s.setRacks l).pba = s.pba := rfl
@[simp] theorem State.setRacks_ppu (l : List RackRec) (s : State) : (s.setRacks l).ppu = s.ppu := rfl
@[simp] theorem State.setRacks_pgu (l : List RackRec) (s : State) : (s.setRacks l).pgu = s.pgu := rfl
@[simp] theorem State.setRacks_fm (l : List RackRec) (s : State) : (s.setRacks l).fm = s.fm := rfl
@[simp] theorem State.setRacks_sp (l : List RackRec) (s : State) : (s.setRacks l).sp = s.sp := rfl
@[simp] theorem State.setRacks_pins (l : List RackRec) (s : State) : (s.setRacks l).pins = s.pins := rfl
@[simp] theorem State.setRacks_pending (l : List RackRec) (s : State) : (s.setRacks l).pending = s.pending := rfl
@[simp] theorem State.setRacks_dlu_settings (l : List RackRec) (s : State) : (s.setRacks l).dlu.settings = s.dlu.settings := rfl
@[simp] theorem State.setRacks_dlu_labels (l : List RackRec) (s : State) : (s.setRacks l).dlu.labels = s.dlu.labels := rfl
@[simp] theorem State.setRacks_dlu_nextSequence (l : List RackRec) (s : State) : (s.setRacks l).dlu.nextSequence = s.dlu.nextSequence := rfl
@[simp] theorem State.setRacks_dlu_conveyor (l : List RackRec) (s : State) : (s.setRacks l).dlu.conveyor = s.dlu.conveyor := rfl
@[simp] theorem State.setRacks_dlu_flow (l : List RackRec) (s : State) : (s.setRacks l).dlu.flow = s.dlu.flow := rfl
@[simp] theorem State.setRacks_dlu_racks (l : List RackRec) (s : State) : (s.setRacks l).dlu.racks = l := rfl

/-! ### setPgu -/

@[simp] theorem State.setPgu_clock (p : Pgu) (s : State) : (s.setPgu p).clock = s.clock := rfl
@[simp] theorem State.setPgu_fse (p : Pgu) (s : State) : (s.setPgu p).fse = s.fse := rfl
@[simp] theorem State.setPgu_hlu (p : Pgu) (s : State) : (s.setPgu p).hlu = s.hlu := rfl
@[simp] theorem State.setPgu_pba (p : Pgu) (s : State) : (s.setPgu p).pba = s.pba := rfl
@[simp] theorem State.setPgu_ppu (p : Pgu) (s : State) : (s.setPgu p).ppu = s.ppu := rfl
@[simp] theorem State.setPgu_dlu (p : Pgu) (s : State) : (s.setPgu p).dlu = s.dlu := rfl
@[simp] theorem State.setPgu_fm (p : Pgu) (s : State) : (s.setPgu p).fm = s.fm := rfl
@[simp] theorem State.setPgu_sp (p : Pgu) (s : State) : (s.setPgu p).sp = s.sp := rfl
@[simp] theorem State.setPgu_pins (p : Pgu) (s : State) : (s.setPgu p).pins = s.pins := rfl
@[simp] theorem State.setPgu_pending (p : Pgu) (s : State) : (s.setPgu p).pending = s.pending := rfl
@[simp] theorem State.setPgu_pgu (p : Pgu) (s : State) : (s.setPgu p).pgu = p := rfl

/-! ### setBadgeRec -/

@[simp] theorem State.setBadgeRec_clock (b : BadgeIx) (r : BadgeRec) (s : State) : (s.setBadgeRec b r).clock = s.clock := rfl
@[simp] theorem State.setBadgeRec_fse (b : BadgeIx) (r : BadgeRec) (s : State) : (s.setBadgeRec b r).fse = s.fse := rfl
@[simp] theorem State.setBadgeRec_hlu (b : BadgeIx) (r : BadgeRec) (s : State) : (s.setBadgeRec b r).hlu = s.hlu := rfl
@[simp] theorem State.setBadgeRec_pba (b : BadgeIx) (r : BadgeRec) (s : State) : (s.setBadgeRec b r).pba = s.pba := rfl
@[simp] theorem State.setBadgeRec_ppu (b : BadgeIx) (r : BadgeRec) (s : State) : (s.setBadgeRec b r).ppu = s.ppu := rfl
@[simp] theorem State.setBadgeRec_dlu (b : BadgeIx) (r : BadgeRec) (s : State) : (s.setBadgeRec b r).dlu = s.dlu := rfl
@[simp] theorem State.setBadgeRec_fm (b : BadgeIx) (r : BadgeRec) (s : State) : (s.setBadgeRec b r).fm = s.fm := rfl
@[simp] theorem State.setBadgeRec_sp (b : BadgeIx) (r : BadgeRec) (s : State) : (s.setBadgeRec b r).sp = s.sp := rfl
@[simp] theorem State.setBadgeRec_pins (b : BadgeIx) (r : BadgeRec) (s : State) : (s.setBadgeRec b r).pins = s.pins := rfl
@[simp] theorem State.setBadgeRec_pending (b : BadgeIx) (r : BadgeRec) (s : State) : (s.setBadgeRec b r).pending = s.pending := rfl
@[simp] theorem State.setBadgeRec_pgu_enables (b : BadgeIx) (r : BadgeRec) (s : State) : (s.setBadgeRec b r).pgu.enables = s.pgu.enables := rfl
@[simp] theorem State.setBadgeRec_pgu_windows (b : BadgeIx) (r : BadgeRec) (s : State) : (s.setBadgeRec b r).pgu.windows = s.pgu.windows := rfl
@[simp] theorem State.setBadgeRec_pgu_queue (b : BadgeIx) (r : BadgeRec) (s : State) : (s.setBadgeRec b r).pgu.queue = s.pgu.queue := rfl
@[simp] theorem State.setBadgeRec_pgu_retention (b : BadgeIx) (r : BadgeRec) (s : State) : (s.setBadgeRec b r).pgu.retention = s.pgu.retention := rfl
@[simp] theorem State.setBadgeRec_pgu_nextNumber (b : BadgeIx) (r : BadgeRec) (s : State) : (s.setBadgeRec b r).pgu.nextNumber = s.pgu.nextNumber := rfl
@[simp] theorem State.setBadgeRec_pgu_order (b : BadgeIx) (r : BadgeRec) (s : State) : (s.setBadgeRec b r).pgu.order = s.pgu.order := rfl
@[simp] theorem State.setBadgeRec_pgu_linkUp (b : BadgeIx) (r : BadgeRec) (s : State) : (s.setBadgeRec b r).pgu.linkUp = s.pgu.linkUp := rfl
@[simp] theorem State.setBadgeRec_pgu_failures (b : BadgeIx) (r : BadgeRec) (s : State) : (s.setBadgeRec b r).pgu.failures = s.pgu.failures := rfl
@[simp] theorem State.setBadgeRec_pgu_retryLeft (b : BadgeIx) (r : BadgeRec) (s : State) : (s.setBadgeRec b r).pgu.retryLeft = s.pgu.retryLeft := rfl
@[simp] theorem State.setBadgeRec_pgu_inFlight (b : BadgeIx) (r : BadgeRec) (s : State) : (s.setBadgeRec b r).pgu.inFlight = s.pgu.inFlight := rfl
@[simp] theorem State.setBadgeRec_pgu_sent (b : BadgeIx) (r : BadgeRec) (s : State) : (s.setBadgeRec b r).pgu.sent = s.pgu.sent := rfl
@[simp] theorem State.setBadgeRec_pgu_badges (b : BadgeIx) (r : BadgeRec) (s : State) : (s.setBadgeRec b r).pgu.badges = s.pgu.badges.set b r := rfl

/-! ### setFm -/

@[simp] theorem State.setFm_clock (f : Fm) (s : State) : (s.setFm f).clock = s.clock := rfl
@[simp] theorem State.setFm_fse (f : Fm) (s : State) : (s.setFm f).fse = s.fse := rfl
@[simp] theorem State.setFm_hlu (f : Fm) (s : State) : (s.setFm f).hlu = s.hlu := rfl
@[simp] theorem State.setFm_pba (f : Fm) (s : State) : (s.setFm f).pba = s.pba := rfl
@[simp] theorem State.setFm_ppu (f : Fm) (s : State) : (s.setFm f).ppu = s.ppu := rfl
@[simp] theorem State.setFm_dlu (f : Fm) (s : State) : (s.setFm f).dlu = s.dlu := rfl
@[simp] theorem State.setFm_pgu (f : Fm) (s : State) : (s.setFm f).pgu = s.pgu := rfl
@[simp] theorem State.setFm_sp (f : Fm) (s : State) : (s.setFm f).sp = s.sp := rfl
@[simp] theorem State.setFm_pins (f : Fm) (s : State) : (s.setFm f).pins = s.pins := rfl
@[simp] theorem State.setFm_pending (f : Fm) (s : State) : (s.setFm f).pending = s.pending := rfl
@[simp] theorem State.setFm_fm (f : Fm) (s : State) : (s.setFm f).fm = f := rfl

/-! ### setPort -/

@[simp] theorem State.setPort_clock (x : Station) (r : PortRec) (s : State) : (s.setPort x r).clock = s.clock := rfl
@[simp] theorem State.setPort_fse (x : Station) (r : PortRec) (s : State) : (s.setPort x r).fse = s.fse := rfl
@[simp] theorem State.setPort_hlu (x : Station) (r : PortRec) (s : State) : (s.setPort x r).hlu = s.hlu := rfl
@[simp] theorem State.setPort_pba (x : Station) (r : PortRec) (s : State) : (s.setPort x r).pba = s.pba := rfl
@[simp] theorem State.setPort_ppu (x : Station) (r : PortRec) (s : State) : (s.setPort x r).ppu = s.ppu := rfl
@[simp] theorem State.setPort_dlu (x : Station) (r : PortRec) (s : State) : (s.setPort x r).dlu = s.dlu := rfl
@[simp] theorem State.setPort_pgu (x : Station) (r : PortRec) (s : State) : (s.setPort x r).pgu = s.pgu := rfl
@[simp] theorem State.setPort_fm (x : Station) (r : PortRec) (s : State) : (s.setPort x r).fm = s.fm := rfl
@[simp] theorem State.setPort_pins (x : Station) (r : PortRec) (s : State) : (s.setPort x r).pins = s.pins := rfl
@[simp] theorem State.setPort_pending (x : Station) (r : PortRec) (s : State) : (s.setPort x r).pending = s.pending := rfl
@[simp] theorem State.setPort_sp_queues (x : Station) (r : PortRec) (s : State) : (s.setPort x r).sp.queues = s.sp.queues := rfl
@[simp] theorem State.setPort_sp_atn (x : Station) (r : PortRec) (s : State) : (s.setPort x r).sp.atn = s.sp.atn := rfl
@[simp] theorem State.setPort_sp_ports (x : Station) (r : PortRec) (s : State) : (s.setPort x r).sp.ports = s.sp.ports.set x r := rfl

/-! ### setQueue -/

@[simp] theorem State.setQueue_clock (x : Station) (q : NoticeQueue) (s : State) : (s.setQueue x q).clock = s.clock := rfl
@[simp] theorem State.setQueue_fse (x : Station) (q : NoticeQueue) (s : State) : (s.setQueue x q).fse = s.fse := rfl
@[simp] theorem State.setQueue_hlu (x : Station) (q : NoticeQueue) (s : State) : (s.setQueue x q).hlu = s.hlu := rfl
@[simp] theorem State.setQueue_pba (x : Station) (q : NoticeQueue) (s : State) : (s.setQueue x q).pba = s.pba := rfl
@[simp] theorem State.setQueue_ppu (x : Station) (q : NoticeQueue) (s : State) : (s.setQueue x q).ppu = s.ppu := rfl
@[simp] theorem State.setQueue_dlu (x : Station) (q : NoticeQueue) (s : State) : (s.setQueue x q).dlu = s.dlu := rfl
@[simp] theorem State.setQueue_pgu (x : Station) (q : NoticeQueue) (s : State) : (s.setQueue x q).pgu = s.pgu := rfl
@[simp] theorem State.setQueue_fm (x : Station) (q : NoticeQueue) (s : State) : (s.setQueue x q).fm = s.fm := rfl
@[simp] theorem State.setQueue_pins (x : Station) (q : NoticeQueue) (s : State) : (s.setQueue x q).pins = s.pins := rfl
@[simp] theorem State.setQueue_pending (x : Station) (q : NoticeQueue) (s : State) : (s.setQueue x q).pending = s.pending := rfl
@[simp] theorem State.setQueue_sp_ports (x : Station) (q : NoticeQueue) (s : State) : (s.setQueue x q).sp.ports = s.sp.ports := rfl
@[simp] theorem State.setQueue_sp_queues (x : Station) (q : NoticeQueue) (s : State) : (s.setQueue x q).sp.queues = s.sp.queues.set x q := rfl
@[simp] theorem State.setQueue_sp_atn (x : Station) (q : NoticeQueue) (s : State) :
    (s.setQueue x q).sp.atn = s.sp.atn.set x (!q.notices.isEmpty) := rfl

/-! ### setAnswer -/

@[simp] theorem State.setAnswer_clock (x : Station) (a : Answer) (s : State) : (s.setAnswer x a).clock = s.clock := rfl
@[simp] theorem State.setAnswer_fse (x : Station) (a : Answer) (s : State) : (s.setAnswer x a).fse = s.fse := rfl
@[simp] theorem State.setAnswer_hlu (x : Station) (a : Answer) (s : State) : (s.setAnswer x a).hlu = s.hlu := rfl
@[simp] theorem State.setAnswer_pba (x : Station) (a : Answer) (s : State) : (s.setAnswer x a).pba = s.pba := rfl
@[simp] theorem State.setAnswer_ppu (x : Station) (a : Answer) (s : State) : (s.setAnswer x a).ppu = s.ppu := rfl
@[simp] theorem State.setAnswer_dlu (x : Station) (a : Answer) (s : State) : (s.setAnswer x a).dlu = s.dlu := rfl
@[simp] theorem State.setAnswer_pgu (x : Station) (a : Answer) (s : State) : (s.setAnswer x a).pgu = s.pgu := rfl
@[simp] theorem State.setAnswer_fm (x : Station) (a : Answer) (s : State) : (s.setAnswer x a).fm = s.fm := rfl
@[simp] theorem State.setAnswer_pins (x : Station) (a : Answer) (s : State) : (s.setAnswer x a).pins = s.pins := rfl
@[simp] theorem State.setAnswer_pending (x : Station) (a : Answer) (s : State) : (s.setAnswer x a).pending = s.pending := rfl
@[simp] theorem State.setAnswer_sp_queues (x : Station) (a : Answer) (s : State) : (s.setAnswer x a).sp.queues = s.sp.queues := rfl
@[simp] theorem State.setAnswer_sp_atn (x : Station) (a : Answer) (s : State) : (s.setAnswer x a).sp.atn = s.sp.atn := rfl
@[simp] theorem State.setAnswer_sp_ports (x : Station) (a : Answer) (s : State) : (s.setAnswer x a).sp.ports = s.sp.ports.set x { s.sp.ports[x] with answer := some a } := rfl

/-! ### setCount -/

@[simp] theorem State.setCount_clock (w : WarmerIx) (n : Nat) (s : State) : (s.setCount w n).clock = s.clock := rfl
@[simp] theorem State.setCount_fse (w : WarmerIx) (n : Nat) (s : State) : (s.setCount w n).fse = s.fse := rfl
@[simp] theorem State.setCount_hlu (w : WarmerIx) (n : Nat) (s : State) : (s.setCount w n).hlu = s.hlu := rfl
@[simp] theorem State.setCount_pba (w : WarmerIx) (n : Nat) (s : State) : (s.setCount w n).pba = s.pba := rfl
@[simp] theorem State.setCount_dlu (w : WarmerIx) (n : Nat) (s : State) : (s.setCount w n).dlu = s.dlu := rfl
@[simp] theorem State.setCount_pgu (w : WarmerIx) (n : Nat) (s : State) : (s.setCount w n).pgu = s.pgu := rfl
@[simp] theorem State.setCount_fm (w : WarmerIx) (n : Nat) (s : State) : (s.setCount w n).fm = s.fm := rfl
@[simp] theorem State.setCount_sp (w : WarmerIx) (n : Nat) (s : State) : (s.setCount w n).sp = s.sp := rfl
@[simp] theorem State.setCount_pins (w : WarmerIx) (n : Nat) (s : State) : (s.setCount w n).pins = s.pins := rfl
@[simp] theorem State.setCount_pending (w : WarmerIx) (n : Nat) (s : State) : (s.setCount w n).pending = s.pending := rfl
@[simp] theorem State.setCount_ppu_pools (w : WarmerIx) (n : Nat) (s : State) : (s.setCount w n).ppu.pools = s.ppu.pools := rfl
@[simp] theorem State.setCount_ppu_entries (w : WarmerIx) (n : Nat) (s : State) : (s.setCount w n).ppu.entries = s.ppu.entries := rfl
@[simp] theorem State.setCount_ppu_ageList (w : WarmerIx) (n : Nat) (s : State) : (s.setCount w n).ppu.ageList = s.ppu.ageList := rfl
@[simp] theorem State.setCount_ppu_nextCreation (w : WarmerIx) (n : Nat) (s : State) : (s.setCount w n).ppu.nextCreation = s.ppu.nextCreation := rfl

/-! ### coolWarmer -/

@[simp] theorem State.coolWarmer_clock (w : WarmerIx) (s : State) : (s.coolWarmer w).clock = s.clock := rfl
@[simp] theorem State.coolWarmer_fse (w : WarmerIx) (s : State) : (s.coolWarmer w).fse = s.fse := rfl
@[simp] theorem State.coolWarmer_hlu (w : WarmerIx) (s : State) : (s.coolWarmer w).hlu = s.hlu := rfl
@[simp] theorem State.coolWarmer_pba (w : WarmerIx) (s : State) : (s.coolWarmer w).pba = s.pba := rfl
@[simp] theorem State.coolWarmer_dlu (w : WarmerIx) (s : State) : (s.coolWarmer w).dlu = s.dlu := rfl
@[simp] theorem State.coolWarmer_pgu (w : WarmerIx) (s : State) : (s.coolWarmer w).pgu = s.pgu := rfl
@[simp] theorem State.coolWarmer_fm (w : WarmerIx) (s : State) : (s.coolWarmer w).fm = s.fm := rfl
@[simp] theorem State.coolWarmer_sp (w : WarmerIx) (s : State) : (s.coolWarmer w).sp = s.sp := rfl
@[simp] theorem State.coolWarmer_pins (w : WarmerIx) (s : State) : (s.coolWarmer w).pins = s.pins := rfl
@[simp] theorem State.coolWarmer_pending (w : WarmerIx) (s : State) : (s.coolWarmer w).pending = s.pending := rfl
@[simp] theorem State.coolWarmer_ppu_pools (w : WarmerIx) (s : State) : (s.coolWarmer w).ppu.pools = s.ppu.pools := rfl
@[simp] theorem State.coolWarmer_ppu_entries (w : WarmerIx) (s : State) : (s.coolWarmer w).ppu.entries = s.ppu.entries := rfl
@[simp] theorem State.coolWarmer_ppu_ageList (w : WarmerIx) (s : State) : (s.coolWarmer w).ppu.ageList = s.ppu.ageList := rfl
@[simp] theorem State.coolWarmer_ppu_nextCreation (w : WarmerIx) (s : State) : (s.coolWarmer w).ppu.nextCreation = s.ppu.nextCreation := rfl
@[simp] theorem State.coolWarmer_ppu_warmers (w : WarmerIx) (s : State) : (s.coolWarmer w).ppu.warmers = s.ppu.warmers.set w (s.ppu.warmers[w]).cooled := rfl

/-! ### onChan -/

@[simp] theorem State.onChan_clock (c : Chan) (f : ChanRec → ChanRec) (s : State) : (s.onChan c f).clock = s.clock := rfl
@[simp] theorem State.onChan_hlu (c : Chan) (f : ChanRec → ChanRec) (s : State) : (s.onChan c f).hlu = s.hlu := rfl
@[simp] theorem State.onChan_pba (c : Chan) (f : ChanRec → ChanRec) (s : State) : (s.onChan c f).pba = s.pba := rfl
@[simp] theorem State.onChan_ppu (c : Chan) (f : ChanRec → ChanRec) (s : State) : (s.onChan c f).ppu = s.ppu := rfl
@[simp] theorem State.onChan_dlu (c : Chan) (f : ChanRec → ChanRec) (s : State) : (s.onChan c f).dlu = s.dlu := rfl
@[simp] theorem State.onChan_pgu (c : Chan) (f : ChanRec → ChanRec) (s : State) : (s.onChan c f).pgu = s.pgu := rfl
@[simp] theorem State.onChan_fm (c : Chan) (f : ChanRec → ChanRec) (s : State) : (s.onChan c f).fm = s.fm := rfl
@[simp] theorem State.onChan_sp (c : Chan) (f : ChanRec → ChanRec) (s : State) : (s.onChan c f).sp = s.sp := rfl
@[simp] theorem State.onChan_pins (c : Chan) (f : ChanRec → ChanRec) (s : State) : (s.onChan c f).pins = s.pins := rfl
@[simp] theorem State.onChan_pending (c : Chan) (f : ChanRec → ChanRec) (s : State) : (s.onChan c f).pending = s.pending := rfl
@[simp] theorem State.onChan_fse_steps (c : Chan) (f : ChanRec → ChanRec) (s : State) : (s.onChan c f).fse.steps = s.fse.steps := rfl
@[simp] theorem State.onChan_fse_entryWaiters (c : Chan) (f : ChanRec → ChanRec) (s : State) : (s.onChan c f).fse.entryWaiters = s.fse.entryWaiters := rfl
@[simp] theorem State.onChan_fse_entryServed (c : Chan) (f : ChanRec → ChanRec) (s : State) : (s.onChan c f).fse.entryServed = s.fse.entryServed := rfl
@[simp] theorem State.onChan_fse_placeWaiters (c : Chan) (f : ChanRec → ChanRec) (s : State) : (s.onChan c f).fse.placeWaiters = s.fse.placeWaiters := rfl
@[simp] theorem State.onChan_fse_placeServed (c : Chan) (f : ChanRec → ChanRec) (s : State) : (s.onChan c f).fse.placeServed = s.fse.placeServed := rfl
@[simp] theorem State.onChan_fse_channels (c : Chan) (f : ChanRec → ChanRec) (s : State) : (s.onChan c f).fse.channels = s.fse.channels.set c (f s.fse.channels[c]) := rfl

/-! ### restartInterval -/

@[simp] theorem State.restartInterval_clock (s : State) : (s.restartInterval).clock = s.clock := rfl
@[simp] theorem State.restartInterval_fse (s : State) : (s.restartInterval).fse = s.fse := rfl
@[simp] theorem State.restartInterval_hlu (s : State) : (s.restartInterval).hlu = s.hlu := rfl
@[simp] theorem State.restartInterval_ppu (s : State) : (s.restartInterval).ppu = s.ppu := rfl
@[simp] theorem State.restartInterval_dlu (s : State) : (s.restartInterval).dlu = s.dlu := rfl
@[simp] theorem State.restartInterval_pgu (s : State) : (s.restartInterval).pgu = s.pgu := rfl
@[simp] theorem State.restartInterval_fm (s : State) : (s.restartInterval).fm = s.fm := rfl
@[simp] theorem State.restartInterval_sp (s : State) : (s.restartInterval).sp = s.sp := rfl
@[simp] theorem State.restartInterval_pins (s : State) : (s.restartInterval).pins = s.pins := rfl
@[simp] theorem State.restartInterval_pending (s : State) : (s.restartInterval).pending = s.pending := rfl
@[simp] theorem State.restartInterval_pba_timerLeft (s : State) : (s.restartInterval).pba.timerLeft = s.pba.interval := rfl

/-! ### An event in progress -/

@[simp] theorem Ev.start_s (s : State) : (Ev.start s).s = s := rfl
@[simp] theorem Ev.start_work (s : State) : (Ev.start s).work = [] := rfl
@[simp] theorem Ev.start_begun (s : State) : (Ev.start s).begun = [] := rfl
@[simp] theorem Ev.start_again (s : State) : (Ev.start s).again = [] := rfl
@[simp] theorem Ev.on_s (f : State → State) (e : Ev) : (e.on f).s = f e.s := rfl
@[simp] theorem Ev.on_work (f : State → State) (e : Ev) : (e.on f).work = e.work := rfl
@[simp] theorem Ev.on_begun (f : State → State) (e : Ev) : (e.on f).begun = e.begun := rfl
@[simp] theorem Ev.on_again (f : State → State) (e : Ev) : (e.on f).again = e.again := rfl
@[simp] theorem Ev.hand_s (r : Report) (e : Ev) : (e.hand r).s = e.s := rfl
@[simp] theorem Ev.hand_work (r : Report) (e : Ev) : (e.hand r).work = e.work ++ [r] := rfl
@[simp] theorem Ev.hand_begun (r : Report) (e : Ev) : (e.hand r).begun = e.begun := rfl
@[simp] theorem Ev.hand_again (r : Report) (e : Ev) : (e.hand r).again = e.again := rfl
@[simp] theorem Ev.handFirst_s (r : Report) (e : Ev) : (e.handFirst r).s = e.s := rfl
@[simp] theorem Ev.handFirst_work (r : Report) (e : Ev) : (e.handFirst r).work = r :: e.work := rfl

end Sys2Proof.Machine
end

