-- ==== Sys2Proof/Laws/Ops.lean ====
section
/-! SUPPORT. Sys2Proof/Laws/Ops.lean: index operands, how an event closes, the notice queues and the small list operations. -/

namespace Sys2Proof.Machine

open Sys2Proof

/-! ### Index operands (R206) -/

theorem index_eq_some {n v : Nat} (i : Fin n) (h : v = i.val) : index n v = some i := by
  subst h; simp [index, i.isLt]

theorem index_eq_none {n v : Nat} (h : n ≤ v) : index n v = none := by
  simp [index, Nat.not_lt.mpr h]

theorem withIndex_some {n v : Nat} (i : Fin n) (h : v = i.val) (e : Ev) (f : Fin n → Ev × Response) :
    withIndex v e f = f i := by
  simp [withIndex, index_eq_some i h]

theorem withIndex_none {n v : Nat} (h : n ≤ v) (e : Ev) (f : Fin n → Ev × Response) :
    withIndex v e f = (e, refuse .badArgument) := by
  simp [withIndex, index_eq_none h]

theorem readIndex_some {n v : Nat} (i : Fin n) (h : v = i.val) (f : Fin n → Response) : readIndex v f = f i := by
  simp [readIndex, index_eq_some i h]

theorem readIndex_none {n v : Nat} (h : n ≤ v) (f : Fin n → Response) : readIndex v f = refuse .badArgument := by
  simp [readIndex, index_eq_none h]

/-! ### Closing an event -/

/-- An event that has handed nothing on is finished as it stands. -/
theorem Ev.drain_quiet (n : Nat) {e : Ev} (h : e.work = []) : e.drain n = e := by
  cases n with
  | zero => rfl
  | succ n => simp [Ev.drain, h]

theorem Ev.finish_quiet {e : Ev} (h : e.work = []) : e.finish = e.s := by
  rw [Ev.finish, Ev.drain_quiet _ h]

/-- One report is taken, and the rest of the event follows. -/
theorem Ev.drain_cons (n : Nat) {e : Ev} {r : Report} {w : List Report} (h : e.work = r :: w) :
    e.drain (n + 1) = Ev.drain n (Ev.take r { e with work := w }) := by
  simp [Ev.drain, h]

theorem concluded_quiet (x : Station) (code : Byte) (e : Ev) (r : Response) (h : e.work = []) :
    concluded x code (e, r) = .next (e.s.setAnswer x ⟨code, r⟩) := by
  simp [concluded, Ev.finish_quiet h]

theorem happened_quiet (e : Ev) (h : e.work = []) : happened e = .next e.s := by
  simp [happened, Ev.finish_quiet h]

/-- A refused command, and any other that hands on the event it found, changes nothing but the answer. -/
theorem concluded_start (x : Station) (code : Byte) (s : State) (r : Response) :
    concluded x code (Ev.start s, r) = .next (s.setAnswer x ⟨code, r⟩) := concluded_quiet x code _ r rfl

/-! ### Notices (R210, R211) -/

theorem State.postNotice_room {x : Station} {s : State} (h : (s.sp.queues[x]).notices.length < 16) (n : Notice) :
    s.postNotice x n = s.setQueue x { s.sp.queues[x] with notices := (s.sp.queues[x]).notices ++ [n] } := by
  simp only [State.postNotice, State.noticeRoom, Config.noticeRoom, h, decide_true, if_true]

theorem State.postNotice_full {x : Station} {s : State} (h : 16 ≤ (s.sp.queues[x]).notices.length) (n : Notice) :
    s.postNotice x n = s.setQueue x { s.sp.queues[x] with overflow := true } := by
  simp only [State.postNotice, State.noticeRoom, Config.noticeRoom, Nat.not_lt.mpr h, decide_false, Bool.false_eq_true, if_false]

/-- Posting a notice sets one queue and the line of its station, and nothing else. -/
theorem State.postNotice_cases (x : Station) (n : Notice) (s : State) :
    ∃ q, s.postNotice x n = s.setQueue x q ∧ q.waiting = (s.sp.queues[x]).waiting ∧ q.served = (s.sp.queues[x]).served := by
  unfold State.postNotice
  split
  · exact ⟨_, rfl, rfl, rfl⟩
  · exact ⟨_, rfl, rfl, rfl⟩

/-! ### Lists -/

theorem mem_insertBy {α : Type} (before : α → α → Bool) (x y : α) (l : List α) :
    y ∈ insertBy before x l ↔ y = x ∨ y ∈ l := by
  induction l with
  | nil => simp [insertBy]
  | cons a l ih =>
    simp only [insertBy]
    split
    · simp
    · simp only [List.mem_cons, ih]; tauto

theorem length_insertBy {α : Type} (before : α → α → Bool) (x : α) (l : List α) :
    (insertBy before x l).length = l.length + 1 := by
  induction l with
  | nil => rfl
  | cons a l ih =>
    simp only [insertBy]
    split
    · rfl
    · simp [ih]

end Sys2Proof.Machine
end

