-- ==== Sys2Proof/Laws/Frames.lean ====
section
/-! SUPPORT. Sys2Proof/Laws/Frames.lean: which blocks each shared operation leaves alone. `State.desk` is all but the paging unit, the
fault monitor and the ports; `State.still` is what no report that the engine takes can change. -/

namespace Sys2Proof.Machine

open Sys2Proof

/-! ### What paging and fault reports leave alone -/

/-- All of the state but the Paging Unit, the Fault Monitor and the Station Ports. -/
def State.desk (s : State) : Nat × Fse × Hlu × Pba × Ppu × Dlu × Pins × List Instr :=
  (s.clock, s.fse, s.hlu, s.pba, s.ppu, s.dlu, s.pins, s.pending)

theorem State.desk_eq {s t : State} (h : t.desk = s.desk) :
    t.clock = s.clock ∧ t.fse = s.fse ∧ t.hlu = s.hlu ∧ t.pba = s.pba ∧ t.ppu = s.ppu ∧ t.dlu = s.dlu ∧ t.pins = s.pins
      ∧ t.pending = s.pending := by
  simpa [State.desk] using h

@[simp] theorem State.setPgu_desk (p : Pgu) (s : State) : (s.setPgu p).desk = s.desk := rfl
@[simp] theorem State.setBadgeRec_desk (b : BadgeIx) (r : BadgeRec) (s : State) : (s.setBadgeRec b r).desk = s.desk := rfl
@[simp] theorem State.setFm_desk (f : Fm) (s : State) : (s.setFm f).desk = s.desk := rfl
@[simp] theorem State.setQueue_desk (x : Station) (q : NoticeQueue) (s : State) : (s.setQueue x q).desk = s.desk := rfl
@[simp] theorem State.setPort_desk (x : Station) (r : PortRec) (s : State) : (s.setPort x r).desk = s.desk := rfl
@[simp] theorem State.setAnswer_desk (x : Station) (a : Answer) (s : State) : (s.setAnswer x a).desk = s.desk := rfl

@[simp] theorem State.postNotice_desk (x : Station) (n : Notice) (s : State) : (s.postNotice x n).desk = s.desk := by
  unfold State.postNotice; split <;> rfl

@[simp] theorem Ev.reportPageEnd_desk (p : PageRec) (o : PageOutcome) (tell : Bool) (e : Ev) :
    (e.reportPageEnd p o tell).s.desk = e.s.desk := by
  unfold Ev.reportPageEnd; split <;> (try split) <;> simp

@[simp] theorem Ev.endPage_desk (p : PageRec) (o : PageOutcome) (tell : Bool) (e : Ev) :
    (e.endPage p o tell).s.desk = e.s.desk := by simp [Ev.endPage]

@[simp] theorem Ev.requeue_desk (p : PageRec) (e : Ev) : (e.requeue p).s.desk = e.s.desk := by simp [Ev.requeue]

@[simp] theorem Ev.withoutRecipient_desk (p : PageRec) (e : Ev) : (e.withoutRecipient p).s.desk = e.s.desk := by
  unfold Ev.withoutRecipient; split <;> simp

@[simp] theorem Ev.becomeSent_desk (p : PageRec) (e : Ev) : (e.becomeSent p).s.desk = e.s.desk := by
  unfold Ev.becomeSent; split <;> simp

@[simp] theorem Ev.settlePage_desk (p : PageRec) (e : Ev) : (e.settlePage p).s.desk = e.s.desk := by
  unfold Ev.settlePage; split <;> (try split) <;> simp

@[simp] theorem Ev.selectHead_desk (h : PageRec) (e : Ev) : (e.selectHead h).s.desk = e.s.desk := by
  simp [Ev.selectHead]

@[simp] theorem Ev.transmit_desk (p : PageRec) (b : BadgeIx) (e : Ev) : (e.transmit p b).s.desk = e.s.desk := by
  simp [Ev.transmit]

@[simp] theorem Ev.selectFrom_desk (n : Nat) (e : Ev) : (e.selectFrom n).s.desk = e.s.desk := by
  induction n generalizing e with
  | zero => rfl
  | succ n ih =>
    unfold Ev.selectFrom
    split
    · simp [ih]
    · split
      · simp [ih]
      · split <;> simp
    · split <;> simp
    · rfl

@[simp] theorem Ev.select_desk (e : Ev) : e.select.s.desk = e.s.desk := by simp [Ev.select]

@[simp] theorem Ev.trySelect_desk (e : Ev) : e.trySelect.s.desk = e.s.desk := by
  unfold Ev.trySelect; split <;> simp

@[simp] theorem Ev.submit_desk (sub : Submission) (o : Originator) (n : Option Station) (r : ReportTo) (e : Ev) :
    (e.submit sub o n r).s.desk = e.s.desk := by simp [Ev.submit]

@[simp] theorem Ev.submitFlow_desk (sub : Submission) (e : Ev) : (e.submitFlow sub).1.s.desk = e.s.desk := by
  unfold Ev.submitFlow; split <;> (try split) <;> simp

@[simp] theorem Ev.submitFault_desk (sub : Submission) (e : Ev) : (e.submitFault sub).1.s.desk = e.s.desk := by
  unfold Ev.submitFault; split <;> (try split) <;> simp

@[simp] theorem Ev.releasePage_desk (c : Chan) (n : Nat) (e : Ev) : (e.releasePage c n).s.desk = e.s.desk := by
  unfold Ev.releasePage; split <;> (try split) <;> (try split) <;> simp

@[simp] theorem State.tellSubscribers_desk (c : Cond) (source : Nat) (s : State) :
    (s.tellSubscribers c source).desk = s.desk := by
  unfold State.tellSubscribers
  suffices h : ∀ (l : List Station) (t : State), (l.foldl (fun (t : State) (x : Station) =>
      if (s.fm.subs[x])[c.group] then t.postNotice x (Fm.faultNotice c source s.clock) else t) t).desk = t.desk from h _ _
  intro l
  induction l with
  | nil => intro t; rfl
  | cons x l ih =>
    intro t
    simp only [List.foldl_cons, ih]
    split <;> simp

@[simp] theorem State.latch_desk (c : Cond) (source : Nat) (s : State) : (s.latch c source).1.desk = s.desk := by
  simp only [State.latch]; split <;> simp

@[simp] theorem Ev.raiseIn_desk (n : Nat) (c : Cond) (source : Nat) (e : Ev) : (e.raiseIn n c source).s.desk = e.s.desk := by
  induction n generalizing c source e with
  | zero => simp [Ev.raiseIn]
  | succ n ih =>
    simp only [Ev.raiseIn]
    split
    · split
      · simp
      · simp [ih]
    · simp

@[simp] theorem Ev.raise_desk (c : Cond) (source : Nat) (e : Ev) : (e.raise c source).s.desk = e.s.desk := by simp [Ev.raise]

@[simp] theorem Ev.condHolds_desk (c : Cond) (source : Nat) (e : Ev) : (e.condHolds c source).s.desk = e.s.desk := by
  unfold Ev.condHolds; simp only; split <;> simp

@[simp] theorem Ev.condEnds_desk (c : Cond) (source : Nat) (e : Ev) : (e.condEnds c source).s.desk = e.s.desk := by
  simp [Ev.condEnds]

end Sys2Proof.Machine
end

