-- ==== Sys2Proof/Laws/Reports.lean ====
section
/-! SUPPORT. Sys2Proof/Laws/Reports.lean: what the reservation table and the engine's taking of reports leave alone. -/

namespace Sys2Proof.Machine

open Sys2Proof

/-- What no report that the engine takes can change: the clock, the probes, the budget, the pool counts, the warmers, the
dish line, the field lines and the queue of commands. -/
def State.still (s : State) :
    Nat × Vector ProbeRec 34 × Nat × Pba × Vector PoolRec 4 × Vector WarmerRec 8 × Dlu × Pins × List Instr :=
  (s.clock, s.hlu.probes, s.hlu.verifyLeft, s.pba, s.ppu.pools, s.ppu.warmers, s.dlu, s.pins, s.pending)

theorem State.still_eq {s t : State} (h : t.still = s.still) :
    t.clock = s.clock ∧ t.hlu.probes = s.hlu.probes ∧ t.hlu.verifyLeft = s.hlu.verifyLeft ∧ t.pba = s.pba
      ∧ t.ppu.pools = s.ppu.pools ∧ t.ppu.warmers = s.ppu.warmers ∧ t.dlu = s.dlu ∧ t.pins = s.pins
      ∧ t.pending = s.pending := by
  simpa [State.still] using h

theorem State.still_of_desk {s t : State} (h : t.desk = s.desk) : t.still = s.still := by
  obtain ⟨h1, h2, h3, h4, h5, h6, h7, h8⟩ := State.desk_eq h
  simp [State.still, h1, h3, h4, h5, h6, h7, h8]

@[simp] theorem State.setStep_still (i : StepIx) (r : StepRec) (s : State) : (s.setStep i r).still = s.still := rfl
@[simp] theorem State.setChan_still (c : Chan) (r : ChanRec) (s : State) : (s.setChan c r).still = s.still := rfl
@[simp] theorem State.onFse_still (f : Fse → Fse) (s : State) : (s.onFse f).still = s.still := rfl
@[simp] theorem State.onChan_still (c : Chan) (f : ChanRec → ChanRec) (s : State) : (s.onChan c f).still = s.still := rfl
@[simp] theorem State.setLoad_still (l : LoadIx) (r : LoadRec) (s : State) : (s.setLoad l r).still = s.still := rfl
@[simp] theorem State.setEntry_still (i : ResIx) (r : Option ResRec) (s : State) : (s.setEntry i r).still = s.still := rfl
@[simp] theorem State.setPgu_still (p : Pgu) (s : State) : (s.setPgu p).still = s.still := rfl
@[simp] theorem State.setFm_still (f : Fm) (s : State) : (s.setFm f).still = s.still := rfl
@[simp] theorem State.setQueue_still (x : Station) (q : NoticeQueue) (s : State) : (s.setQueue x q).still = s.still := rfl
@[simp] theorem State.setPort_still (x : Station) (r : PortRec) (s : State) : (s.setPort x r).still = s.still := rfl
@[simp] theorem State.setAnswer_still (x : Station) (a : Answer) (s : State) : (s.setAnswer x a).still = s.still := rfl

@[simp] theorem State.postNotice_still (x : Station) (n : Notice) (s : State) : (s.postNotice x n).still = s.still :=
  State.still_of_desk (by simp)

@[simp] theorem Ev.endPage_still (p : PageRec) (o : PageOutcome) (tell : Bool) (e : Ev) : (e.endPage p o tell).s.still = e.s.still :=
  State.still_of_desk (by simp)
@[simp] theorem Ev.select_still (e : Ev) : (e.select).s.still = e.s.still :=
  State.still_of_desk (by simp)
@[simp] theorem Ev.trySelect_still (e : Ev) : (e.trySelect).s.still = e.s.still :=
  State.still_of_desk (by simp)
@[simp] theorem Ev.submit_still (sub : Submission) (o : Originator) (n : Option Station) (r : ReportTo) (e : Ev) : (e.submit sub o n r).s.still = e.s.still :=
  State.still_of_desk (by simp)
@[simp] theorem Ev.releasePage_still (c : Chan) (n : Nat) (e : Ev) : (e.releasePage c n).s.still = e.s.still :=
  State.still_of_desk (by simp)
@[simp] theorem Ev.raise_still (c : Cond) (source : Nat) (e : Ev) : (e.raise c source).s.still = e.s.still :=
  State.still_of_desk (by simp)
@[simp] theorem Ev.condHolds_still (c : Cond) (source : Nat) (e : Ev) : (e.condHolds c source).s.still = e.s.still :=
  State.still_of_desk (by simp)
@[simp] theorem Ev.condEnds_still (c : Cond) (source : Nat) (e : Ev) : (e.condEnds c source).s.still = e.s.still :=
  State.still_of_desk (by simp)

/-! ### The reservation table -/

@[simp] theorem State.resNotice_still (i : ResIx) (r : ResRec) (code : NoticeCode) (a b : Nat) (s : State) :
    (s.resNotice i r code a b).still = s.still := by
  unfold State.resNotice; split <;> simp

@[simp] theorem Ev.becomeReady_still (i : ResIx) (r : ResRec) (e : Ev) : (e.becomeReady i r).s.still = e.s.still := by
  unfold Ev.becomeReady; simp only; split <;> simp

@[simp] theorem Ev.evaluateFrom_still (k : Kind) (l : List ResIx) (e : Ev) : (e.evaluateFrom k l).s.still = e.s.still := by
  induction l generalizing e with
  | nil => rfl
  | cons i l ih =>
    unfold Ev.evaluateFrom
    split
    · split
      · split
        · simp [ih]
        · rfl
      · exact ih e
    · exact ih e

@[simp] theorem Ev.evaluate_still (k : Kind) (e : Ev) : (e.evaluate k).s.still = e.s.still := by simp [Ev.evaluate]

@[simp] theorem Ev.endEntry_still (i : ResIx) (r : ResRec) (o : ResEnd) (tell : Bool) (e : Ev) :
    (e.endEntry i r o tell).s.still = e.s.still := by
  unfold Ev.endEntry
  simp only
  split
  · split <;> (simp; rfl)
  · rfl

@[simp] theorem Ev.afterEnd_still (k : Kind) (e : Ev) : (e.afterEnd k).s.still = e.s.still := by simp [Ev.afterEnd]

@[simp] theorem Ev.finishEntry_still (i : ResIx) (r : ResRec) (o : ResEnd) (tell : Bool) (e : Ev) :
    (e.finishEntry i r o tell).s.still = e.s.still := by simp [Ev.finishEntry]

@[simp] theorem Ev.chargeDraw_still (k : Kind) (e : Ev) : (e.chargeDraw k).s.still = e.s.still := by
  unfold Ev.chargeDraw; split <;> (try simp only) <;> (try split) <;> simp

@[simp] theorem Ev.shorten_still (i : ResIx) (r : ResRec) (e : Ev) : (e.shorten i r).1.s.still = e.s.still := by
  unfold Ev.shorten; simp only; split <;> simp

@[simp] theorem Ev.revokeFrom_still (k : Kind) (n : Nat) (e : Ev) : (e.revokeFrom k n).1.s.still = e.s.still := by
  induction n generalizing e with
  | zero => rfl
  | succ n ih =>
    unfold Ev.revokeFrom
    split
    · rfl
    · split
      · simp [ih]
      · split
        · simp [ih]
        · rfl

theorem Ev.times_still (k : Kind) (n : Nat) (e : Ev) : (Ev.times (fun x => x.afterEnd k) n e).s.still = e.s.still := by
  induction n generalizing e with
  | zero => rfl
  | succ n ih => simp [Ev.times, ih]

@[simp] theorem Ev.revoke_still (k : Kind) (e : Ev) : (e.revoke k).s.still = e.s.still := by
  simp [Ev.revoke, Ev.times_still]

@[simp] theorem Ev.createEntry_still (i : ResIx) (k : Kind) (n : Nat) (o : ResOwner) (e : Ev) :
    (e.createEntry i k n o).1.s.still = e.s.still := by
  simp only [Ev.createEntry, Ev.evaluate_still]; rfl

@[simp] theorem Ev.requestPlates_still (c : Chan) (kind : Byte) (n : Nat) (e : Ev) :
    (e.requestPlates c kind n).1.s.still = e.s.still := by
  unfold Ev.requestPlates; split <;> (try split) <;> (try split) <;> simp

@[simp] theorem Ev.cancelEntry_still (i : ResIx) (n : Nat) (e : Ev) : (e.cancelEntry i n).s.still = e.s.still := by
  unfold Ev.cancelEntry; split <;> simp

@[simp] theorem Ev.closeEntry_still (i : ResIx) (n : Nat) (e : Ev) : (e.closeEntry i n).s.still = e.s.still := by
  unfold Ev.closeEntry; split <;> simp

/-! ### The engine -/

@[simp] theorem State.recompute_still (l : LoadIx) (s : State) : (s.recompute l).still = s.still := rfl

@[simp] theorem State.handSetpoint_still (l : LoadIx) (v : Int) (a : Bool) (s : State) :
    (s.handSetpoint l v a).still = s.still := by
  unfold State.handSetpoint; simp only; split <;> simp

@[simp] theorem State.handOven_still (c : Chan) (s : State) : (s.handOven c).still = s.still := by
  unfold State.handOven; simp only; split <;> simp

@[simp] theorem Ev.cancelHeld_still (c : Chan) (e : Ev) : (e.cancelHeld c).s.still = e.s.still := by
  unfold Ev.cancelHeld; split <;> simp

@[simp] theorem Ev.closeHeld_still (c : Chan) (e : Ev) : (e.closeHeld c).s.still = e.s.still := by
  unfold Ev.closeHeld; split <;> simp

@[simp] theorem Ev.releaseHeld_still (c : Chan) (e : Ev) : (e.releaseHeld c).s.still = e.s.still := by
  unfold Ev.releaseHeld; split <;> simp

@[simp] theorem State.releaseWalk_still (c : Chan) (n : Nat) (i : Option StepIx) (s : State) :
    (s.releaseWalk c n i).still = s.still := by
  induction n generalizing i s with
  | zero => cases i <;> rfl
  | succ n ih =>
    cases i with
    | none => rfl
    | some i =>
      simp only [State.releaseWalk]
      split
      · split <;> simp [ih]
      · rfl

@[simp] theorem State.postEnding_still (c : Chan) (i : StepIx) (o : StepOutcome) (s : State) :
    (s.postEnding c i o).still = s.still := by
  unfold State.postEnding
  simp only
  split
  · rfl
  · split <;> simp [State.joinWaiting]

@[simp] theorem Ev.endChain_still (c : Chan) (o : StepOutcome) (b : Bool) (h : Option Int) (w : Option StepIx) (e : Ev) :
    (e.endChain c o b h w).s.still = e.s.still := by
  unfold Ev.endChain
  simp only
  split <;> (cases b <;> simp)

@[simp] theorem State.chanNotice_still (c : Chan) (code : NoticeCode) (x y z : Nat) (s : State) :
    (s.chanNotice c code x y z).still = s.still := by
  unfold State.chanNotice; split <;> simp

@[simp] theorem State.closeStep_still (c : Chan) (i : StepIx) (o : StepOutcome) (s : State) :
    (s.closeStep c i o).still = s.still := by
  unfold State.closeStep; simp only; split <;> simp

@[simp] theorem Ev.skipStep_still (c : Chan) (j : Option StepIx) (e : Ev) : (e.skipStep c j).s.still = e.s.still := by
  unfold Ev.skipStep; split <;> (try simp only) <;> (try split) <;> (try split) <;> simp

@[simp] theorem Ev.endStep_still (c : Chan) (o : StepOutcome) (e : Ev) : (e.endStep c o).s.still = e.s.still := by
  unfold Ev.endStep; split <;> (try simp only) <;> (try split) <;> (try split) <;> simp

@[simp] theorem Ev.endByKind_still (c : Chan) (o : StepOutcome) (e : Ev) : (e.endByKind c o).s.still = e.s.still := by
  unfold Ev.endByKind; split <;> simp

@[simp] theorem Ev.testReading_still (c : Chan) (r : StepRec) (e : Ev) : (e.testReading c r).s.still = e.s.still := by
  unfold Ev.testReading; split <;> simp

@[simp] theorem Ev.askPlates_still (c : Chan) (r : StepRec) (e : Ev) : (e.askPlates c r).s.still = e.s.still := by
  unfold Ev.askPlates; simp only; split <;> (try split) <;> simp

@[simp] theorem Ev.askPage_still (c : Chan) (r : StepRec) (e : Ev) : (e.askPage c r).s.still = e.s.still := by
  unfold Ev.askPage; split <;> (try simp only) <;> (try split) <;> (try split) <;> simp

@[simp] theorem Ev.postNote_still (c : Chan) (i : StepIx) (r : StepRec) (e : Ev) : (e.postNote c i r).s.still = e.s.still := by
  unfold Ev.postNote; split <;> simp

@[simp] theorem Ev.beginKind_still (c : Chan) (i : StepIx) (r : StepRec) (again : Bool) (e : Ev) :
    (e.beginKind c i r again).s.still = e.s.still := by
  unfold Ev.beginKind; split <;> (try split) <;> simp

@[simp] theorem Ev.beginStep_still (c : Chan) (i : StepIx) (e : Ev) : (e.beginStep c i).s.still = e.s.still := by
  simp [Ev.beginStep]

@[simp] theorem Ev.moveOn_still (c : Chan) (j : Option StepIx) (e : Ev) : (e.moveOn c j).s.still = e.s.still := by
  unfold Ev.moveOn; split <;> (try simp only) <;> (try split) <;> (try split) <;> simp

@[simp] theorem Ev.timeout_still (c : Chan) (r : StepRec) (e : Ev) : (e.timeout c r).s.still = e.s.still := by
  unfold Ev.timeout; simp only; split <;> simp

@[simp] theorem State.countSoak_still (c : Chan) (r : StepRec) (s : State) : (s.countSoak c r).still = s.still := by
  unfold State.countSoak; split <;> (try split) <;> (try split) <;> simp

@[simp] theorem Ev.timeSteps_still (c : Chan) (r : StepRec) (e : Ev) : (e.timeSteps c r).s.still = e.s.still := by
  unfold Ev.timeSteps; simp only; split <;> (try split) <;> simp

@[simp] theorem Ev.stepSecond_still (c : Chan) (e : Ev) : (e.stepSecond c).s.still = e.s.still := by
  unfold Ev.stepSecond
  split
  · rfl
  · simp only
    split
    · split
      · split
        · simp
        · split <;> simp
      · simp
    · rfl

@[simp] theorem Ev.ovenFault_still (c : Chan) (e : Ev) : (e.ovenFault c).s.still = e.s.still := by
  unfold Ev.ovenFault; simp only; split <;> (try split) <;> simp

@[simp] theorem Ev.coreFault_still (c : Chan) (e : Ev) : (e.coreFault c).s.still = e.s.still := by
  unfold Ev.coreFault; split <;> (try split) <;> simp

@[simp] theorem Ev.cavityReading_still (c : Chan) (e : Ev) : (e.cavityReading c).s.still = e.s.still := by
  unfold Ev.cavityReading; split <;> (try simp only) <;> (try split) <;> simp

@[simp] theorem Ev.coreReading_still (c : Chan) (e : Ev) : (e.coreReading c).s.still = e.s.still := by
  unfold Ev.coreReading; split <;> (try split) <;> simp

@[simp] theorem Ev.entryReady_still (c : Chan) (i : ResIx) (n : Nat) (e : Ev) : (e.entryReady c i n).s.still = e.s.still := by
  unfold Ev.entryReady; split <;> (try split) <;> simp

@[simp] theorem Ev.entryEnded_still (c : Chan) (i : ResIx) (n : Nat) (b : Bool) (e : Ev) :
    (e.entryEnded c i n b).s.still = e.s.still := by
  unfold Ev.entryEnded; split <;> (try simp only) <;> (try split) <;> (try split) <;> simp

@[simp] theorem Ev.entryFree_still (e : Ev) : e.entryFree.s.still = e.s.still := by
  unfold Ev.entryFree; split <;> (try simp only) <;> (try split) <;> (try split) <;> simp

@[simp] theorem Ev.placeFree_still (e : Ev) : e.placeFree.s.still = e.s.still := by
  unfold Ev.placeFree; split <;> (try simp only) <;> (try split) <;> (try split) <;> simp

@[simp] theorem Ev.pageEnded_still (c : Chan) (n : Nat) (o : PageOutcome) (e : Ev) :
    (e.pageEnded c n o).s.still = e.s.still := by
  unfold Ev.pageEnded; split <;> (try simp only) <;> (try split) <;> (try split) <;> simp

@[simp] theorem Ev.linkLost_still (c : Chan) (x : Station) (e : Ev) : (e.linkLost c x).s.still = e.s.still := by
  unfold Ev.linkLost; split <;> (try split) <;> simp

@[simp] theorem Ev.take_still (r : Report) (e : Ev) : (e.take r).s.still = e.s.still := by
  cases r <;> simp [Ev.take]

@[simp] theorem Ev.drain_still (n : Nat) (e : Ev) : (e.drain n).s.still = e.s.still := by
  induction n generalizing e with
  | zero => rfl
  | succ n ih =>
    unfold Ev.drain
    split
    · rfl
    · simp [ih]

/-- However many reports an event causes, the engine's taking of them changes none of these. -/
@[simp] theorem Ev.finish_still (e : Ev) : e.finish.still = e.s.still := by simp [Ev.finish]

end Sys2Proof.Machine
end

