-- ==== Sys2Proof/Laws/Keeps.lean ====
section
/-! SUPPORT. Sys2Proof/Laws/Keeps.lean: an induction principle for what an event causes. A property of the state that the few primitive
updates keep is kept by paging, fault reports, the reservation table and the engine's taking of every report. -/

namespace Sys2Proof.Machine

open Sys2Proof

/-- The page queue and the retention list are within their bounds (R168, R183). -/
def Pgu.Fits (g : Pgu) : Prop := g.queue.length ≤ 48 ∧ g.retention.length ≤ 8

/-- What no operation of the page queue changes, and, for a property that tells it (`B`), the bounds it keeps. -/
def Pgu.Near (B : Prop) (g h : Pgu) : Prop :=
  (g.badges = h.badges ∧ g.enables = h.enables ∧ g.windows = h.windows ∧ g.linkUp = h.linkUp ∧ g.failures = h.failures
    ∧ g.retryLeft = h.retryLeft) ∧ (B → h.Fits → g.Fits)

/-- A property of the state that the primitive updates behind every report keep. `B` says whether it tells that the page
queue is within its bounds. -/
structure Kept (B : Prop) (P : State → Prop) : Prop where
  bound : B → ∀ s : State, P s → s.pgu.Fits
  onFse : ∀ (f : Fse → Fse) (s : State), P s → P (s.onFse f)
  handSetpoint : ∀ (l : LoadIx) (v : Int) (a : Bool) (s : State), P s → P (s.handSetpoint l v a)
  onPpu : ∀ (p : Ppu) (s : State), p.pools = s.ppu.pools → p.warmers = s.ppu.warmers → P s → P { s with ppu := p }
  postNotice : ∀ (x : Station) (n : Notice) (s : State), P s → P (s.postNotice x n)
  joinWaiting : ∀ (x : Station) (c : Chan) (s : State), P s → P (s.joinWaiting x c)
  setPgu : ∀ (g : Pgu) (s : State), g.Near B s.pgu → P s → P (s.setPgu g)
  latch : ∀ (c : Cond) (source : Nat) (s : State), P s → P (s.latch c source).1
  setActive : ∀ (c : Cond) (l : List Nat) (s : State), P s →
    P (s.setFm (s.fm.setCond c { s.fm.conds[c.index] with active := l }))

/-- The element that `pickFirst` answers is one of the list. -/
theorem pickFirst_mem {α : Type} {before : α → α → Bool} {l : List α} {a : α} (h : pickFirst before l = some a) : a ∈ l := by
  cases l with
  | nil => simp [pickFirst] at h
  | cons b l =>
    simp only [pickFirst, Option.some.injEq] at h
    have key : ∀ (m : List α) (c : α), m.foldl (fun best x => if before x best then x else best) c = c ∨
        m.foldl (fun best x => if before x best then x else best) c ∈ m := by
      intro m
      induction m with
      | nil => intro c; exact .inl rfl
      | cons d m ih =>
        intro c
        rcases ih (if before d c then d else c) with h1 | h1
        · simp only [List.foldl_cons]
          by_cases hd : before d c = true
          · simp only [hd, if_true] at h1 ⊢; exact .inr (by rw [h1]; simp)
          · simp only [hd] at h1 ⊢; exact .inl h1
        · exact .inr (List.mem_cons_of_mem _ h1)
    rcases key l b with h1 | h1
    · rw [← h, h1]; simp
    · rw [← h]; exact List.mem_cons_of_mem _ h1

/-- A page that ends leaves the queue and no more than enters the retention list (R169, R183). -/
theorem Pgu.leave_near (B : Prop) (g : Pgu) (p : PageRec) (o : PageOutcome) (now : Nat) : (g.leave p o now).Near B g := by
  have hq : (g.queue.filter (fun q => decide (q.number ≠ p.number))).length ≤ g.queue.length := List.length_filter_le _ _
  unfold Pgu.leave
  simp only
  split
  · refine ⟨⟨rfl, rfl, rfl, rfl, rfl, rfl⟩, fun _ h => ⟨Nat.le_trans hq h.1, ?_⟩⟩
    have := h.2
    unfold Pgu.retain Config.retentionRoom
    simp only [List.length_append, List.length_cons, List.length_nil]
    by_cases h8 : 8 ≤ g.retention.length
    · simp only [h8, if_true, List.length_drop]; omega
    · simp only [h8, if_false]; omega
  · exact ⟨⟨rfl, rfl, rfl, rfl, rfl, rfl⟩, fun _ h => ⟨Nat.le_trans hq h.1, h.2⟩⟩

theorem Pgu.room_lt {g : Pgu} (h : g.room = true) : g.queue.length < 48 := by
  unfold Pgu.room Config.pageRoom at h
  exact of_decide_eq_true h

/-- What is in the queue after a page has ended. -/
theorem Ev.endPage_queue (p : PageRec) (o : PageOutcome) (tell : Bool) (e : Ev) :
    (e.endPage p o tell).s.pgu.queue = e.s.pgu.queue.filter (fun q => decide (q.number ≠ p.number)) := by
  have hl : (e.s.pgu.leave p o e.s.clock).queue = e.s.pgu.queue.filter (fun q => decide (q.number ≠ p.number)) := by
    unfold Pgu.leave; simp only; split <;> rfl
  unfold Ev.endPage Ev.reportPageEnd
  cases tell
  · exact hl
  · simp only [if_true]
    split
    · exact hl
    · exact (congrArg (fun t : State => t.pgu.queue) (State.postNotice_cases _ _ _).choose_spec.1).trans hl
    · exact hl

theorem Ev.on_keeps {P : State → Prop} {f : State → State} {e : Ev} (h : P (f e.s)) : P (e.on f).s := h

namespace Kept

variable {B : Prop} {P : State → Prop} (k : Kept B P)
include k

theorem setStep (i : StepIx) (r : StepRec) {s : State} (h : P s) : P (s.setStep i r) :=
  k.onFse (fun f => { f with steps := f.steps.set i r }) s h

theorem setChan (c : Chan) (r : ChanRec) {s : State} (h : P s) : P (s.setChan c r) :=
  k.onFse (fun f => { f with channels := f.channels.set c r }) s h

theorem onChan (c : Chan) (f : ChanRec → ChanRec) {s : State} (h : P s) : P (s.onChan c f) := k.setChan c _ h

theorem setEntry (i : ResIx) (r : Option ResRec) {s : State} (h : P s) : P (s.setEntry i r) :=
  k.onPpu { s.ppu with entries := s.ppu.entries.set i r } s rfl rfl h

/-! ### Paging -/

theorem reportPageEnd {p : PageRec} {o : PageOutcome} {tell : Bool} {e : Ev} (h : P e.s) :
    P (e.reportPageEnd p o tell).s := by
  unfold Ev.reportPageEnd
  split
  · split
    · exact h
    · exact k.postNotice _ _ _ h
    · exact h
  · exact h

theorem endPage {p : PageRec} {o : PageOutcome} {tell : Bool} {e : Ev} (h : P e.s) : P (e.endPage p o tell).s :=
  k.reportPageEnd (k.setPgu _ _ (Pgu.leave_near ..) h)

theorem change {n : Nat} {f : PageRec → PageRec} {s : State} (h : P s) : P (s.setPgu (s.pgu.change n f)) :=
  k.setPgu _ _ ⟨⟨rfl, rfl, rfl, rfl, rfl, rfl⟩, fun _ b => by simpa [Pgu.Fits, Pgu.change] using b⟩ h

theorem changeBump {n : Nat} {f : PageRec → PageRec} {s : State} (h : P s) : P (s.setPgu (s.pgu.change n f).bump) :=
  k.setPgu _ _ ⟨⟨rfl, rfl, rfl, rfl, rfl, rfl⟩, fun _ b => by simpa [Pgu.Fits, Pgu.change, Pgu.bump] using b⟩ h

theorem requeue {p : PageRec} {e : Ev} (h : P e.s) : P (e.requeue p).s := k.changeBump h

theorem withoutRecipient {p : PageRec} {e : Ev} (h : P e.s) : P (e.withoutRecipient p).s := by
  unfold Ev.withoutRecipient
  split
  · exact k.requeue h
  · exact k.endPage h

theorem becomeSent {p : PageRec} {e : Ev} (h : P e.s) : P (e.becomeSent p).s := by
  unfold Ev.becomeSent
  split
  · exact k.endPage h
  · exact k.change h

theorem settlePage {p : PageRec} {e : Ev} (h : P e.s) : P (e.settlePage p).s := by
  unfold Ev.settlePage
  split
  · exact k.withoutRecipient h
  · split
    · exact k.becomeSent h
    · exact h

theorem selectHead {p : PageRec} {e : Ev} (h : P e.s) : P (e.selectHead p).s := by
  unfold Ev.selectHead
  exact k.settlePage (k.changeBump h)

theorem transmit {p : PageRec} {b : BadgeIx} {e : Ev} (h : P e.s) : P (e.transmit p b).s :=
  k.setPgu _ _ ⟨⟨rfl, rfl, rfl, rfl, rfl, rfl⟩, fun _ b => b⟩ h

theorem selectFrom (n : Nat) {e : Ev} (h : P e.s) : P (e.selectFrom n).s := by
  induction n generalizing e with
  | zero => exact h
  | succ n ih =>
    unfold Ev.selectFrom
    split
    · exact ih (k.selectHead h)
    · split
      · exact ih (k.selectHead h)
      · split
        · exact k.transmit h
        · exact h
    · split
      · exact k.transmit h
      · exact h
    · exact h

theorem select {e : Ev} (h : P e.s) : P e.select.s := k.selectFrom _ h

theorem trySelect {e : Ev} (h : P e.s) : P e.trySelect.s := by
  unfold Ev.trySelect
  split
  · exact k.select h
  · exact h

/-- A submission, where the queue has room. -/
theorem submit {sub : Submission} {o : Originator} {n : Option Station} {r : ReportTo} {e : Ev}
    (hq : B → e.s.pgu.queue.length < 48) (h : P e.s) : P (e.submit sub o n r).s := by
  refine k.trySelect (k.setPgu _ _ ⟨⟨rfl, rfl, rfl, rfl, rfl, rfl⟩, fun b f => ⟨?_, f.2⟩⟩ h)
  have := hq b
  simp only [Pgu.enter, List.length_append, List.length_cons, List.length_nil]
  omega

theorem submitFlow {sub : Submission} {e : Ev} (h : P e.s) : P (e.submitFlow sub).1.s := by
  unfold Ev.submitFlow
  split
  · exact k.change h
  · split
    · exact k.submit (fun _ => Pgu.room_lt ‹_›) h
    · exact h

/-- A fault page is submitted into room, or into the place of the page it displaces. -/
theorem submitFault {sub : Submission} {e : Ev} (h : P e.s) : P (e.submitFault sub).1.s := by
  unfold Ev.submitFault
  split
  · exact k.submit (fun _ => Pgu.room_lt ‹_›) h
  · split
    · rename_i p hp
      refine k.submit (fun b => ?_) (k.endPage h)
      have hm : p ∈ e.s.pgu.queue := by
        have := pickFirst_mem hp
        simp only [Pgu.inState, List.mem_filter] at this
        exact this.1.1
      have hlt : (e.s.pgu.queue.filter (fun q => decide (q.number ≠ p.number))).length < e.s.pgu.queue.length :=
        List.length_filter_lt_length_iff_exists.mpr ⟨p, hm, by simp⟩
      have := (k.bound b _ h).1
      rw [Ev.endPage_queue]
      omega
    · exact h

theorem releasePage {c : Chan} {n : Nat} {e : Ev} (h : P e.s) : P (e.releasePage c n).s := by
  unfold Ev.releasePage
  split
  · exact h
  · split
    · split
      · exact k.change h
      · exact k.endPage h
    · exact h

/-! ### Fault reports -/

theorem raiseIn (n : Nat) {c : Cond} {source : Nat} {e : Ev} (h : P e.s) : P (e.raiseIn n c source).s := by
  induction n generalizing c source e with
  | zero =>
    simp only [Ev.raiseIn]
    split <;> exact k.latch _ _ _ h
  | succ n ih =>
    simp only [Ev.raiseIn]
    split
    · split
      · exact k.submitFault (k.latch _ _ _ h)
      · exact ih (k.submitFault (k.latch _ _ _ h))
    · exact k.latch _ _ _ h

theorem raise {c : Cond} {source : Nat} {e : Ev} (h : P e.s) : P (e.raise c source).s := k.raiseIn 2 h

theorem condHolds {c : Cond} {source : Nat} {e : Ev} (h : P e.s) : P (e.condHolds c source).s := by
  unfold Ev.condHolds
  simp only
  split
  · exact h
  · exact k.raise (k.setActive _ _ _ h)

theorem condEnds {c : Cond} {source : Nat} {e : Ev} (h : P e.s) : P (e.condEnds c source).s := k.setActive _ _ _ h

/-! ### The reservation table -/

theorem resNotice {i : ResIx} {r : ResRec} {code : NoticeCode} {a b : Nat} {s : State} (h : P s) :
    P (s.resNotice i r code a b) := by
  unfold State.resNotice
  split
  · exact k.postNotice _ _ _ h
  · exact h

theorem becomeReady {i : ResIx} {r : ResRec} {e : Ev} (h : P e.s) : P (e.becomeReady i r).s := by
  unfold Ev.becomeReady
  simp only
  split <;> exact k.resNotice (k.setEntry _ _ h)

theorem evaluateFrom {kind : Kind} (l : List ResIx) {e : Ev} (h : P e.s) : P (e.evaluateFrom kind l).s := by
  induction l generalizing e with
  | nil => exact h
  | cons i l ih =>
    unfold Ev.evaluateFrom
    split
    · split
      · split
        · exact ih (k.becomeReady h)
        · exact h
      · exact ih h
    · exact ih h

theorem evaluate {kind : Kind} {e : Ev} (h : P e.s) : P (e.evaluate kind).s := k.evaluateFrom _ h

theorem endEntry {i : ResIx} {r : ResRec} {o : ResEnd} {tell : Bool} {e : Ev} (h : P e.s) : P (e.endEntry i r o tell).s := by
  have h1 := k.onPpu
    { e.s.ppu with entries := e.s.ppu.entries.set i none, ageList := e.s.ppu.ageList.filter (fun j => decide (j ≠ i)) } e.s rfl rfl h
  unfold Ev.endEntry
  simp only
  split
  · split
    · exact k.resNotice h1
    · exact h1
  · exact h1

theorem afterEnd {kind : Kind} {e : Ev} (h : P e.s) : P (e.afterEnd kind).s := k.evaluate h

theorem finishEntry {i : ResIx} {r : ResRec} {o : ResEnd} {tell : Bool} {e : Ev} (h : P e.s) :
    P (e.finishEntry i r o tell).s := k.afterEnd (k.endEntry h)

theorem chargeDraw {kind : Kind} {e : Ev} (h : P e.s) : P (e.chargeDraw kind).s := by
  unfold Ev.chargeDraw
  split
  · exact h
  · simp only
    split
    · exact k.finishEntry h
    · exact k.setEntry _ _ h

theorem shorten {i : ResIx} {r : ResRec} {e : Ev} (h : P e.s) : P (e.shorten i r).1.s := by
  unfold Ev.shorten
  simp only
  split
  · exact k.endEntry (k.raise (k.setEntry _ _ h))
  · exact k.raise (k.setEntry _ _ h)

theorem revokeFrom {kind : Kind} (n : Nat) {e : Ev} (h : P e.s) : P (e.revokeFrom kind n).1.s := by
  induction n generalizing e with
  | zero => exact h
  | succ n ih =>
    unfold Ev.revokeFrom
    split
    · exact h
    · split
      · exact ih (k.resNotice (k.setEntry _ _ h))
      · split
        · exact ih (k.shorten h)
        · exact h

theorem times {kind : Kind} (n : Nat) {e : Ev} (h : P e.s) : P (Ev.times (fun x => x.afterEnd kind) n e).s := by
  induction n generalizing e with
  | zero => exact h
  | succ n ih => exact ih (k.afterEnd h)

theorem revoke {kind : Kind} {e : Ev} (h : P e.s) : P (e.revoke kind).s := k.times _ (k.revokeFrom _ h)

theorem createEntry {i : ResIx} {kind : Kind} {n : Nat} {o : ResOwner} {e : Ev} (h : P e.s) :
    P (e.createEntry i kind n o).1.s := by
  unfold Ev.createEntry
  exact k.evaluate (k.onPpu
    { e.s.ppu with
      entries := e.s.ppu.entries.set i (some
        { kind := kind, count := n, requested := n, drawn := 0, owner := o, state := .waiting, shortened := false
          creation := e.s.ppu.nextCreation, createdAt := e.s.clock })
      ageList := e.s.ppu.ageList ++ [i], nextCreation := (e.s.ppu.nextCreation + 1) % 65536 } e.s rfl rfl h)

theorem requestPlates {c : Chan} {kind : Byte} {n : Nat} {e : Ev} (h : P e.s) : P (e.requestPlates c kind n).1.s := by
  unfold Ev.requestPlates
  split
  · exact h
  · split
    · exact h
    · split
      · exact h
      · exact k.createEntry h

theorem cancelEntry {i : ResIx} {n : Nat} {e : Ev} (h : P e.s) : P (e.cancelEntry i n).s := by
  unfold Ev.cancelEntry
  split
  · exact k.finishEntry h
  · exact h

theorem closeEntry {i : ResIx} {n : Nat} {e : Ev} (h : P e.s) : P (e.closeEntry i n).s := by
  unfold Ev.closeEntry
  split
  · exact k.finishEntry h
  · exact h

/-! ### The engine -/

theorem handOven {c : Chan} {s : State} (h : P s) : P (s.handOven c) := by
  unfold State.handOven
  simp only
  split <;> exact k.handSetpoint _ _ _ _ h

theorem cancelHeld {c : Chan} {e : Ev} (h : P e.s) : P (e.cancelHeld c).s := by
  unfold Ev.cancelHeld
  split
  · exact k.cancelEntry (Ev.on_keeps (k.onChan _ _ h))
  · exact h

theorem closeHeld {c : Chan} {e : Ev} (h : P e.s) : P (e.closeHeld c).s := by
  unfold Ev.closeHeld
  split
  · exact k.closeEntry (Ev.on_keeps (k.onChan _ _ h))
  · exact h

theorem releaseHeld {c : Chan} {e : Ev} (h : P e.s) : P (e.releaseHeld c).s := by
  unfold Ev.releaseHeld
  split
  · exact k.releasePage (Ev.on_keeps (k.onChan _ _ h))
  · exact h

theorem releaseWalk {c : Chan} (n : Nat) {i : Option StepIx} {s : State} (h : P s) : P (s.releaseWalk c n i) := by
  induction n generalizing i s with
  | zero => cases i <;> exact h
  | succ n ih =>
    cases i with
    | none => exact h
    | some i =>
      simp only [State.releaseWalk]
      split
      · split
        · exact k.setStep _ _ h
        · exact ih (k.setStep _ _ h)
      · exact h

theorem postEnding {c : Chan} {i : StepIx} {o : StepOutcome} {s : State} (h : P s) : P (s.postEnding c i o) := by
  unfold State.postEnding
  simp only
  split
  · exact h
  · split
    · exact k.setChan _ _ (k.postNotice _ _ _ h)
    · exact k.setChan _ _ (k.joinWaiting _ _ _ h)

theorem endChain {c : Chan} {o : StepOutcome} {byEnd : Bool} {at_ : Option Int} {walk : Option StepIx} {e : Ev} (h : P e.s) :
    P (e.endChain c o byEnd at_ walk).s := by
  have h1 : P (if byEnd then e else e.on (State.releaseWalk c 513 walk)).s := by
    cases byEnd
    · exact k.releaseWalk _ h
    · exact h
  have h2 : ∀ f : State → State, (∀ t, P t → P (f t)) →
      P ((((((if byEnd then e else e.on (State.releaseWalk c 513 walk)).on f).cancelHeld c).on
        (State.onFse (fun f => (f.leaveEntry c).leavePlace c))).releaseHeld c)).s :=
    fun f hf => k.releaseHeld (Ev.on_keeps (k.onFse _ _ (k.cancelHeld (Ev.on_keeps (hf _ h1)))))
  have h3 := h2 _ (fun t ht => k.handOven (c := c) (k.onChan c (fun ch => { ch.entering o byEnd at_ with
      current := none, prefetched := none, stepTimer := false, repeated := false, delayedEnd := none }) ht))
  unfold Ev.endChain
  simp only
  split
  · exact k.postEnding h3
  · exact h3

theorem chanNotice {c : Chan} {code : NoticeCode} {x y z : Nat} {s : State} (h : P s) : P (s.chanNotice c code x y z) := by
  unfold State.chanNotice
  split
  · exact k.postNotice _ _ _ h
  · exact h

theorem closeStep {c : Chan} {i : StepIx} {o : StepOutcome} {s : State} (h : P s) : P (s.closeStep c i o) := by
  unfold State.closeStep
  simp only
  split
  · exact k.chanNotice (k.onChan _ _ (k.setStep _ _ h))
  · exact k.onChan _ _ (k.setStep _ _ h)

theorem skipStep {c : Chan} {j : Option StepIx} {e : Ev} (h : P e.s) : P (e.skipStep c j).s := by
  unfold Ev.skipStep
  split
  · exact k.endChain h
  · simp only
    split
    · exact k.endChain h
    · split
      · exact k.endChain h
      · exact k.setStep _ _ h

theorem endStep {c : Chan} {o : StepOutcome} {e : Ev} (h : P e.s) : P (e.endStep c o).s := by
  unfold Ev.endStep
  split
  · exact h
  · simp only
    split
    · split
      · exact k.skipStep (k.closeStep h)
      · exact k.closeStep h
    · exact k.endChain (k.closeStep h)

theorem endByKind {c : Chan} {o : StepOutcome} {e : Ev} (h : P e.s) : P (e.endByKind c o).s := by
  unfold Ev.endByKind
  split
  · exact Ev.on_keeps (k.onChan _ _ h)
  · exact k.endStep h

theorem testReading {c : Chan} {r : StepRec} {e : Ev} (h : P e.s) : P (e.testReading c r).s := by
  unfold Ev.testReading
  split
  · exact k.endByKind h
  · exact h

theorem askPlates {c : Chan} {r : StepRec} {e : Ev} (h : P e.s) : P (e.askPlates c r).s := by
  unfold Ev.askPlates
  simp only
  split
  · exact k.endByKind (k.requestPlates h)
  · exact Ev.on_keeps (k.onFse _ _ (k.requestPlates h))
  · split
    · exact k.endByKind (Ev.on_keeps (k.onChan _ _ (k.requestPlates h)))
    · exact Ev.on_keeps (k.onChan _ _ (k.requestPlates h))

theorem askPage {c : Chan} {r : StepRec} {e : Ev} (h : P e.s) : P (e.askPage c r).s := by
  unfold Ev.askPage
  split
  · exact h
  · simp only
    split
    · rename_i hr
      split
      · exact k.submit (fun _ => Pgu.room_lt hr) (Ev.on_keeps (k.onChan _ _ h))
      · exact k.endByKind (k.submit (fun _ => Pgu.room_lt hr) h)
    · exact Ev.on_keeps (k.onFse _ _ h)

theorem postNote {c : Chan} {i : StepIx} {r : StepRec} {e : Ev} (h : P e.s) : P (e.postNote c i r).s :=
  k.endStep (k.chanNotice h)

theorem beginKind {c : Chan} {i : StepIx} {r : StepRec} {again : Bool} {e : Ev} (h : P e.s) :
    P (e.beginKind c i r again).s := by
  unfold Ev.beginKind
  split
  · exact k.testReading h
  · exact k.testReading h
  · exact k.testReading h
  · exact k.askPlates (k.cancelHeld h)
  · split
    · exact k.endByKind h
    · exact h
  · exact k.askPage h
  · split
    · exact h
    · exact k.postNote h
  · exact k.endByKind h

theorem beginStep {c : Chan} {i : StepIx} {e : Ev} (h : P e.s) : P (e.beginStep c i).s := by
  unfold Ev.beginStep
  exact k.beginKind (k.handOven (k.onChan _ _ (k.setStep _ _ h)))

theorem moveOn {c : Chan} {j : Option StepIx} {e : Ev} (h : P e.s) : P (e.moveOn c j).s := by
  unfold Ev.moveOn
  split
  · exact k.endChain h
  · simp only
    split
    · exact k.endChain h
    · split
      · exact k.endChain h
      · exact k.beginStep h

theorem timeout {c : Chan} {r : StepRec} {e : Ev} (h : P e.s) : P (e.timeout c r).s := by
  unfold Ev.timeout
  refine k.endStep ?_
  split
  · exact Ev.on_keeps (k.onFse _ _ (k.cancelHeld h))
  · exact k.closeHeld h
  · exact k.releaseHeld (Ev.on_keeps (k.onFse _ _ h))
  all_goals exact h

theorem countSoak {c : Chan} {r : StepRec} {s : State} (h : P s) : P (s.countSoak c r) := by
  unfold State.countSoak
  split
  · split
    · split
      · exact k.onChan _ _ h
      · exact h
    · exact h
  · exact h

theorem timeSteps {c : Chan} {r : StepRec} {e : Ev} (h : P e.s) : P (e.timeSteps c r).s := by
  unfold Ev.timeSteps
  simp only
  split
  · exact k.endStep (k.countSoak h)
  · split
    · exact k.timeout (k.countSoak h)
    · exact k.countSoak h

theorem stepSecond {c : Chan} {e : Ev} (h : P e.s) : P (e.stepSecond c).s := by
  unfold Ev.stepSecond
  split
  · exact h
  · simp only
    split
    · split
      · split
        · exact k.postNote (Ev.on_keeps (k.onChan _ _ h))
        · split
          · exact k.endStep (Ev.on_keeps (k.onChan _ _ h))
          · exact k.timeSteps (Ev.on_keeps (k.onChan _ _ h))
      · exact k.timeSteps (Ev.on_keeps (k.onChan _ _ h))
    · exact h

theorem ovenFault {c : Chan} {e : Ev} (h : P e.s) : P (e.ovenFault c).s := by
  unfold Ev.ovenFault
  simp only
  split
  · exact k.endStep h
  · split
    · exact k.postEnding (k.handOven (k.onChan _ _ h))
    · exact k.handOven (k.onChan _ _ h)
  · exact h
  · exact h

theorem coreFault {c : Chan} {e : Ev} (h : P e.s) : P (e.coreFault c).s := by
  unfold Ev.coreFault
  split
  · split
    · exact k.endStep h
    · exact h
  · exact h

theorem cavityReading {c : Chan} {e : Ev} (h : P e.s) : P (e.cavityReading c).s := by
  unfold Ev.cavityReading
  split
  · simp only
    split
    · exact k.testReading (Ev.on_keeps (k.onChan _ _ h))
    · exact Ev.on_keeps (k.onChan _ _ h)
  all_goals exact h

theorem coreReading {c : Chan} {e : Ev} (h : P e.s) : P (e.coreReading c).s := by
  unfold Ev.coreReading
  split
  · split
    · exact k.testReading h
    · exact h
  · exact h

theorem entryReady {c : Chan} {i : ResIx} {n : Nat} {e : Ev} (h : P e.s) : P (e.entryReady c i n).s := by
  unfold Ev.entryReady
  split
  · split
    · exact k.endByKind h
    · exact h
  · exact h

theorem entryEnded {c : Chan} {i : ResIx} {n : Nat} {b : Bool} {e : Ev} (h : P e.s) : P (e.entryEnded c i n b).s := by
  unfold Ev.entryEnded
  split
  · simp only
    split
    · split
      · exact k.endByKind (Ev.on_keeps (k.onChan _ _ h))
      · exact Ev.on_keeps (k.onChan _ _ h)
    · exact Ev.on_keeps (k.onChan _ _ h)
  · exact h

theorem entryFree {e : Ev} (h : P e.s) : P e.entryFree.s := by
  unfold Ev.entryFree
  split
  · exact h
  · simp only
    split
    · split
      · exact k.askPlates (Ev.on_keeps (k.onFse _ _ h))
      · exact Ev.on_keeps (k.onFse _ _ h)
    · exact Ev.on_keeps (k.onFse _ _ h)

theorem placeFree {e : Ev} (h : P e.s) : P e.placeFree.s := by
  unfold Ev.placeFree
  split
  · exact h
  · simp only
    split
    · split
      · exact k.askPage (Ev.on_keeps (k.onFse _ _ h))
      · exact Ev.on_keeps (k.onFse _ _ h)
    · exact Ev.on_keeps (k.onFse _ _ h)

theorem pageEnded {c : Chan} {n : Nat} {o : PageOutcome} {e : Ev} (h : P e.s) : P (e.pageEnded c n o).s := by
  unfold Ev.pageEnded
  split
  · simp only
    split
    · split
      · exact k.endByKind (Ev.on_keeps (k.onChan _ _ h))
      · exact Ev.on_keeps (k.onChan _ _ h)
    · exact Ev.on_keeps (k.onChan _ _ h)
  · exact h

theorem linkLost {c : Chan} {x : Station} {e : Ev} (h : P e.s) : P (e.linkLost c x).s := by
  unfold Ev.linkLost
  split
  · split
    · exact k.endStep h
    · exact h
  · exact h

theorem take (r : Report) {e : Ev} (h : P e.s) : P (e.take r).s := by
  cases r with
  | moveOn c j => exact k.moveOn h
  | cavityReading c => exact k.cavityReading h
  | coreReading c => exact k.coreReading h
  | ovenFault c => exact k.ovenFault h
  | coreFault c => exact k.coreFault h
  | entryReady c i n => exact k.entryReady h
  | entryEnded c i n b => exact k.entryEnded h
  | entryFree => exact k.entryFree h
  | pageEnded c n o => exact k.pageEnded h
  | placeFree => exact k.placeFree h
  | linkLost c x => exact k.linkLost h

theorem drain (n : Nat) {e : Ev} (h : P e.s) : P (e.drain n).s := by
  induction n generalizing e with
  | zero => exact h
  | succ n ih =>
    unfold Ev.drain
    split
    · exact h
    · exact ih (k.take _ h)

/-- Whatever an event causes keeps the property. -/
theorem finish {e : Ev} (h : P e.s) : P e.finish := k.drain _ h

end Kept

/-! ### What no report changes at the ports, at the base link and in the settings of paging and faults -/

/-- The port records, the roster, the settings of paging, the link state, and the settings of the fault monitor. -/
def State.side (s : State) : Vector PortRec 4 × Vector BadgeRec 96 × Vector Bool 6 × Vector Nat 4 × Bool × Nat × Option Nat
    × Vector GroupRec 6 × Vector (Vector Bool 6) 4 :=
  (s.sp.ports, s.pgu.badges, s.pgu.enables, s.pgu.windows, s.pgu.linkUp, s.pgu.failures, s.pgu.retryLeft, s.fm.groups, s.fm.subs)

theorem State.postNotice_side (x : Station) (n : Notice) (s : State) : (s.postNotice x n).side = s.side := by
  obtain ⟨q, hq, -, -⟩ := State.postNotice_cases x n s
  rw [hq]; rfl

theorem State.tellSubscribers_side (c : Cond) (source : Nat) (s : State) : (s.tellSubscribers c source).side = s.side := by
  unfold State.tellSubscribers
  suffices h : ∀ (l : List Station) (t : State), (l.foldl (fun (t : State) (x : Station) =>
      if (s.fm.subs[x])[c.group] then t.postNotice x (Fm.faultNotice c source s.clock) else t) t).side = t.side from h _ _
  intro l
  induction l with
  | nil => intro t; rfl
  | cons x l ih =>
    intro t
    simp only [List.foldl_cons, ih]
    split
    · exact State.postNotice_side _ _ _
    · rfl

theorem State.latch_side (c : Cond) (source : Nat) (s : State) : (s.latch c source).1.side = s.side := by
  simp only [State.latch]
  split
  · rfl
  · exact State.tellSubscribers_side _ _ _

/-- The frame of `State.side`: whatever an event causes leaves it alone. -/
theorem kept_side (s0 : State) : Kept False (fun s => s.side = s0.side) where
  bound := fun b => b.elim
  onFse := fun _ _ h => h
  handSetpoint := fun l v a s h => by
    rw [← h]; unfold State.handSetpoint; simp only; split <;> rfl
  onPpu := fun _ _ _ _ h => h
  postNotice := fun x n s h => (State.postNotice_side x n s).trans h
  joinWaiting := fun _ _ _ h => h
  setPgu := fun g s hg h => by
    obtain ⟨⟨h1, h2, h3, h4, h5, h6⟩, -⟩ := hg
    rw [← h]; simp [State.side, h1, h2, h3, h4, h5, h6]
  latch := fun c source s h => (State.latch_side c source s).trans h
  setActive := fun _ _ _ h => h

theorem Ev.finish_side (e : Ev) : e.finish.side = e.s.side := (kept_side e.s).finish rfl

end Sys2Proof.Machine
end

