-- ==== Sys2Proof/WellFormed.lean ====
section
/-! DEFINITION. Sys2Proof/WellFormed.lean: which commands and events can arrive at the part as written. -/

namespace Sys2Proof

/-- A frame that completes has LENGTH 1..64 (R202); the paging base names pagers by an address of 1..16777215 (R150);
a capture counter that is brought to 65535 has overflowed before the edge (R41), and a base counter that passes
10000 ms has met its stall expiry before the pulse (R141). Every other operand may take every value of its type: what
a station may carry and the part refuses is no matter of form. -/
def WellFormed (i : Instr) : Bool :=
  match i with
  | .commandFrame _ body _ => decide (1 ≤ body.length) && decide (body.length ≤ 64)
  | .txDone _ address _ => decide (address ≠ 0)
  | .ack address _ => decide (address ≠ 0)
  | .key address _ => decide (address ≠ 0)
  | .probeRisingEdge _ elapsed => decide (elapsed.toNat < 65535)
  | .probeFallingEdge _ elapsed => decide (elapsed.toNat < 65535)
  | .conveyorPulse elapsed => decide (elapsed.toNat ≤ 10000)
  | .deviceReset | .byteGapExpiry _ | .responseSent _ | .writeStep _ _ _ _ | .readStep _ _ | .start _ _ _ | .halt _ _
  | .releaseHold _ _ | .resetChannel _ _ | .setChannel _ _ _ | .readChannel _ _ | .setLoad _ _ _ | .resetLoad _ _
  | .testCutout _ _ | .readLoad _ _ | .readProbe _ _ | .setCap _ _ | .setBudget _ _ _ _ | .readBudget _
  | .inventorySet _ _ _ | .returnPlates _ _ _ | .requeue _ _ _ | .discard _ _ _ | .warmerCount _ _ _ | .setWarmer _ _ _
  | .readPool _ _ | .reserve _ _ _ | .cancelReservation _ _ _ | .readReservation _ _ | .labelRack _ _ _ | .setDish _ _
  | .readDish _ _ _ | .setBadge _ _ _ _ _ | .badgeState _ _ _ | .assignFunction _ _ _ | .clearFunctions _ _
  | .readBadge _ _ _ | .page _ _ | .cancelPage _ _ | .readPage _ _ | .setPaging _ _ | .clearFaults _ _
  | .setFaultMask _ _ | .subscribeFaults _ _ | .setFaultPaging _ _ | .readFaults _ | .fetchNotice _ | .setPort _ _ _ _ _
  | .readPort _ _ | .shortTimerExpiry _ | .longTimerExpiry _ | .unreadableBaseFrame | .transmissionTimerExpiry
  | .retryExpiry | .deadlineExpiry _ | .captureOverflow _ | .outputTick _ | .cutoutTestCompletion _
  | .verificationExpiry | .intervalExpiry | .encoderTransition _ _ _ | .loadSwitchChange _ _ | .soakTimerExpiry _
  | .stepTimerExpiry _ | .rackEntry | .rackExit | .jamCheck | .stallExpiry | .refreshExpiry | .receivedByte _ _ => true

end Sys2Proof
end

