-- ==== Sys2Proof/Tests/Slice0.lean ====
section
/-! SUPPORT. Sys2Proof/Tests/Slice0.lean: the well-formedness smoke test, command frames written out from the manual, the manual's worked
examples, and for every statement with hypotheses a witness: states and operands that meet them. -/

namespace Sys2Proof.Tests

open Sys2Proof Sys2Proof.Machine

-- The tests are elaborated one at a time: side by side they wait for one another, each in a thread of its own.
set_option Elab.async false

/-! ### Small states -/

def onChan (c : Chan) (f : ChanRec → ChanRec) (s : State) : State := s.setChan c (f s.fse.channels[c])
def onLoad (l : LoadIx) (f : LoadRec → LoadRec) (s : State) : State := s.setLoad l (f s.hlu.loads[l])
def onProbe (p : ProbeIx) (f : ProbeRec → ProbeRec) (s : State) : State := s.setProbe p (f s.hlu.probes[p])
def onPool (k : Kind) (f : PoolRec → PoolRec) (s : State) : State := s.setPool k (f s.ppu.pools[k])
def onWarmer (w : WarmerIx) (f : WarmerRec → WarmerRec) (s : State) : State := s.setWarmer w (f s.ppu.warmers[w])
def onPort (x : Station) (f : PortRec → PortRec) (s : State) : State := s.setPort x (f s.sp.ports[x])
def onQueue (x : Station) (f : NoticeQueue → NoticeQueue) (s : State) : State := s.setQueue x (f s.sp.queues[x])
def onBadge (b : BadgeIx) (f : BadgeRec → BadgeRec) (s : State) : State :=
  s.setPgu { s.pgu with badges := s.pgu.badges.set b (f s.pgu.badges[b]) }
def onCond (c : Cond) (f : CondRec → CondRec) (s : State) : State := s.setFm (s.fm.setCond c (f s.fm.conds[c.index]))
def onPgu (f : Pgu → Pgu) (s : State) : State := s.setPgu (f s.pgu)
def onPpu (f : Ppu → Ppu) (s : State) : State := { s with ppu := f s.ppu }
def onDlu (f : Dlu → Dlu) (s : State) : State := s.setDlu (f s.dlu)
def onFse (f : Fse → Fse) (s : State) : State := { s with fse := f s.fse }
def onPba (f : Pba → Pba) (s : State) : State := s.setPba (f s.pba)

/-- What `f` reads of the state that a command or event leaves. -/
def after {α : Type} (i : Instr) (s : State) (f : State → α) : Option α :=
  match exec i s with
  | .next t => some (f t)
  | .fault _ => none
  | .refused _ => none

/-- The answer a command gives its station. -/
def answerOf (x : Station) (i : Instr) (s : State) : Option Answer := (after i s (fun t => (t.sp.ports[x]).answer)).join

abbrev c11 : Chan := 11
abbrev l11 : LoadIx := 11
abbrev l21 : LoadIx := 21
abbrev p33 : ProbeIx := 33
abbrev i511 : StepIx := 511
abbrev w7 : WarmerIx := 7
abbrev k3 : Kind := 3
abbrev x3 : Station := 3
abbrev b95 : BadgeIx := 95
abbrev r15 : ResIx := 15

/-- Oven C11 with its load installed and its cavity at 1000 dC. -/
def oven : State :=
  onLoad l11 (fun l => { l with rating := 1800 }) (onProbe 11 (fun p => { p with settled := true, reading := 1000 }) State.reset)

/-- A HEAT record to 2000 dC with a LIMIT of 600 s, given to the engine. -/
def heatStep : StepRec :=
  { StepRec.reset with owner := .engine, kind := .heat, setpoint := 2000, band := 50, limit := 600 }

def loaded : State := oven.setStep i511 heatStep

/-- C11 runs record 511 for S3. -/
def running : State :=
  onChan c11 (fun c => { c with state := .run, owner := some 3, current := some i511, stepTimer := true })
    (oven.setStep i511 { heatStep with claim := some c11 })

def holding : State := onChan c11 (fun c => { c with state := .hold, owner := some 3, holdSetpoint := 650 }) oven

def stoppedChan : State := onChan c11 (fun c => { c with state := .stopped, owner := some 3 }) oven

def ending : Ending :=
  { channel := c11, lastStep := i511, outcome := .timeout, entered := .hold, endedAt := 70, superseded := false, owedTo := 3 }

def aNotice : Notice := { source := .load, index := 4, code := .testResult, p1 := 0, p2 := 3000, p3 := 0, time := 60 }

/-- S3's notice queue is full. -/
def crowded : State := onQueue x3 (fun q => { q with notices := List.replicate 16 aNotice }) running

/-! ### Well-formedness: one ill-formed term for each check -/

theorem test_wellFormed_accepts :
    WellFormed (.commandFrame 0 [0xA0] 0xFE5F) = true ∧ WellFormed (.commandFrame 0 (List.replicate 64 0) 0) = true ∧
    WellFormed (.txDone 0 1 true) = true ∧ WellFormed (.ack 0xFFFFFF 255) = true ∧ WellFormed (.key 1 0) = true ∧
    WellFormed (.probeRisingEdge 33 65534) = true ∧ WellFormed (.conveyorPulse 10000) = true := by decide

theorem test_wellFormed_empty_frame : WellFormed (.commandFrame 0 [] 0xFFFF) = false := by decide
theorem test_wellFormed_long_frame : WellFormed (.commandFrame 0 (List.replicate 65 0) 0) = false := by decide
theorem test_wellFormed_txDone_address : WellFormed (.txDone 0 0 true) = false := by decide
theorem test_wellFormed_ack_address : WellFormed (.ack 0 0) = false := by decide
theorem test_wellFormed_key_address : WellFormed (.key 0 0) = false := by decide
theorem test_wellFormed_rising_overflow : WellFormed (.probeRisingEdge 0 65535) = false := by decide
theorem test_wellFormed_falling_overflow : WellFormed (.probeFallingEdge 0 65535) = false := by decide
theorem test_wellFormed_pulse_after_stall : WellFormed (.conveyorPulse 10001) = false := by decide

/-! ### Frames written out from 10.4 and from R216 and R218 -/

theorem test_decode_writeStep :
    decodeCommand 1 0x10
      [0x01, 0xFF, 1, 5, 0x41, 0x07, 0xD0, 0, 50, 0, 60, 2, 88, 2, 0xBC, 1, 3, 240, 1, 0xFE, 0, 9, 2, 0x8A,
       0, 1, 3, 0x04, 0xB7, 7, 4, 2, 0, 15, 6, 0x10, 0x01, 0x00, 0x2A, 0]
      = .command (.writeStep 1 511 1
          { kind := 5, flags := 0x41, setpoint := 2000, band := 50, duration := 60, limit := 600, coreTarget := 700, presence := 1
            plateKind := 3, count := 240, nextIndex := 510, noteCode := 9, holdSetpoint := 650
            page := { priority := 0, ackPolicy := 1, form := 3, value := 1207, presence := 7, qualifier := 4, escForm := 2
                      escValue := 15, escQualifier := 6, message := 0x1001, parameter := 42 } }) := by decide

/-- START C2, record 100: the example of 10.2. -/
theorem test_decode_start : decodeCommand 0 0x12 [0x02, 0x00, 0x64] = .command (.start 0 2 100) := by decide

theorem test_decode_setLoad :
    decodeCommand 2 0x20 [3, 0x07, 0x08, 0x0A, 0xF0, 0xAB, 0x47, 0, 200, 0, 100, 0, 250, 0, 50]
      = .command (.setLoad 2 3 { rating := 1800, tripLimit := 2800, check := 43847, pb := 200, bias := 100, nextPeriod := 250
                                 minOn := 50 }) := by decide

/-- SET CAP 4900: the example of 10.2. -/
theorem test_decode_setCap : decodeCommand 3 0x30 [0x13, 0x24] = .command (.setCap 3 4900) := by decide

theorem test_decode_inventorySet :
    decodeCommand 0 0x40 [1, 0x00, 0x01, 0x00, 0x02] = .command (.inventorySet 0 1 65538) := by decide

theorem test_decode_reserve : decodeCommand 1 0x50 [2, 80] = .command (.reserve 1 2 80) := by decide

theorem test_decode_setDish :
    decodeCommand 1 0x61 [3, 82, 2, 88, 3, 52, 0, 20, 0, 180, 0, 16, 0, 25, 11, 184, 0, 120, 0, 60, 1, 44, 5, 0, 1, 0, 2, 1]
      = .command (.setDish 1
          { rinseSetpoint := 850, washSetpoint := 600, rinseMin := 820, dwellMin := 20, dwellMax := 180, groupM := 16
            mmPerPulse := 25, machineLength := 3000, high := 120, low := 60, holdTime := 300, clearingRole := 5, holdMessage := 1
            releaseMessage := 2, dishStation := 1 }) := by decide

theorem test_decode_setBadge :
    decodeCommand 0 0x70 [95, 0x01, 0x02, 0x03, 4, 15] = .command (.setBadge 0 95 0x010203 4 15) := by decide

theorem test_decode_page :
    decodeCommand 2 0x80 [1, 2, 4, 0, 0, 2, 0, 1, 0, 9, 0, 0, 7, 0x12, 0x34, 0]
      = .command (.page 2
          { priority := 1, ackPolicy := 2, form := 4, value := 0, presence := 2, qualifier := 0, escForm := 1, escValue := 9
            escQualifier := 0, message := 7, parameter := 0x1234 }) := by decide

theorem test_decode_setFaultPaging :
    decodeCommand 3 0x93 [1, 4, 0, 0, 1, 5, 0, 0, 0, 0, 1, 6]
      = .command (.setFaultPaging 3 #v[(1, 4), (0, 0), (1, 5), (0, 0), (0, 0), (1, 6)]) := by decide

theorem test_decode_setPort : decodeCommand 0 0xA1 [2, 15, 0x00, 0x78, 1] = .command (.setPort 0 2 15 120 1) := by decide

/-- An unlisted COMMAND byte, and a PAYLOAD of another length (R205). -/
theorem test_decode_refusals : decodeCommand 0 0x18 [0] = .unknown ∧ decodeCommand 0 0xA0 [0] = .badLength := by decide

/-- The four check values of 10.2. -/
theorem test_check_values :
    frameCheck [0xA0] = 0xFE5F#16 ∧ frameCheck [0x30, 0x13, 0x24] = 0xE9AB#16 ∧ frameCheck [0x30, 0xFD, 0xE8] = 0xFEE6#16 ∧
    frameCheck [0x12, 0x02, 0x00, 0x64] = 0x95ED#16 := by decide +kernel

/-- The first line frame of 10.2, byte by byte: its last byte has it taken, and the queue is empty. -/
theorem test_receivedByte_takes_frame :
    answerOf 0 (.receivedByte 0 0x5F)
      (onPort 0 (fun p => { p with inFrame := true, soFar := [0xA5, 0x01, 0xA0, 0xFE] }) State.reset)
      = some ⟨0xA0, ⟨.empty, [0, 0]⟩⟩ := by decide +kernel

/-! ### Worked examples of the manual -/

/-- Conversions of R43: its table. -/
theorem test_conversions :
    convert 20000 9000 = .valid 1250 ∧ convert 20000 1500 = .valid (-500) ∧ convert 20000 18500 = .valid 3500 ∧
    convert 20000 900 = .invalid ∧ convert 800 400 = .invalid := by decide

/-- Check values of 2.6. -/
theorem test_check_of_loads : checkOf 3 1800 2800 = 43847 ∧ checkOf 4 1800 2800 = 39751 := by decide

/-- Hash indices of R157. -/
theorem test_hash_indices : hashIndex 1207 = 37 ∧ hashIndex 37 = 37 ∧ hashIndex 5000 = 7 := by decide +kernel

/-- PB 200 and BIAS 100 at setpoint 1800: the requests at 1750, 1799, 1800 and 1500 dC. -/
theorem test_requests :
    let l : LoadRec := { LoadRec.reset 0 with rating := 1800, active := true, setpoint := 1800, pb := 200, bias := 100 }
    let q := fun v : Int => l.requestOf { ProbeRec.reset .low with settled := true, reading := v }
    (q 1750, q 1799, q 1800, q 1500) = (350, 105, 0, 1000) := by decide

/-- A period end at preload 785, and a decrease to 400 within the period of 200 ticks. -/
theorem test_period_and_cut :
    ({ LoadRec.reset 0 with preload := 785 } : LoadRec).periodEnd.shadow = 157 ∧
    ({ LoadRec.reset 0 with grant := 1000, request := 400, preload := 785, shadow := 157 } : LoadRec).settlePreload.shadow = 80 := by
  decide

/-- TEST CUTOUT is taken by an idle installed load, and its timer's end posts TEST RESULT (R58, R59). -/
theorem test_cutout :
    let s := onLoad 21 (fun l => { l with rating := 1200 }) State.reset
    (answerOf 2 (.testCutout 2 21) s).map (fun a => a.response.result) = some .ok ∧
    after (.cutoutTestCompletion 21) (onLoad 21 (fun l => { l with testing := true, testStation := some 2 }) s)
      (fun t => (t.sp.queues[(2 : Station)]).notices.map (fun n => (n.code, n.index, n.p1, n.p2)))
      = some [(.testResult, 21, 0, 3000)] := by decide +kernel

/-- A START on an oven whose first record is a HEAT (R13): the channel runs and hands its setpoint. -/
theorem test_start_runs :
    after (.start 3 11 511) loaded (fun t => ((t.fse.channels[c11]).state, (t.fse.channels[c11]).owner, (t.hlu.loads[l11]).setpoint,
      (t.hlu.loads[l11]).active)) = some (.run, some 3, 2000, true) := by decide +kernel

/-- A trip at a raw conversion of TRIP LIMIT stops the channel and its heat (R17, R56): T 2000 and H 1600 convert to 3000. -/
theorem test_trip_stops_channel :
    let s := onProbe 11 (fun p => { p with periodOpen := true, highTime := some 1600, capture := 1600 }) running
    after (.probeRisingEdge 11 400) s (fun t => ((t.hlu.loads[l11]).state, (t.fse.channels[c11]).state,
      (t.fse.steps[i511]).completion.outcome, (t.fm.conds[Cond.overheat.index]).firstSource))
      = some (.tripped, .stopped, .fault, some 11) := by decide +kernel

/-! ### Witnesses: the queue, chapter 1 -/

theorem witness_StepRule :
    ({ State.reset with pending := [.jamCheck, .rackExit] } : State).pending = .jamCheck :: [.rackExit] ∧
    State.reset.pending = [] := by decide +kernel

/-- A page to badge B95, NORMAL, ALL. -/
def pageImage : PageImage :=
  { priority := 2, ackPolicy := 1, form := 0, value := 95, presence := 0, qualifier := 0, escForm := 0, escValue := 0
    escQualifier := 0, message := 7, parameter := 9 }

def image (kind : Byte) : StepImage :=
  { kind := kind, flags := 1, setpoint := 2000, band := 50, duration := 60, limit := 600, coreTarget := 700, presence := 1
    plateKind := 3, count := 240, nextIndex := 511, noteCode := 1, holdSetpoint := 650, page := pageImage }

theorem witness_WriteStepWritesOneRecord :
    511 < (512#16).toNat ∧ (511#16).toNat = i511.val ∧ (loaded.fse.steps[i511]).owner = .engine ∧
    (oven.fse.steps[i511]).owner = .station ∧ 1 < (2#8).toNat ∧ (1#8).toNat ≤ 1 ∧
    7 < (image 8).kind.toNat ∧ ({ image 0 with flags := 128 } : StepImage).flags.getLsbD 7 = true ∧
    (({ image 0 with nextIndex := 512 } : StepImage).flags.getLsbD 0 = true ∧
      511 < ({ image 0 with nextIndex := 512 } : StepImage).nextIndex.toNat) ∧
    (({ image 2 with presence := 0 } : StepImage).kind = 2 ∧ ({ image 2 with presence := 0 } : StepImage).presence.getLsbD 0 = false) ∧
    3 < ({ image 3 with plateKind := 4 } : StepImage).plateKind.toNat ∧
    submissionOf ({ pageImage with value := 96 } : PageImage) = none ∧
    (∀ k ∈ [0#8, 1, 2, 3, 4, 5, 6, 7],
      (image k).kind.toNat ≤ 7 ∧ (image k).flags.getLsbD 7 = false ∧
      ((image k).flags.getLsbD 0 = true → (image k).nextIndex.toNat ≤ 511) ∧
      ((image k).kind = 2 → (image k).presence.getLsbD 0 = true) ∧ ((image k).kind = 3 → (image k).plateKind.toNat ≤ 3) ∧
      ((image k).kind = 5 → (submissionOf (image k).page).isSome = true)) := by decide +kernel

theorem witness_StartRule :
    11 < (12#8).toNat ∧ 511 < (512#16).toNat ∧ (11#8).toNat = c11.val ∧ (511#16).toNat = i511.val ∧
    ((onChan c11 (fun c => { c with stacked := some ending }) oven).fse.channels[c11]).stacked = some ending ∧
    ((running.fse.channels[c11]).stacked = none ∧ (running.fse.channels[c11]).state = .run) ∧
    ((State.reset.fse.channels[c11]).stacked = none ∧ (State.reset.fse.channels[c11]).state = .idle ∧
      (State.reset.hlu.loads[ovenLoad c11]).rating = 0) ∧
    ((holding.fse.channels[c11]).stacked = none ∧ (holding.fse.channels[c11]).state = .hold ∧
      0 < (holding.hlu.loads[ovenLoad c11]).rating ∧ (holding.hlu.loads[ovenLoad c11]).state = .enabled ∧
      (holding.hlu.probes[cavityProbe c11]).faulted = false ∧ (holding.fse.steps[i511]).owner ≠ .engine) ∧
    ((loaded.fse.channels[c11]).stacked = none ∧ (loaded.fse.channels[c11]).state = .idle ∧
      0 < (loaded.hlu.loads[ovenLoad c11]).rating ∧ (loaded.hlu.loads[ovenLoad c11]).state = .enabled ∧
      (loaded.hlu.probes[cavityProbe c11]).faulted = false ∧ (loaded.fse.steps[i511]).owner = .engine ∧
      (loaded.fse.steps[i511]).claim = none ∧ (loaded.fse.steps[i511]).kind = .heat ∧
      loaded.readingEnd c11 loaded.fse.steps[i511] = none) := by decide +kernel

theorem witness_HaltAndReleaseHoldRules :
    11 < (12#8).toNat ∧ (11#8).toNat = c11.val ∧ (holding.fse.channels[c11]).state = .hold ∧
    (oven.fse.channels[c11]).state = .idle ∧ (stoppedChan.fse.channels[c11]).state = .stopped ∧
    (running.fse.channels[c11]).state = .run ∧ (running.fse.channels[c11]).current = some i511 ∧
    (running.fse.channels[c11]).owner = some 3 ∧ (running.fse.channels[c11]).reservation = none ∧
    (running.fse.channels[c11]).page = none ∧ (running.sp.queues[x3]).notices.length < 15 := by decide +kernel

theorem witness_ResetChannelRule :
    let testing := onLoad l11 (fun l => { l with testing := true }) stoppedChan
    let tripped := onLoad l11 (fun l => { l with trip := true }) stoppedChan
    let hot := onProbe 11 (fun p => { p with reading := 2950 }) tripped
    11 < (12#8).toNat ∧ (11#8).toNat = c11.val ∧ (running.fse.channels[c11]).state ≠ .stopped ∧
    ((testing.fse.channels[c11]).state = .stopped ∧ (testing.hlu.loads[ovenLoad c11]).testing = true) ∧
    ((hot.fse.channels[c11]).state = .stopped ∧ (hot.hlu.loads[ovenLoad c11]).testing = false ∧
      (hot.hlu.loads[ovenLoad c11]).state = .tripped ∧ (hot.hlu.probes[cavityProbe c11]).settled = true ∧
      (hot.hlu.loads[ovenLoad c11]).tripLimit - 50 ≤ (hot.hlu.probes[cavityProbe c11]).reading) ∧
    ((stoppedChan.fse.channels[c11]).state = .stopped ∧ (stoppedChan.hlu.loads[ovenLoad c11]).state = .enabled ∧
      0 < (stoppedChan.hlu.loads[ovenLoad c11]).rating ∧ (stoppedChan.hlu.probes[cavityProbe c11]).faulted = false) ∧
    ((tripped.fse.channels[c11]).state = .stopped ∧ (tripped.hlu.loads[ovenLoad c11]).state = .tripped ∧
      0 < (tripped.hlu.loads[ovenLoad c11]).rating ∧ (tripped.hlu.probes[cavityProbe c11]).faulted = false ∧
      ((tripped.hlu.probes[cavityProbe c11]).settled = true →
        (tripped.hlu.probes[cavityProbe c11]).reading < (tripped.hlu.loads[ovenLoad c11]).tripLimit - 50)) := by decide +kernel

theorem witness_SetChannelRule :
    11 < (12#8).toNat ∧ (11#8).toNat = c11.val ∧ StepOutcome.timeout ≠ .halted ∧ StepOutcome.timeout ≠ .fault := by decide

theorem witness_StepTimerRule :
    let last := onChan c11 (fun c => { c with elapsed := 599 }) running
    ((running.fse.channels[c11]).state = .run ∧ (running.fse.channels[c11]).current = some i511 ∧
      (running.fse.channels[c11]).stepTimer = true ∧ (running.fse.channels[c11]).repeated = false ∧
      (running.fse.channels[c11]).delayedEnd = none ∧ (running.fse.steps[i511]).kind ≠ .note ∧
      (running.fse.steps[i511]).kind ≠ .finish ∧
      ((running.fse.steps[i511]).kind = .soak → (running.fse.channels[c11]).counted + 1 < (running.fse.steps[i511]).duration) ∧
      min 65535 ((running.fse.channels[c11]).elapsed + 1) < (running.fse.steps[i511]).limit) ∧
    ((last.fse.channels[c11]).state = .run ∧ (last.fse.channels[c11]).current = some i511 ∧
      (last.fse.channels[c11]).stepTimer = true ∧ (last.fse.channels[c11]).repeated = false ∧
      (last.fse.channels[c11]).reservation = none ∧ (last.fse.channels[c11]).page = none ∧
      (last.fse.steps[i511]).kind = .heat ∧ (last.fse.steps[i511]).flags.tolerate = false ∧ (last.fse.steps[i511]).limit ≠ 0 ∧
      (last.fse.steps[i511]).limit ≤ min 65535 ((last.fse.channels[c11]).elapsed + 1)) := by decide +kernel

/-- C11 runs a record of LIMIT 600 s at its setpoint, one second short of its DURATION, with a reservation that stands WAITING
and a page. -/
def expiring (kind : StepKind) (elapsed : Nat) : State :=
  let s := running.setStep i511 { heatStep with kind := kind, duration := 60, claim := some c11 }
  let t := onChan c11 (fun c => { c with elapsed := elapsed, counted := 59, reservation := some (r15, 77), page := some 255 }) s
  onPpu (fun p => { p with ageList := [r15] })
    ((onProbe 11 (fun p => { p with reading := 2000 }) t).setEntry r15 (some
      { kind := k3, count := 20, requested := 20, drawn := 0, owner := .channel c11, state := .waiting, shortened := false
        creation := 77, createdAt := 5 }))

/-- A page that C11 called, whose end is reported to it. -/
def calledPage (state : PageState) : PageRec :=
  { number := 255, priority := .normal, originator := .channel c11, noticeStation := some 3, reportTo := .channel
    addressee := ⟨.badge b95, none⟩, escalation := none, message := 7, parameter := 9, ackPolicy := .all, escalated := false
    state := state, arrival := 0, sendingOrder := 1, recipients := [b95], pending := [b95], acked := [], deadline := none
    submittedAt := 3 }

/-- The step timer of a channel of any kind of step, a second before its last one and at it (R20). -/
theorem witness_StepTimerRule_expiries :
    ∀ kind ∈ [StepKind.heat, .soak, .core, .waitPlates, .drawPlates, .call], ∀ elapsed ∈ [598, 599],
      let s := expiring kind elapsed
      (s.fse.channels[c11]).state = .run ∧ (s.fse.channels[c11]).current = some i511 ∧ (s.fse.channels[c11]).stepTimer = true ∧
      (s.fse.channels[c11]).repeated = false ∧ (s.fse.steps[i511]).kind = kind ∧ (s.fse.steps[i511]).limit = 600 ∧
      min 65535 ((s.fse.channels[c11]).elapsed + 1) = elapsed + 1 ∧
      (s.fse.steps[i511]).duration = min 65535 ((s.fse.channels[c11]).counted + 1) ∧
      (s.hlu.probes[cavityProbe c11]).settled = true ∧
      (s.fse.steps[i511]).setpoint - (s.fse.steps[i511]).band ≤ (s.hlu.probes[cavityProbe c11]).reading ∧
      (s.hlu.probes[cavityProbe c11]).reading ≤ (s.fse.steps[i511]).setpoint + (s.fse.steps[i511]).band ∧
      (s.fse.channels[c11]).reservation = some (r15, 77) ∧
      (s.ppu.entries[r15]).map (fun q => (q.creation, q.state)) = some (77, .waiting) := by decide +kernel

theorem witness_StepTimerRule_pages :
    ∀ st ∈ [PageState.queued, .sending, .sent],
      let s := onPgu (fun g => { g with queue := [calledPage st] }) (expiring .call 599)
      (s.fse.channels[c11]).page = some (calledPage st).number ∧
      s.pgu.queue.find? (fun q => decide (q.number = (calledPage st).number)) = some (calledPage st) ∧
      (calledPage st).originator = .channel c11 ∧ (calledPage st).reportTo = .channel ∧ (calledPage st).state = st ∧
      (expiring .call 599).pgu.queue = [] := by decide +kernel

/-- A record begun again, with the end that its kind's rule kept, and a HEAT that finds its end or none (R19). -/
theorem witness_StepTimerRule_repeated :
    (∀ kind ∈ [StepKind.heat, .drawPlates, .call, .finish, .waitPlates, .note],
      let s := onChan c11 (fun c => { c with repeated := true, delayedEnd := some .normal }) (expiring kind 0)
      (s.fse.channels[c11]).state = .run ∧ (s.fse.channels[c11]).current = some i511 ∧ (s.fse.channels[c11]).stepTimer = true ∧
      (s.fse.channels[c11]).repeated = true ∧ (s.fse.channels[c11]).delayedEnd = some .normal ∧
      (s.fse.steps[i511]).kind = kind ∧ (s.fse.channels[c11]).owner = some x3) ∧
    (expiring .heat 0).readingEnd c11 heatStep = some .normal ∧ running.readingEnd c11 heatStep = none ∧
    (oven.fse.channels[c11]).state ≠ .run := by decide +kernel

/-- A SOAK that completes DURATION at the expiry that reaches LIMIT ends NORMAL (R20, R22), and at that expiry WAIT PLATES ends
TIMEOUT with its reservation cancelled (R24). -/
theorem test_last_second :
    after (.stepTimerExpiry c11) (expiring .soak 599) (fun t => (t.fse.steps[i511]).completion.outcome) = some .normal ∧
    after (.stepTimerExpiry c11) (expiring .waitPlates 599) (fun t => ((t.fse.steps[i511]).completion.outcome,
      (t.fse.channels[c11]).reservation, (t.ppu.entries[r15]).isNone, t.ppu.ageList)) = some (.timeout, none, true, []) := by
  decide +kernel

theorem witness_ReleaseWalkAndEndingsRules :
    (oven.fse.steps[i511]).owner = .station ∧ (running.fse.steps[i511]).claim ≠ none ∧ 0 < 1 ∧
    (loaded.fse.steps[i511]).owner = .engine ∧ (loaded.fse.steps[i511]).claim = none ∧
    ((running.fse.channels[c11]).owner = some 3 ∧ (running.sp.queues[x3]).notices.length < 16) ∧
    ((crowded.fse.channels[c11]).owner = some 3 ∧ 16 ≤ (crowded.sp.queues[x3]).notices.length) := by decide +kernel

/-- C11 may begin record 511, which leads to record 0, a HEAT that waits. -/
def chained (r : StepRec) : State :=
  (oven.setStep i511 { r with owner := .engine, flags := { r.flags with link := true }, nextIndex := 0 }).setStep 0 heatStep

/-- A record that asks for plates of K3, and one that calls. -/
def plateStep (kind : StepKind) (n : Nat) : StepRec :=
  { StepRec.reset with kind := kind, setpoint := 1500, plateKind := 3, count := n }

/-- W7 holds the 40 plates of K3, READY, of at most 50. -/
def stocked (s : State) : State :=
  onWarmer w7 (fun w => { w with kind := k3, capacity := 50, count := 40, readiness := .ready }) (onPool k3 (fun p => { p with warm := 40 }) s)

def callStep (waitAck : Bool) : StepRec :=
  { StepRec.reset with
    kind := .call, setpoint := 1500
    page := { priority := 2, ackPolicy := 1, form := 0, value := 95, presence := 0, qualifier := 0, escForm := 0, escValue := 0
              escQualifier := 0, message := 7, parameter := 9 }
    flags := { StepRec.reset.flags with waitAck := waitAck } }

/-- A START on C11 may open with this record, and another is to follow. -/
def opens (r : StepRec) : Prop :=
  (chained r).MayStart c11 i511 ∧ ((chained r).fse.steps[i511]).next i511 = some 0 ∧ (0 : StepIx) ≠ i511 ∧ (chained r).Awaits c11 0

def tolerant : StepRec := { plateStep .drawPlates 0 with flags := { StepRec.reset.flags with tolerate := true } }
def noteStep : StepRec := { StepRec.reset with kind := .note, noteCode := 7 }
def endStep : StepRec := { StepRec.reset with holdSetpoint := some 650 }
def noteIntoFull : State := onQueue x3 (fun q => { q with notices := List.replicate 16 aNotice }) (chained noteStep)

theorem witness_EndNoteAndNoReservationRules :
    ((11#8).toNat = c11.val ∧ (511#16).toNat = i511.val) ∧
    (opens StepRec.reset ∧ (chained StepRec.reset).sp.queues[x3].notices.length < 15 ∧
      ((chained StepRec.reset).fse.steps[i511]).kind = .finish ∧ ((chained StepRec.reset).fse.steps[i511]).holdSetpoint = none) ∧
    (opens endStep ∧ ((chained endStep).fse.steps[i511]).holdSetpoint = some 650) ∧
    (opens (plateStep .drawPlates 0) ∧ ((chained (plateStep .drawPlates 0)).fse.steps[i511]).kind = .drawPlates ∧
      ((chained (plateStep .drawPlates 0)).fse.steps[i511]).flags.tolerate = false) ∧
    (opens (plateStep .waitPlates 1) ∧ ((chained (plateStep .waitPlates 1)).fse.steps[i511]).plateKind.toNat = k3.val ∧
      (chained (plateStep .waitPlates 1)).ppu.reserveCapacity k3 < ((chained (plateStep .waitPlates 1)).fse.steps[i511]).count) ∧
    (opens tolerant ∧ ((chained tolerant).fse.steps[i511]).flags.tolerate = true) ∧
    (opens noteStep ∧ ((chained noteStep).fse.steps[i511]).kind = .note) ∧
    (noteIntoFull.MayStart c11 i511 ∧ noteIntoFull.Awaits c11 0 ∧ 16 ≤ (noteIntoFull.sp.queues[x3]).notices.length) := by
  unfold opens State.MayStart State.Awaits
  refine ⟨?_, ?_, ?_, ?_, ?_, ?_, ?_, ?_⟩ <;> decide +kernel

/-- What the statement says of NOTE, seen on one state: STEP NOTE and a next record begun (R27, R32). -/
theorem test_start_note :
    after (.start 3 11 511) (chained noteStep) (fun t =>
      ((t.fse.channels[c11]).current, (t.fse.steps[i511]).completion.outcome,
        (t.sp.queues[x3]).notices.map (fun n => (n.code, n.p1, n.p2)))) = some (some 0, .normal, [(.stepNote, 511, 7)]) := by
  decide +kernel

/-- START on C11 would ask for `n` plates of the 40 that are ready. -/
def asking (n : Nat) : State := stocked (chained (plateStep .waitPlates n))

/-- The same with a full reservation table. -/
def askingFull : State :=
  onPpu (fun p => { p with entries := Vector.replicate 16 (some
    { kind := 0, count := 1, requested := 1, drawn := 0, owner := .station 0, state := .waiting, shortened := false
      creation := 0, createdAt := 0 }), ageList := List.finRange 16 }) (asking 50)

/-- START on C11 would call, the paging base link being DOWN, with `n` pages in the queue. -/
def calling (ack : Bool) (n : Nat) : State :=
  let page : PageRec := State.reset.pgu.newPage ⟨.normal, ⟨.all, none⟩, none, 0, 0, .any⟩ .dishLine none .none 0
  onPgu (fun g => { g with linkUp := false, queue := List.replicate n page }) (chained (callStep ack))

theorem witness_WaitPlatesAndCallRules :
    ((11#8).toNat = c11.val ∧ (511#16).toNat = i511.val) ∧
    (askingFull.MayStart c11 i511 ∧ (askingFull.fse.steps[i511]).kind = .waitPlates ∧
      (askingFull.fse.steps[i511]).plateKind.toNat = k3.val ∧
      (askingFull.fse.steps[i511]).count ≤ askingFull.ppu.reserveCapacity k3 ∧ askingFull.ppu.freeEntry = none) ∧
    ((asking 41).MayStart c11 i511 ∧ (asking 41).ppu.freeEntry = some 0 ∧ (asking 41).ppu.AgeListRight ∧
      (asking 41).ppu.readyWarm k3 < 41 + (asking 41).ppu.sumOutstanding k3) ∧
    (∀ m : ResIx, (asking 41).ppu.entries[m] = none ∧ (asking 40).ppu.entries[m] = none) ∧
    ((asking 40).MayStart c11 i511 ∧ (asking 40).ppu.freeEntry = some 0 ∧ (asking 40).ppu.AgeListRight ∧
      40 + (asking 40).ppu.sumOutstanding k3 ≤ (asking 40).ppu.readyWarm k3) ∧
    (((asking 40).fse.steps[i511]).next i511 = some 0 ∧ (asking 40).Awaits c11 0) ∧
    ((calling true 48).MayStart c11 i511 ∧ ((calling true 48).fse.steps[i511]).kind = .call ∧
      (submissionOf ((calling true 48).fse.steps[i511]).page).isSome = true ∧ 48 ≤ (calling true 48).pgu.queue.length) ∧
    ((calling true 47).MayStart c11 i511 ∧ (calling true 47).pgu.queue.length < 48 ∧ (calling true 47).pgu.linkUp = false ∧
      ((calling true 47).fse.steps[i511]).flags.waitAck = true) ∧
    ((calling false 47).MayStart c11 i511 ∧ ((calling false 47).fse.steps[i511]).flags.waitAck = false) ∧
    (((calling false 47).fse.steps[i511]).next i511 = some 0 ∧ (calling false 47).Awaits c11 0) := by
  unfold State.MayStart State.Awaits Ppu.AgeListRight
  refine ⟨?_, ?_, ?_, ?_, ?_, ?_, ?_, ?_, ?_, ?_⟩ <;> decide +kernel

/-- A WAIT PLATES that the ready plates cover ends NORMAL, keeps its reservation and hands over to the next record (R24). -/
theorem test_start_waitPlates :
    after (.start 3 11 511) (asking 40) (fun t =>
      ((t.fse.channels[c11]).current, (t.fse.channels[c11]).reservation, (t.fse.steps[i511]).completion.outcome,
        (t.ppu.entries[(0 : ResIx)]).map (fun r => r.state))) = some (some 0, some (0, 0), .normal, some .ready) := by
  decide +kernel

/-- C11 runs record 511, of a kind with flags, and record 510 is to follow. -/
def amid (kind : StepKind) (flags : StepFlags) : State :=
  onChan c11 (fun c => { c with prefetched := some 510, reservation := some (15, 77), page := some 255 })
    ((running.setStep i511 { heatStep with kind := kind, flags := flags, claim := some c11, coreTarget := some 600 }).setStep 510 heatStep)

theorem witness_StepEndAndReportRules :
    let plain := StepRec.reset.flags
    let claimed := (amid .soak plain).setStep 510 { heatStep with claim := some 0 }
    ((amid .soak plain).fse.channels[c11]).state = .run ∧ ((amid .soak plain).fse.channels[c11]).current = some i511 ∧
    ((amid .soak plain).fse.channels[c11]).owner = some 3 ∧ ((amid .soak plain).sp.queues[x3]).notices.length < 16 ∧
    (((amid .soak plain).fse.steps[i511]).goesOn .normal = true ∧ ¬ (plain.skip = true ∧ StepOutcome.normal = .early)) ∧
    (((amid .soak { plain with notify := true }).fse.steps[i511]).flags.notify = true) ∧
    (((amid .soak { plain with skip := true }).fse.steps[i511]).goesOn .early = true ∧
      ((amid .soak { plain with skip := true }).fse.steps[i511]).flags.skip = true ∧
      ((amid .soak plain).fse.channels[c11]).prefetched = some 510 ∧ (510 : StepIx) ≠ i511 ∧
      ((amid .soak plain).fse.steps[(510 : StepIx)]).owner = .engine ∧ ((amid .soak plain).fse.steps[(510 : StepIx)]).claim = none) ∧
    ((claimed.fse.steps[(510 : StepIx)]).owner = .engine ∧ (claimed.fse.steps[(510 : StepIx)]).claim ≠ none ∧
      (claimed.fse.steps[(509 : StepIx)]).owner = .station) ∧
    ((amid .soak plain).fse.steps[i511]).goesOn .timeout = false ∧ ((amid .finish plain).fse.steps[i511]).goesOn .normal = false ∧
    ((amid .soak plain).Awaits c11 510 ∧ (c11, (510 : StepIx)) ∉ (Ev.start (amid .soak plain)).begun) ∧
    c11 ∉ (Ev.start (amid .soak plain)).again ∧
    ((amid .waitPlates plain).fse.channels[c11]).reservation = some (15, 77) ∧
    ((amid .waitPlates plain).fse.steps[i511]).kind = .waitPlates ∧ ((amid .drawPlates plain).fse.steps[i511]).kind = .drawPlates ∧
    (running.fse.channels[c11]).reservation ≠ some (15, 77) ∧ ((amid .call plain).fse.channels[c11]).page = some 255 ∧
    ((amid .call plain).fse.steps[i511]).kind = .call ∧ (running.fse.channels[c11]).page ≠ some 255 := by
  unfold State.Awaits
  decide +kernel

/-- Settled readings of C11's cavity and core. -/
def measured (v w : Int) (s : State) : State :=
  onProbe 11 (fun p => { p with settled := true, reading := v }) (onProbe 23 (fun p => { p with settled := true, reading := w }) s)

/-- Readings at SETPOINT − BAND and at CORE TARGET, and one below each (R21 to R23). -/
theorem witness_StepEndAndReportRules_readings :
    (∀ kind ∈ [StepKind.heat, .soak, .core], ∀ v ∈ [(1949 : Int), 1950], ∀ w ∈ [(599 : Int), 600],
      let s := measured v w (amid kind StepRec.reset.flags)
      (s.fse.channels[c11]).state = .run ∧ (s.fse.channels[c11]).current = some i511 ∧ (s.fse.steps[i511]).kind = kind ∧
      (s.hlu.probes[cavityProbe c11]).settled = true ∧ (s.hlu.probes[cavityProbe c11]).reading = v ∧
      (s.hlu.probes[coreProbe c11]).settled = true ∧ (s.hlu.probes[coreProbe c11]).reading = w ∧
      (s.fse.steps[i511]).setpoint - (s.fse.steps[i511]).band = 1950 ∧ (s.fse.steps[i511]).coreTarget = some 600) ∧
    (State.reset.hlu.probes[cavityProbe c11]).settled = false ∧ (running.hlu.probes[coreProbe c11]).settled = false ∧
    c11 ∈ ({ Ev.start running with again := [c11] } : Ev).again ∧ (oven.fse.channels[c11]).state ≠ .run := by decide +kernel

/-- Record 510 ends as it begins (R21). -/
theorem witness_StepEndAndReportRules_begin :
    let s := measured 1950 600 (amid .soak StepRec.reset.flags)
    (s.fse.channels[c11]).state = .run ∧ (s.fse.steps[(510 : StepIx)]).owner = .engine ∧
    (s.fse.steps[(510 : StepIx)]).claim = none ∧ (c11, (510 : StepIx)) ∉ (Ev.start s).begun ∧
    s.readingEnd c11 s.fse.steps[(510 : StepIx)] = some .normal := by decide +kernel

/-- A cavity reading of SETPOINT − BAND, 1950 dC, ends a HEAT and, at its begin, the HEAT that follows (R21, R30, R32): T is
20000 us and H 11800 us. The chain then finds record 511 returned, and holds. -/
theorem test_heat_ends_on_reading :
    after (.probeRisingEdge 11 8200)
      (onProbe 11 (fun p => { p with periodOpen := true, highTime := some 11800, capture := 11800, window := [1950, 1950, 1950] })
        (amid .heat StepRec.reset.flags))
      (fun t => ((t.fse.steps[i511]).completion.outcome, (t.fse.steps[(510 : StepIx)]).completion.outcome,
        (t.fse.channels[c11]).state)) = some (.normal, .normal, .hold) := by decide +kernel

/-! ### Witnesses: chapters 2 and 3 -/

/-- P33 in an open period with its high time taken, three values in its window. -/
def measuring : State :=
  onProbe p33 (fun p => { p with periodOpen := true, highTime := some 9000, capture := 9000, window := [1240, 1245, 1250] })
    State.reset

theorem witness_EdgeAndOverflowRules :
    (State.reset.hlu.probes[p33]).periodOpen = false ∧
    ((onProbe p33 (fun p => { p with periodOpen := true }) State.reset).hlu.probes[p33]).highTime = none := by decide +kernel

theorem witness_ConversionRule :
    let returning := onProbe p33 (fun p => { p with lost := some .low, range := true, validRun := 3 }) measuring
    let failing := fun n => onProbe p33 (fun p => { p with invalidRun := n }) measuring
    999 < 1000 ∧ (1000 * 50 < 50 * 1001) ∧ (950 * 1001 < 1000 * 951) ∧
    (1000 ≤ 1000 ∧ 50 * 1000 ≤ 1000 * 50 ∧ 1000 * 950 ≤ 950 * 1000) ∧
    ((measuring.hlu.probes[p33]).periodOpen = true ∧ (measuring.hlu.probes[p33]).highTime = some 9000 ∧
      (measuring.hlu.probes[p33]).window.length ≤ 4 ∧
      convert (min 65535 ((measuring.hlu.probes[p33]).capture + (11000#16).toNat)) 9000 = .valid 1250) ∧
    ((returning.hlu.probes[p33]).faulted = true ∧ 3 ≤ (returning.hlu.probes[p33]).validRun) ∧
    (convert (min 65535 ((measuring.hlu.probes[p33]).capture + (1#16).toNat)) 9000 = .invalid ∧
      ((failing 2).hlu.probes[p33]).invalidRun < 3 ∧ 3 ≤ ((failing 3).hlu.probes[p33]).invalidRun) := by decide +kernel

/-- The fourth valid conversion in a row returns a faulted probe: the floored mean of 1240, 1245, 1250 and 1250 (R44, R45). -/
theorem test_probe_returns :
    after (.probeRisingEdge p33 11000) (onProbe p33 (fun p => { p with lost := some .low, range := true, validRun := 3 }) measuring)
      (fun t => ((t.hlu.probes[p33]).faulted, (t.hlu.probes[p33]).settled, (t.hlu.probes[p33]).reading)) = some (false, true, 1246) := by
  decide +kernel

theorem witness_RequestAndPreloadRule :
    let l : LoadRec := { LoadRec.reset l21 with rating := 1500, active := true, setpoint := 1800, preload := 500 }
    let p : ProbeRec := { ProbeRec.reset .low with settled := true, reading := 1799 }
    (LoadRec.reset l21).rating = 0 ∧ (LoadRec.reset l21).active = false ∧ ({ l with trip := true } : LoadRec).state ≠ .enabled ∧
    (ProbeRec.reset .low).settled = false ∧
    (0 < l.rating ∧ l.active = true ∧ l.state = .enabled ∧ p.settled = true) ∧
    l.setpoint - ({ p with reading := 1800 } : ProbeRec).reading ≤ 0 ∧ (0 < 1 ∧ l.setpoint - p.reading = ((1 : Nat) : Int)) ∧
    min l.grant l.request < l.preload ∧ (LoadRec.reset l21).preload ≤ min (LoadRec.reset l21).grant (LoadRec.reset l21).request := by
  decide +kernel

theorem witness_OutputTickRule :
    let s := onLoad l21 (fun l => { l with phase := 100, shadow := 102, output := true }) State.reset
    let u := onLoad l21 (fun l => { l with phase := 101, shadow := 102, output := true }) State.reset
    let v := onLoad l21 (fun l => { l with phase := 199, preload := 785 }) State.reset
    ((s.hlu.loads[l21]).phase + 1 < (s.hlu.loads[l21]).period ∧ (s.hlu.loads[l21]).phase + 1 < (s.hlu.loads[l21]).shadow) ∧
    ((u.hlu.loads[l21]).phase + 1 < (u.hlu.loads[l21]).period ∧ (u.hlu.loads[l21]).shadow ≤ (u.hlu.loads[l21]).phase + 1) ∧
    (v.hlu.loads[l21]).period ≤ (v.hlu.loads[l21]).phase + 1 := by decide +kernel

def loadImage : LoadImage :=
  { rating := 1800, tripLimit := 2800, check := 43847, pb := 100, bias := 0, nextPeriod := 200, minOn := 50 }

theorem witness_SetLoadAndResetLoadRules :
    let testing := onLoad l21 (fun l => { l with rating := 1200, testing := true }) State.reset
    let fine := onLoad l21 (fun l => { l with rating := 1200 }) State.reset
    let failed := onLoad l21 (fun l => { l with rating := 1200, cutoutFail := true }) State.reset
    let tripped := onLoad l21 (fun l => { l with rating := 1200, trip := true }) State.reset
    let hot := onProbe p33 (fun p => { p with settled := true, reading := 2950 }) tripped
    let cooler := onProbe p33 (fun p => { p with settled := true, reading := 2949 }) tripped
    21 < (22#8).toNat ∧ (21#8).toNat = l21.val ∧ (testing.hlu.loads[l21]).testing = true ∧
    ((fine.hlu.loads[l21]).testing = false ∧ (fine.hlu.loads[l21]).trip = false ∧ (fine.hlu.loads[l21]).cutoutFail = false ∧
      0 < loadImage.rating.toNat) ∧
    (State.reset.hlu.loads[l21]).rating = 0 ∧ (testing.hlu.loads[l21]).state = .testing ∧
    ((failed.hlu.loads[l21]).state ≠ .testing ∧ (failed.hlu.loads[l21]).state = .faulted) ∧
    ((hot.hlu.loads[l21]).state = .tripped ∧ (hot.hlu.probes[controlProbe l21]).settled = true ∧
      (hot.hlu.loads[l21]).tripLimit - 50 ≤ (hot.hlu.probes[controlProbe l21]).reading) ∧
    ((fine.hlu.loads[l21]).state = .enabled ∧ 0 < (fine.hlu.loads[l21]).rating) ∧
    ((cooler.hlu.loads[l21]).state = .tripped ∧ 0 < (cooler.hlu.loads[l21]).rating ∧
      (cooler.hlu.probes[controlProbe l21]).faulted = false ∧
      ((cooler.hlu.probes[controlProbe l21]).settled = true →
        (cooler.hlu.probes[controlProbe l21]).reading < (cooler.hlu.loads[l21]).tripLimit - 50)) := by decide +kernel

theorem witness_TripAndOvenFaultRules :
    let hot := fun limit => onLoad l11 (fun l => { l with tripLimit := limit })
      (onProbe 11 (fun p => { p with periodOpen := true, highTime := some 1600, capture := 1600, stale := 2 }) running)
    let held := onChan c11 (fun c => { c with lastEnding := some ending }) holding
    let core := onFse (fun f => { f with steps := f.steps.set i511 { heatStep with claim := some c11, kind := .core } }) running
    (loadOf 11 = some l11 ∧ ((hot 3000).hlu.probes[(11 : ProbeIx)]).periodOpen = true ∧
      ((hot 3000).hlu.probes[(11 : ProbeIx)]).highTime = some 1600 ∧
      convert (min 65535 (((hot 3000).hlu.probes[(11 : ProbeIx)]).capture + (400#16).toNat)) 1600 = .valid 3000) ∧
    (0 < ((hot 3000).hlu.loads[l11]).rating ∧ ((hot 3000).hlu.loads[l11]).testing = false ∧
      ((hot 3000).hlu.loads[l11]).trip = false ∧ ((hot 3000).hlu.loads[l11]).tripLimit ≤ 3000) ∧
    ¬ ((hot 3001).hlu.loads[l11]).tripLimit ≤ 3000 ∧
    (((hot 3000).fm.groups[(0 : Group)]).paging = false ∧ ((hot 3000).fse.channels[c11]).state = .run ∧
      ((hot 3000).fse.channels[c11]).current.isSome = true ∧ ((hot 3000).hlu.loads[ovenLoad c11]).state = .enabled ∧
      2 ≤ ((hot 3000).hlu.probes[cavityProbe c11]).stale ∧ ((hot 3000).hlu.probes[cavityProbe c11]).faulted = false) ∧
    (11#8).toNat = c11.val ∧ ({ loadImage with rating := 0 } : LoadImage).rating = 0 ∧
    ((held.fse.channels[c11]).state = .hold ∧ (held.fse.channels[c11]).lastEnding = some ending ∧
      (held.fse.channels[c11]).owner = some 3 ∧ (held.sp.queues[x3]).notices.length < 16) ∧
    (State.reset.fse.channels[c11]).state = .idle ∧ (stoppedChan.fse.channels[c11]).state = .stopped ∧
    (core.fse.steps[i511]).kind = .core ∧ (running.fse.steps[i511]).kind = .heat := by decide +kernel

/-- A fault in HOLD stops the channel and says so, naming the last step of the chain before (R17). -/
theorem test_fault_in_hold :
    after (.captureOverflow 11) (onProbe 11 (fun p => { p with stale := 2 })
        (onChan c11 (fun c => { c with lastEnding := some ending }) holding))
      (fun t => ((t.fse.channels[c11]).state, (t.sp.queues[x3]).notices.map (fun n => (n.code, n.p1, n.p2, n.p3))))
      = some (.stopped, [(.ended, 511, 9, 768)]) := by decide +kernel

theorem witness_CutoutTestRule :
    let fine := onLoad l21 (fun l => { l with rating := 1200 }) State.reset
    let testing := onLoad l21 (fun l => { l with rating := 1200, testing := true, testStation := some 3, tripLimit := 3500 }) State.reset
    let high := onLoad l21 (fun l => { l with tripLimit := 3501 }) testing
    21 < (22#8).toNat ∧ (21#8).toNat = l21.val ∧ (State.reset.hlu.loads[l21]).rating = 0 ∧
    (0 < (testing.hlu.loads[l21]).rating ∧ (testing.hlu.loads[l21]).testing = true) ∧
    (0 < (running.hlu.loads[l11]).rating ∧ running.inUse l11 = true) ∧
    (0 < (fine.hlu.loads[l21]).rating ∧ (fine.hlu.loads[l21]).testing = false ∧ fine.inUse l21 = false) ∧
    ((testing.hlu.loads[l21]).testing = true ∧ (testing.hlu.loads[l21]).testStation = some 3 ∧
      (testing.hlu.loads[l21]).tripLimit ≤ 3500 ∧ (testing.hlu.loads[l21]).trip = false ∧
      (testing.hlu.loads[l21]).checkFail = false) ∧
    ((high.hlu.loads[l21]).testing = true ∧ (high.hlu.loads[l21]).testStation = some 3 ∧
      3500 < (high.hlu.loads[l21]).tripLimit) := by decide +kernel

/-- L11 heats at its grant of 1000 in a budget of 1800. -/
def heating : State :=
  onPba (fun b => { b with inForce := 1800, available := 1800, cap := 1800 })
    (onLoad l11 (fun l => { l with active := true, setpoint := 2000, request := 1000, grant := 1000, preload := 1000, shadow := 200,
                                   phase := 7, output := true }) running)

theorem witness_VerificationRule :
    (oven.hlu.loads[l11]).checkFail = false ∧ 0 < (oven.hlu.loads[l11]).rating ∧
    (oven.hlu.loads[l11]).check ≠ checkOf l11 (oven.hlu.loads[l11]).rating (oven.hlu.loads[l11]).tripLimit ∧
    after .verificationExpiry oven (fun t => (t.hlu.loads[l11]).checkFail) = some true := by decide +kernel

theorem witness_EveryStepKeepsTheOutputsSound :
    heating.HeatSound ∧ ∃ t, step { heating with pending := [.outputTick l11] } = .next t := by
  refine ⟨?_, _, rfl⟩
  unfold State.HeatSound
  decide +kernel

theorem witness_LawsOfTheLoads : heating.HeatSound ∧ heating.BudgetHeld ∧ (heating.hlu.loads[l11]).output = true := by
  unfold State.HeatSound State.BudgetHeld
  decide +kernel

theorem witness_BudgetCommandsAndAllocation :
    let s := onPba (fun b => { b with cap := 7000, unmanaged := 1200, available := 5800 }) State.reset
    let starved := onPba (fun b => { b with noHeadroom := true, headroomSource := some l11 }) State.reset
    s.pba.noHeadroom = false ∧ s.pba.available ≤ min 65000 (65001#16).toNat - s.pba.unmanaged ∧
    s.pba.available ≤ min 65000 (7000#16).toNat - min 65000 (1200#16).toNat ∧
    min 65000 (5000#16).toNat - s.pba.unmanaged < s.pba.available ∧
    min 65000 (7000#16).toNat - min 65000 (1201#16).toNat < s.pba.available ∧
    (starved.pba.available = 0 ∧ 0 < min 65000 (1#16).toNat - starved.pba.unmanaged ∧ starved.pba.noHeadroom = true ∧
      starved.pba.headroomSource = some l11) ∧
    0 < (oven.hlu.loads[l11]).rating ∧ (oven.hlu.loads[l21]).rating = 0 := by decide +kernel

/-- C11 in RUN, and wanting 900 W: with CRITICAL it is of class 1, and short of 899 W. -/
theorem witness_BudgetCommandsAndAllocation_ovens :
    (∀ critical ∈ [true, false],
      let t := onLoad l11 (fun l => { l with request := 500 }) (running.setStep i511
        { heatStep with claim := some c11, flags := { heatStep.flags with critical := critical } })
      (t.fse.channels[c11]).state = .run ∧ (t.fse.channels[c11]).current = some i511 ∧
      (t.fse.steps[i511]).flags.critical = critical ∧ 0 < (t.hlu.loads[ovenLoad c11]).rating ∧
      (t.asks[l11]).installed = true ∧ (t.asks[l11]).demand = 900 ∧ (t.asks[l11]).cls = (if critical then 0 else 1) ∧
      grantOf t.asks 899 t.pba.pointer l11 < 900 ∧ (∀ m : LoadIx, m ≠ l11 → (t.asks[m]).installed = false)) ∧
    (holding.fse.channels[c11]).state = .hold ∧ (oven.fse.channels[c11]).state = .idle ∧
    (stoppedChan.fse.channels[c11]).state = .stopped ∧ l11 = ovenLoad c11 := by decide +kernel

/-- W7 of a kind with a reservation, W0 of one without, L20 and L21. -/
theorem witness_BudgetCommandsAndAllocation_others :
    let t := onLoad 20 (fun l => { l with rating := 1500 }) (onLoad l21 (fun l => { l with rating := 1200 })
      (onLoad 19 (fun l => { l with rating := 300 }) (onWarmer w7 (fun w => { w with kind := k3 }) (expiring .waitPlates 0))))
    0 < (t.hlu.loads[(20 : LoadIx)]).rating ∧ 0 < (t.hlu.loads[l21]).rating ∧ t.dlu.racks = [] ∧
    (19 : LoadIx) = warmerLoad w7 ∧ 0 < (t.hlu.loads[(19 : LoadIx)]).rating ∧ t.ppu.AgeListRight ∧
    (t.ppu.entries[r15]).map ResRec.kind = some (t.ppu.warmers[w7]).kind ∧ (t.ppu.warmers[(0 : WarmerIx)]).kind ≠ k3 := by
  unfold Ppu.AgeListRight
  decide +kernel

/-- A class-1 oven that wants 900 W of 899 is short, and L11 is told as the source (R71, R80). -/
theorem test_safety_short :
    let s := onPba (fun b => { b with cap := 899, available := 899 })
      (onLoad l11 (fun l => { l with request := 500 }) (onChan c11 (fun c => { c with state := .hold }) oven))
    after .intervalExpiry s (fun t => ((t.fm.conds[Cond.safetyShort.index]).latched,
      (t.fm.conds[Cond.safetyShort.index]).firstSource)) = some (true, some 11) := by decide +kernel

/-- The loads of 11.3, as an allocation reads them. -/
def banquet : Vector Ask 22 :=
  table fun l =>
    match l.val with
    | 0 => ⟨true, 0, 1800, 360, 50⟩
    | 1 => ⟨true, 1, 1800, 900, 50⟩
    | 2 => ⟨true, 1, 1800, 1800, 50⟩
    | 12 => ⟨true, 1, 300, 120, 50⟩
    | 13 => ⟨true, 1, 300, 300, 50⟩
    | 20 => ⟨true, 0, 1500, 1500, 50⟩
    | 21 => ⟨true, 1, 1200, 600, 50⟩
    | _ => ⟨false, 2, 0, 0, 50⟩

theorem witness_DivisionOfTheBudget :
    (classSum banquet 0 ≤ budgetFor banquet 3800 0 ∧ (20 : LoadIx) ∈ members banquet 0) ∧
    (budgetFor banquet 3800 1 < classSum banquet 1 ∧ l21 ∈ members banquet 1) ∧ 0 < (banquet[l21]).rating ∧ 313 ≤ (banquet[l21]).rating := by
  decide +kernel

theorem witness_EveryStepKeepsTheBudgetHeld :
    heating.BudgetHeld ∧ ∃ t, step { heating with pending := [.intervalExpiry] } = .next t := by
  refine ⟨?_, _, rfl⟩
  unfold State.BudgetHeld
  decide +kernel

/-! ### Witnesses: chapters 4 to 6 -/

/-- K3 with plates everywhere: STOCK is their sum. -/
def plates : State :=
  onPool k3 (fun _ => { warm := 40, cool := 60, floor := 20, soiled := 30, wash := 0, quar := 10, stock := 160, found := 0 }) State.reset

theorem witness_InventorySetRule :
    3 < (4#8).toNat ∧ (3#8).toNat = k3.val ∧
    (99#32).toNat < (plates.ppu.pools[k3]).warm + (plates.ppu.pools[k3]).floor + (plates.ppu.pools[k3]).soiled
      + (plates.ppu.pools[k3]).wash + (plates.ppu.pools[k3]).quar ∧
    (plates.ppu.pools[k3]).warm + (plates.ppu.pools[k3]).floor + (plates.ppu.pools[k3]).soiled + (plates.ppu.pools[k3]).wash
      + (plates.ppu.pools[k3]).quar ≤ (100#32).toNat := by decide +kernel

theorem witness_MovementsAndPlateCommands :
    let p := plates.ppu.pools[k3]
    Place.floor ≠ Place.soiled ∧ p.at .soiled + 30 < 4294967296 ∧ p.stock + 30 < 4294967296 ∧ p.found + 30 < 4294967296 ∧
    p.Balanced ∧ (∃ q : Place, q ≠ .floor ∧ q ≠ .soiled) ∧
    3 < (4#8).toNat ∧ (3#8).toNat = k3.val ∧ p.soiled + min 9999 (10000#16).toNat < 4294967296 ∧
    p.stock + min 9999 (10000#16).toNat < 4294967296 ∧ p.found + min 9999 (10000#16).toNat < 4294967296 := by
  refine ⟨by decide, by decide +kernel, by decide +kernel, by decide +kernel, ?_, ⟨.warm, by decide, by decide⟩, by decide, by decide,
    by decide +kernel, by decide +kernel, by decide +kernel⟩
  unfold PoolRec.Balanced
  decide +kernel

def flowHolding (owed : Owed) : State :=
  onDlu (fun d => { d with flow := { holding := true, soiledTotal := 400, owed := owed, refreshLeft := some 1 } }) State.reset

theorem witness_FlowControlRule :
    let flowing := (Ev.start State.reset)
    let held := (Ev.start (flowHolding .none))
    let owing := onDlu (fun d => { d with flow := { d.flow with holding := false } }) (flowHolding .release)
    (flowing.s.dlu.flow.holding = false ∧ flowing.s.dlu.settings.high ≤ 400) ∧
    (flowing.s.dlu.flow.holding = false ∧ 399 < flowing.s.dlu.settings.high) ∧
    (held.s.dlu.flow.holding = true ∧ held.s.dlu.settings.low < 201) ∧
    ((flowHolding .none).dlu.flow.refreshLeft.isSome = true ∧ (flowHolding .none).dlu.flow.holding = true) ∧
    (owing.dlu.flow.refreshLeft.isSome = true ∧ owing.dlu.flow.holding = false ∧ owing.dlu.flow.owed = .release) := by
  decide +kernel

theorem witness_EveryStepKeepsThePool :
    plates.PoolSound ∧ plates.PoolHeadroom ∧ ∃ t, step { plates with pending := [.returnPlates x3 3 50] } = .next t := by
  refine ⟨?_, ?_, _, rfl⟩
  · unfold State.PoolSound PoolRec.Balanced
    decide +kernel
  · unfold State.PoolHeadroom
    decide +kernel

/-- W7 holds K3: 40 plates of at most 50, READY, in SERVING mode. -/
def serving : State :=
  onWarmer w7 (fun w => { w with kind := k3, capacity := 50, count := 40, mode := .serving, readiness := .ready, sub := 7 }) plates

def warmerImage : WarmerImage := { kind := 3, capacity := 40, pitch := 8, soakTime := 300, setpoint := 800, band := 50 }

theorem witness_WarmerCommandRules :
    let cold := onWarmer w7 (fun w => { w with readiness := .cold }) serving
    let bare := onWarmer w7 (fun w => { w with capacity := 0, count := 0 }) serving
    let empty := onWarmer w7 (fun w => { w with count := 0 }) serving
    7 < (8#8).toNat ∧ (7#8).toNat = w7.val ∧ (State.reset.ppu.warmers[w7]).capacity = 0 ∧
    (0 < (serving.ppu.warmers[w7]).capacity ∧
      (serving.ppu.pools[k3]).warm + min (60#8).toNat (serving.ppu.warmers[w7]).capacity < 4294967296 ∧
      (serving.ppu.pools[k3]).cool + (serving.ppu.warmers[w7]).count < 4294967296 ∧
      (serving.ppu.pools[k3]).stock + min (60#8).toNat (serving.ppu.warmers[w7]).capacity + (serving.ppu.warmers[w7]).count < 4294967296 ∧
      (serving.ppu.pools[k3]).found + min (60#8).toNat (serving.ppu.warmers[w7]).capacity + (serving.ppu.warmers[w7]).count < 4294967296) ∧
    3 < ({ warmerImage with kind := 4 } : WarmerImage).kind.toNat ∧ warmerImage.kind.toNat = k3.val ∧
    ((2 : Kind) ≠ (serving.ppu.warmers[w7]).kind ∧ 0 < (serving.ppu.warmers[w7]).count) ∧
    min 240 ({ warmerImage with capacity := 39 } : WarmerImage).capacity.toNat < (serving.ppu.warmers[w7]).count ∧
    (¬ (k3 ≠ (cold.ppu.warmers[w7]).kind ∧ 0 < (cold.ppu.warmers[w7]).count) ∧
      (cold.ppu.warmers[w7]).count ≤ min 240 warmerImage.capacity.toNat) ∧
    ((bare.ppu.warmers[w7]).count ≤ min 240 warmerImage.capacity.toNat ∧ (bare.ppu.warmers[w7]).capacity = 0 ∧
      0 < warmerImage.capacity.toNat) ∧
    ((empty.ppu.warmers[w7]).count ≤ min 240 ({ warmerImage with capacity := 0 } : WarmerImage).capacity.toNat ∧
      0 < (empty.ppu.warmers[w7]).capacity) := by decide +kernel

/-- W7 at SETPOINT − BAND of 750 dC with its load installed, and P31 about to convert 750 dC with three values in its window. -/
def warming (readiness : Readiness) (v : Int) : State :=
  onLoad 19 (fun l => { l with rating := 300 }) (onProbe 31 (fun p => { p with
    settled := true, reading := v, periodOpen := true, highTime := some 7000, capture := 7000, window := [750, 750, 750] })
    (onWarmer w7 (fun w => { w with readiness := readiness, setpoint := 800, band := 50, soakTime := 300 }) serving))

/-- A reading at SETPOINT − BAND and one below it, and the conversions and overflows of the probe (R101, R102). -/
theorem witness_WarmerCommandRules_readings :
    (∀ v ∈ [(749 : Int), 750], ∀ readiness ∈ [Readiness.cold, .soaking, .ready],
      let s := warming readiness v
      let p := s.hlu.probes[warmerProbe w7]
      p.settled = true ∧ p.reading = v ∧ p.periodOpen = true ∧ p.highTime = some 7000 ∧ p.window = [750, 750, 750] ∧
      p.faulted = false ∧ p.capture = 7000 ∧ (s.hlu.loads[warmerLoad w7]).state = .enabled ∧
      0 < (s.hlu.loads[warmerLoad w7]).rating ∧ 750 < (s.hlu.loads[warmerLoad w7]).tripLimit ∧
      (s.ppu.warmers[w7]).setpoint - (s.ppu.warmers[w7]).band = 750 ∧ (s.ppu.warmers[w7]).readiness = readiness ∧
      0 < (s.ppu.warmers[w7]).capacity) ∧
    convert (min 65535 (7000 + (13000#16).toNat)) 7000 = .valid 750 ∧ convert (min 65535 (7000 + (0#16).toNat)) 7000 = .invalid ∧
    ((onLoad 19 (fun l => { l with tripLimit := 750 }) (warming .ready 749)).hlu.loads[warmerLoad w7]).tripLimit ≤ 750 ∧
    ((onProbe 31 (fun p => { p with invalidRun := 3 }) (warming .ready 749)).hlu.probes[warmerProbe w7]).invalidRun = 3 ∧
    ((onProbe 31 (fun p => { p with stale := 2 }) (warming .ready 749)).hlu.probes[warmerProbe w7]).stale = 2 ∧
    ((onProbe 31 (fun p => { p with lost := some .low }) (warming .ready 749)).hlu.probes[warmerProbe w7]).faulted = true := by
  decide +kernel

/-- A mean of 750 dC starts the soak of a COLD warmer, one of 749 dC takes a READY one to COLD, and so does the third overflow
of its probe (R101, R102). -/
theorem test_warmer_readings :
    let low := onProbe 31 (fun p => { p with window := [749, 749, 749] }) (warming .ready 750)
    after (.probeRisingEdge 31 13000) (warming .cold 749)
      (fun t => ((t.ppu.warmers[w7]).readiness, (t.ppu.warmers[w7]).soakLeft)) = some (.soaking, 300) ∧
    after (.probeRisingEdge 31 13000) low (fun t => (t.ppu.warmers[w7]).readiness) = some .cold ∧
    after (.captureOverflow 31) (onProbe 31 (fun p => { p with stale := 2 }) (warming .ready 750))
      (fun t => (t.ppu.warmers[w7]).readiness) = some .cold := by decide +kernel

/-- SET WARMER judges readiness at once: a settled reading at SETPOINT − BAND starts the soak (R93, R101). -/
theorem test_setWarmer_judges :
    after (.setWarmer 3 7 warmerImage)
      (onLoad 19 (fun l => { l with rating := 300 }) (onProbe 31 (fun p => { p with settled := true, reading := 750 })
        (onWarmer w7 (fun w => { w with readiness := .cold }) serving)))
      (fun t => ((t.ppu.warmers[w7]).readiness, (t.ppu.warmers[w7]).soakLeft)) = some (.soaking, 300) := by decide +kernel

theorem witness_SoakTimerAndLoadSwitch :
    let soaking := fun n => onWarmer w7 (fun w => { w with readiness := .soaking, soakLeft := n }) serving
    ((soaking 2).ppu.warmers[w7]).readiness = .soaking ∧ 1 < ((soaking 2).ppu.warmers[w7]).soakLeft ∧
    ((soaking 1).ppu.warmers[w7]).soakLeft ≤ 1 := by decide +kernel

theorem witness_EncoderRule :
    let r := serving.ppu.warmers[w7]
    let early : WarmerRec := { r with sub := 0 }
    (State.reset.ppu.warmers[w7]).capacity = 0 ∧ ({ r with encoderFault := true } : WarmerRec).encoderFault = true ∧
    turn r.pair ⟨false, false⟩ = .none ∧
    (0 < early.capacity ∧ early.encoderFault = false ∧ turn early.pair ⟨false, true⟩ = .rise ∧ early.sub + 1 < early.pitch ∧
      -(early.pitch : Int) < early.sub + 1) ∧
    (turn early.pair ⟨true, false⟩ = .fall ∧ -(early.pitch : Int) < early.sub - 1 ∧ early.sub - 1 < early.pitch) ∧
    (turn r.pair ⟨true, true⟩ = .invalid ∧ r.errorRun + 1 < 4) ∧
    (0 < r.capacity ∧ r.encoderFault = false ∧ turn r.pair ⟨false, true⟩ = .rise ∧ (r.pitch : Int) = r.sub + 1 ∧ 0 < r.count ∧
      r.mode = .serving ∧ 0 < (serving.ppu.pools[r.kind]).warm ∧ (serving.ppu.pools[r.kind]).floor + 1 < 4294967296 ∧
      (serving.ppu.pools[r.kind]).stock < 4294967296 ∧ (serving.ppu.pools[r.kind]).found < 4294967296) := by decide +kernel

theorem witness_CountStepRules :
    let at_ := fun (mode : Mode) (count floor errors : Nat) (sub : Int) =>
      onPool k3 (fun p => { p with floor := floor })
        (onWarmer w7 (fun w => { w with mode := mode, count := count, errorRun := errors, sub := sub }) serving)
    let r := (at_ .loading 40 0 3 7).ppu.warmers[w7]
    let p := (at_ .loading 40 0 3 7).ppu.pools[k3]
    (0 < r.capacity ∧ 0 < r.pitch ∧ r.encoderFault = false ∧ turn r.pair ⟨true, true⟩ = .invalid ∧ 3 ≤ r.errorRun) ∧
    (turn r.pair ⟨false, true⟩ = .rise ∧ r.sub + 1 = (r.pitch : Int)) ∧
    (turn r.pair ⟨true, false⟩ = .fall ∧ ((at_ .serving 50 1 0 (-7)).ppu.warmers[w7]).sub - 1 = -(r.pitch : Int)) ∧
    ((at_ .loading 0 0 0 7).ppu.warmers[w7]).count = 0 ∧
    ((at_ .loading 50 0 0 (-7)).ppu.warmers[w7]).capacity ≤ ((at_ .loading 50 0 0 (-7)).ppu.warmers[w7]).count ∧
    (p.warm + 1 < 4294967296 ∧ p.cool + 1 < 4294967296 ∧ p.stock + 1 < 4294967296 ∧ p.found + 1 < 4294967296 ∧ 0 < p.warm) ∧
    (0 < r.count ∧ r.count < r.capacity ∧ r.mode = .loading ∧ ((at_ .serving 40 1 0 (-7)).ppu.warmers[w7]).mode = .serving) ∧
    0 < ((at_ .serving 40 1 0 (-7)).ppu.pools[k3]).floor ∧ ((at_ .serving 40 0 0 (-7)).ppu.pools[k3]).floor = 0 := by decide +kernel

/-- A PUT BACK takes a plate from FLOOR (R100), and a count step above CAPACITY is an ENCODER FAULT (R97). -/
theorem test_put_back :
    let s := fun n => onWarmer w7 (fun w => { w with sub := -7, count := n }) serving
    after (.encoderTransition 7 true false) (s 40) (fun t => ((t.ppu.warmers[w7]).count, (t.ppu.pools[k3]).warm,
      (t.ppu.pools[k3]).floor)) = some (41, 41, 19) ∧
    after (.encoderTransition 7 true false) (s 50) (fun t => ((t.ppu.warmers[w7]).count, (t.ppu.warmers[w7]).encoderFault,
      (t.fm.conds[Cond.encoder.index]).active)) = some (50, true, [7]) := by decide +kernel

/-- A live reservation of K3 at entry 15. -/
def entryOf (state : ResState) (drawn : Nat) : ResRec :=
  { kind := k3, count := 20, requested := 20, drawn := drawn, owner := .station 3, state := state, shortened := false
    creation := 77, createdAt := 5 }

def reserved (state : ResState) (drawn : Nat) : State :=
  onPpu (fun p => { p with ageList := [r15] }) (serving.setEntry r15 (some (entryOf state drawn)))

/-- The same with another owner. -/
def onEntry (owner : ResOwner) (state : ResState) (drawn : Nat) : State :=
  (reserved state drawn).setEntry r15 (some { entryOf state drawn with owner := owner })

/-- Every entry of the reservation table is live. -/
def tableFull : State :=
  onPpu (fun p => { p with entries := Vector.replicate 16 (some (entryOf .ready 0)), ageList := List.finRange 16 }) serving

/-- Where every live entry meets a test, each entry found live meets it. -/
theorem entries_all {s : State} {f : ResIx → ResRec → Bool} (h : ∀ j : ResIx, (s.ppu.entries[j]).all (f j) = true) (j : ResIx)
    (r : ResRec) (hj : s.ppu.entries[j] = some r) : f j r = true := by
  have := h j
  rw [hj] at this
  simpa using this

theorem witness_ReserveAndCancelRules :
    3 < (4#8).toNat ∧ (3#8).toNat = k3.val ∧ (0#8).toNat = 0 ∧ 240 < (241#8).toNat ∧
    serving.ppu.reserveCapacity k3 < (51#8).toNat ∧
    (0 < (50#8).toNat ∧ (50#8).toNat ≤ 240 ∧ (50#8).toNat ≤ tableFull.ppu.reserveCapacity k3 ∧ tableFull.ppu.freeEntry = none) ∧
    (0 < (20#8).toNat ∧ (20#8).toNat ≤ 240 ∧ (20#8).toNat ≤ (reserved .ready 0).ppu.reserveCapacity k3 ∧
      (reserved .ready 0).ppu.freeEntry = some 0 ∧ (reserved .ready 0).ppu.AgeListRight ∧
      ∀ (j : ResIx) (r : ResRec), (reserved .ready 0).ppu.entries[j] = some r → r.kind = k3 → r.state ≠ .waiting) ∧
    15 < (16#8).toNat ∧ (15#8).toNat = r15.val ∧ (∀ r, serving.ppu.entries[r15] = some r → r.creation ≠ (77#16).toNat) ∧
    ((reserved .drawing 3).ppu.entries[r15] = some (entryOf .drawing 3) ∧ (entryOf .drawing 3).creation = (77#16).toNat ∧
      (entryOf .drawing 3).owner ≠ .station 2 ∧ (entryOf .drawing 3).owner = .station x3 ∧
      (∀ (j : ResIx) (q : ResRec), j ≠ r15 → (reserved .drawing 3).ppu.entries[j] = some q → q.kind = k3 → q.state ≠ .waiting) ∧
      (reserved .drawing 3).fse.entryWaiters = []) := by
  refine ⟨by decide, by decide, by decide, by decide, by decide +kernel, by decide +kernel,
    ⟨by decide, by decide, by decide +kernel, by decide +kernel, ?_, ?_⟩, by decide, by decide, ?_,
    by decide +kernel, by decide, by decide, by decide, ?_, by decide +kernel⟩
  · unfold Ppu.AgeListRight
    decide +kernel
  · intro j r h _
    have := entries_all (f := fun _ r => decide (r.state ≠ .waiting)) (by decide +kernel) j r h
    simpa using this
  · intro r h
    have := entries_all (f := fun _ _ => false) (by decide +kernel) r15 r h
    simp at this
  · intro j q _ h _
    have := entries_all (f := fun _ r => decide (r.state ≠ .waiting)) (by decide +kernel) j q h
    simpa using this

theorem witness_DrawsAndTheReservationLaw :
    ((∀ x ∈ (reserved .waiting 0).ppu.live k3, x.2.state = .waiting) ∧
      (reserved .drawing 18).ppu.chargeTo k3 = some (r15, entryOf .drawing 18) ∧
      (entryOf .drawing 18).drawn + 1 < (entryOf .drawing 18).count ∧
      (reserved .ready 0).ppu.chargeTo k3 = some (r15, entryOf .ready 0)) ∧
    (reserved .waiting 0).ppu.AgeListRight ∧ (reserved .waiting 0).ppu.readyWarm k3 ≤ ((reserved .waiting 0).ppu.pools[k3]).warm ∧
    (reserved .waiting 0).ppu.LawHolds k3 ∧
    ¬ (onPool k3 (fun p => { p with warm := 10 }) (reserved .ready 0)).ppu.LawHolds k3 ∧
    (onPool k3 (fun p => { p with warm := 10 }) (reserved .ready 0)).ppu.AgeListRight ∧
    ((reserved .drawing 19).ppu.chargeTo k3 = some (r15, entryOf .drawing 19) ∧
      (entryOf .drawing 19).count ≤ (entryOf .drawing 19).drawn + 1 ∧ (entryOf .drawing 19).owner = .station 3) ∧
    ((onEntry (.channel c11) .drawing 19).ppu.chargeTo k3 = some (r15, { entryOf .drawing 19 with owner := .channel c11 })) ∧
    ((reserved .ready 0).ppu.LawHolds k3) ∧
    ((onPool k3 (fun p => { p with warm := 10 }) (reserved .ready 0)).ppu.live k3 = [] ++ (r15, entryOf .ready 0) :: []) ∧
    (¬ (onPool k3 (fun p => { p with warm := 10 }) (onEntry (.channel c11) .ready 0)).ppu.LawHolds k3) ∧
    (∀ warm ∈ [0, 10],
      let s := onPool k3 (fun p => { p with warm := warm }) (reserved .drawing 0)
      let t := onPool k3 (fun p => { p with warm := warm }) (onEntry (.channel c11) .drawing 0)
      (¬ s.ppu.LawHolds k3 ∧ s.ppu.AgeListRight ∧ s.ppu.live k3 = [] ++ (r15, entryOf .drawing 0) :: []) ∧
      (¬ t.ppu.LawHolds k3 ∧ t.ppu.AgeListRight)) := by
  unfold Ppu.AgeListRight Ppu.LawHolds
  decide +kernel

/-- A WAITING entry behind a READY one of 20 plates, which the 40 ready plates cover for a COUNT of 20 and not of 21 (R114). -/
theorem witness_DrawsAndTheReservationLaw_evaluation :
    (∀ x ∈ (reserved .ready 0).ppu.live k3, x.2.state ≠ .waiting) ∧
    ∀ count ∈ [20, 21], ∀ owner ∈ [ResOwner.station 3, .channel c11],
      let r : ResRec := { entryOf .waiting 0 with count := count, owner := owner }
      let s := onPpu (fun p => { p with ageList := [0, r15] })
        ((serving.setEntry 0 (some (entryOf .ready 0))).setEntry r15 (some r))
      s.ppu.live k3 = [(0, entryOf .ready 0)] ++ (r15, r) :: [] ∧ r.state = .waiting ∧ (entryOf .ready 0).state ≠ .waiting ∧
      r.owner = owner ∧ r.count + s.ppu.sumOutstanding k3 = count + 20 ∧ s.ppu.readyWarm k3 = 40 := by decide +kernel

/-- 20 of the 40 plates of W7 are promised, and a step may unload one. -/
theorem witness_EveryStepKeepsTheReservationLaw :
    (reserved .drawing 19).ReservationsSound ∧
    ∃ t, step { reserved .drawing 19 with pending := [.encoderTransition w7 false true] } = .next t := by
  refine ⟨⟨?_, ?_, ?_, by decide +kernel, by decide +kernel⟩, _, rfl⟩
  · unfold Ppu.AgeListRight
    decide +kernel
  · unfold Ppu.LawHolds
    decide +kernel
  · intro i r h
    have := entries_all (f := fun _ r => decide (r.drawn < r.count)) (by decide +kernel) i r h
    simpa using this

def dishImage : DishImage :=
  { rinseSetpoint := 850, washSetpoint := 0, rinseMin := 820, dwellMin := 20, dwellMax := 20, groupM := 4, mmPerPulse := 25
    machineLength := 3000, high := 120, low := 120, holdTime := 300, clearingRole := 5, holdMessage := 1, releaseMessage := 2
    dishStation := 3 }

theorem witness_LabelRackAndSetDishRules :
    let full := onDlu (fun d => { d with labels := List.replicate 8 ⟨k3, 20⟩ }) State.reset
    3 < (4#8).toNat ∧ (3#8).toNat = k3.val ∧ (1#8) ≠ 0 ∧ 8 ≤ full.dlu.labels.length ∧ State.reset.dlu.labels.length < 8 ∧
    3 < ({ dishImage with dishStation := 4 } : DishImage).dishStation.toNat ∧ dishImage.dishStation.toNat = x3.val := by decide +kernel

def rack (rinse : Int) : RackRec :=
  { sequence := 41, kind := some k3, count := 20, enteredAt := 0, minRinse := rinse, rinseFault := false, jam := false }

theorem witness_RackEntryAndExitRules :
    let labelled := onDlu (fun d => { d with labels := [⟨k3, 20⟩] }) plates
    let full := onDlu (fun d => { d with racks := List.replicate 10 (rack 845) }) labelled
    let washed : Int → State := fun v =>
      onDlu (fun d => { d with racks := [rack v] }) (onPool k3 (fun p => { p with wash := 20 }) { plates with clock := 20 })
    State.reset.dlu.labels = [] ∧
    (labelled.dlu.labels = ⟨k3, 20⟩ :: [] ∧ (labelled.ppu.pools[k3]).wash + 20 < 4294967296 ∧
      (labelled.ppu.pools[k3]).quar + 20 < 4294967296 ∧ (labelled.ppu.pools[k3]).stock + 20 < 4294967296 ∧
      (labelled.ppu.pools[k3]).found + 20 < 4294967296 ∧ labelled.dlu.racks.length < 10 ∧ 10 ≤ full.dlu.racks.length) ∧
    State.reset.dlu.racks = [] ∧
    ((onDlu (fun d => { d with racks := [{ rack 845 with kind := none }] }) plates).dlu.racks = { rack 845 with kind := none } :: []) ∧
    ((washed 820).dlu.racks = rack 820 :: [] ∧ (rack 820).kind = some k3 ∧ (rack 820).count ≤ ((washed 820).ppu.pools[k3]).wash ∧
      ((washed 820).ppu.pools[k3]).cool + 20 < 4294967296 ∧ ((washed 820).ppu.pools[k3]).quar + 20 < 4294967296 ∧
      ((washed 820).ppu.pools[k3]).stock < 4294967296 ∧ ((washed 820).ppu.pools[k3]).found < 4294967296 ∧
      (rack 820).rinseFault = false ∧ (washed 820).dlu.settings.rinseMin ≤ (rack 820).minRinse ∧
      (washed 820).dlu.settings.dwellMin ≤ secondsSince (rack 820).enteredAt (washed 820).clock) ∧
    ((washed 819).dlu.racks = rack 819 :: [] ∧ ¬ (washed 819).dlu.settings.rinseMin ≤ (rack 819).minRinse) := by decide +kernel

theorem witness_JamCheckAndConveyorRules :
    let openGroup : Conveyor := { moving := false, seen := true, pulses := 14, groupOpen := true, base := 0, spannedStall := false
                                  speed := 0, lastGroupMs := 0 }
    Conveyor.reset.groupOpen = false ∧ openGroup.groupOpen = true ∧ openGroup.pulses + 1 < DishSettings.reset.groupM ∧
    ¬ ({ openGroup with pulses := 15 } : Conveyor).pulses + 1 < DishSettings.reset.groupM := by decide

/-! ### Witnesses: chapters 7 and 8 -/

/-- B95 is AVAILABLE at pager address 500. -/
def staffed : State := onBadge b95 (fun b => { b with address := some 500, state := .available, role := 4 }) State.reset

def aPage : PageRec :=
  { number := 255, priority := .normal, originator := .station 3, noticeStation := some 3, reportTo := .station
    addressee := ⟨.badge b95, none⟩, escalation := none, message := 7, parameter := 9, ackPolicy := .all, escalated := false
    state := .sent, arrival := 0, sendingOrder := 1, recipients := [0, b95], pending := [], acked := [], deadline := some 100
    submittedAt := 3 }

def paging (p : PageRec) : State := onPgu (fun g => { g with queue := [p] }) staffed

theorem witness_RosterCommands :
    let shared := onBadge 0 (fun b => { b with address := some 501 }) staffed
    let away := onBadge b95 (fun b => { b with state := .offShift }) staffed
    95 < (96#8).toNat ∧ (95#8).toNat = b95.val ∧
    ((501#24) ≠ 0 ∧ ∃ o : BadgeIx, o ≠ b95 ∧ (shared.pgu.badges[o]).address = some (501#24).toNat) ∧
    (¬ ((0#24) ≠ 0) ∧ (staffed.pgu.badges[b95]).state ≠ .offShift) ∧
    ((¬ ∃ o : BadgeIx, o ≠ b95 ∧ ((paging aPage).pgu.badges[o]).address = some (501#24).toNat) ∧
      some (501#24).toNat ≠ ((paging aPage).pgu.badges[b95]).address ∧ ∃ p ∈ (paging aPage).pgu.queue, b95 ∈ p.recipients) ∧
    ((¬ ∃ o : BadgeIx, o ≠ b95 ∧ (staffed.pgu.badges[o]).address = some (500#24).toNat) ∧
      some (500#24).toNat = (staffed.pgu.badges[b95]).address) ∧
    2 < (3#8).toNat ∧ (State.reset.pgu.badges[b95]).address = none ∧ (staffed.pgu.badges[b95]).address ≠ none ∧
    (∀ b : BadgeIx, (staffed.pgu.badges[b]).address ≠ some (501#24).toNat) ∧
    ((staffed.pgu.badges[b95]).address = some (500#24).toNat ∧
      (∀ o : BadgeIx, (staffed.pgu.badges[o]).address = some (500#24).toNat → o = b95)) ∧
    (away.pgu.badges[b95]).state = .offShift ∧ (staffed.pgu.badges[b95]).state = .available ∧
    ((onBadge b95 (fun b => { b with state := .onBreak }) staffed).pgu.badges[b95]).state = .onBreak := by
  refine ⟨by decide, by decide, ⟨by decide, 0, by decide, by decide +kernel⟩, by decide +kernel,
    ⟨by decide +kernel, by decide +kernel, aPage, by decide +kernel, by decide⟩, by decide +kernel, by decide, by decide +kernel,
    by decide +kernel, by decide +kernel, by decide +kernel, by decide +kernel, by decide +kernel, by decide +kernel⟩

theorem witness_EligibilityChain :
    let g := staffed.pgu
    let resting := (onBadge b95 (fun b => { b with state := .onBreak }) staffed).pgu
    (State.reset.pgu.badges[b95]).state = .offShift ∧ (g.badges[b95]).state ≠ .offShift ∧
    ((⟨.role 4, none⟩ : Addressee).target ≠ .badge b95 ∧ resting.enables[0] = true ∧ (resting.badges[b95]).state = .onBreak ∧
      Priority.normal ≠ .urgent) ∧
    ((paging aPage).pgu.enables[1] = true ∧ (paging aPage).pgu.engaged b95 = true ∧ (⟨.role 4, none⟩ : Addressee).target ≠ .all) ∧
    ((g.badges[b95]).state = .available ∧ g.engaged b95 = false) := by decide +kernel

theorem witness_PageSubmissionRule :
    submissionOf { pageImage with priority := 4 } = none ∧ submissionOf { pageImage with ackPolicy := 3 } = none ∧
    submissionOf { pageImage with form := 5 } = none ∧ submissionOf { pageImage with form := 2, value := 16 } = none ∧
    submissionOf { pageImage with presence := 1 } = none ∧ submissionOf { pageImage with escForm := 1 } = none ∧
    submissionOf { pageImage with presence := 2, escForm := 0, escValue := 96 } = none ∧
    (submissionOf { pageImage with form := 2, value := 15, presence := 7, qualifier := 4, escForm := 3 }).isSome = true ∧
    (submissionOf pageImage).isSome = true := by decide

theorem witness_PageAndNumberingRules :
    let numbering := (onPgu (fun g => { g with nextNumber := 255 }) (paging aPage)).pgu
    let full := onPgu (fun g => { g with queue := List.replicate 48 aPage }) staffed
    let down := onPgu (fun g => { g with linkUp := false }) staffed
    submissionOf { pageImage with priority := 4 } = none ∧ (submissionOf pageImage).isSome = true ∧ 48 ≤ full.pgu.queue.length ∧
    (down.pgu.queue.length < 48 ∧ down.pgu.linkUp = false) ∧
    (staffed.pgu.queue = [] ∧ staffed.pgu.linkUp = true ∧ staffed.pgu.inFlight = none ∧
      (submissionOf pageImage).map (fun p => p.addressee.target) = some (.badge b95) ∧
      (staffed.pgu.badges[b95]).state ≠ .offShift ∧ (staffed.pgu.badges[b95]).address = some 500) ∧
    (numbering.nextNumber < 256 ∧ numbering.queue.length < 48 ∧ numbering.retention.length ≤ 8) ∧
    ((paging aPage).pgu.queue.length < 48 ∧ (paging aPage).pgu.linkUp = true ∧ (paging aPage).pgu.inFlight = none) := by
  decide +kernel

def pagingImage (enable : Byte) : PagingImage := { enables := #v[1, 1, 1, 1, 1, enable], windows := #v[9, 10, 900, 901] }

theorem witness_CancelPageAndSetPagingRules :
    255 < (256#16).toNat ∧ ((255#16).toNat ≤ 255 ∧ ∀ p ∈ staffed.pgu.queue, p.number ≠ (255#16).toNat) ∧
    ((paging aPage).pgu.queue.find? (fun q => decide (q.number = (255#16).toNat)) = some aPage ∧ aPage.originator ≠ .station 2 ∧
      aPage.originator = .station x3 ∧ (paging aPage).fse.placeWaiters = []) ∧
    (∃ i : Fin 6, 1 < ((pagingImage 2).enables[i]).toNat) ∧ (∀ i : Fin 6, ((pagingImage 1).enables[i]).toNat ≤ 1) := by
  decide +kernel

def aFlight (orphaned : Bool) : InFlight := { number := 255, badge := b95, address := 500, orphaned := orphaned, left := 2 }

/-- A transmission of the page to B95 is in flight. -/
def sending (orphaned : Bool) (queue : List PageRec) : State :=
  onPgu (fun g => { g with queue := queue, inFlight := some (aFlight orphaned) }) staffed

def sendingPage (recipients pending : List BadgeIx) : PageRec :=
  { aPage with state := .sending, deadline := none, recipients := recipients, pending := pending }

theorem witness_CompletionAndLinkRule :
    (∀ f, (sending false []).pgu.inFlight = some f → f.number ≠ (254#8).toNat ∨ f.address ≠ (500#24).toNat) ∧
    staffed.pgu.inFlight = none ∧
    ((sending false []).pgu.inFlight = some (aFlight false) ∧ (aFlight false).number = (255#8).toNat ∧
      (aFlight false).address = (500#24).toNat) := by
  refine ⟨?_, by decide +kernel, by decide +kernel, by decide, by decide⟩
  intro f h
  have : aFlight false = f := Option.some.inj (Eq.trans (by decide +kernel) h)
  subst this
  decide

theorem witness_CompletionPageAndRetryRules :
    let both := sendingPage [0, b95] [0, b95]
    let last := sendingPage [0, b95] [b95]
    let s := onBadge 0 (fun b => { b with address := some 400, state := .available }) (sending false [both])
    let idle := onPgu (fun g => { g with linkUp := false, inFlight := none }) s
    ((sending true []).pgu.inFlight = some (aFlight true) ∧ (sending true []).pgu.linkUp = true ∧ (sending true []).pgu.failures < 2 ∧
      (aFlight true).orphaned = true ∧ (sending true []).pgu.queue = []) ∧
    ((aFlight false).number = (255#8).toNat ∧ (aFlight false).address = (500#24).toNat ∧ (aFlight false).orphaned = false ∧
      (sending false [last]).pgu.queue = [last] ∧ last.number = (aFlight false).number ∧ last.state = .sending ∧
      last.ackPolicy ≠ .none ∧ last.recipients.filter (fun c => decide (c ≠ (aFlight false).badge)) ≠ [] ∧
      last.acked ≠ last.recipients.filter (fun c => decide (c ≠ (aFlight false).badge)) ∧
      last.pending.filter (fun c => decide (c ≠ (aFlight false).badge)) = []) ∧
    (s.pgu.queue = [both] ∧ both.pending.filter (fun c => decide (c ≠ (aFlight false).badge)) = 0 :: [] ∧
      (s.pgu.badges[(0 : BadgeIx)]).address = some 400) ∧
    staffed.pgu.linkUp = true ∧ (idle.pgu.linkUp = false ∧ idle.pgu.inFlight = none ∧ idle.pgu.queue = [both] ∧
      both.state = .sending ∧ both.pending = 0 :: [b95] ∧ (idle.pgu.badges[(0 : BadgeIx)]).address = some 400) ∧
    (onPgu (fun g => { g with linkUp := false }) staffed).pgu.queue = [] := by decide +kernel

/-- A page to role 4 that escalates to role 5, in a state, with its two orders. -/
def standing (number : Nat) (state : PageState) (priority : Priority) (arrival sendingOrder : Nat) : PageRec :=
  { aPage with
    number := number, priority := priority, state := state, addressee := ⟨.role 4, none⟩, escalation := some ⟨.role 5, none⟩
    arrival := arrival, sendingOrder := sendingOrder, deadline := none, recipients := if state = .queued then [] else [b95]
    pending := if state = .queued then [] else [b95] }

/-- These pages stand in the queue, and the order counter is 10. -/
def choosing (queue : List PageRec) : State := onPgu (fun g => { g with queue := queue, order := 10 }) staffed

/-- The head is the older of two HIGH pages round the counter, and it stands above the SENDING page (R168, R176). -/
theorem witness_CompletionPageAndRetryRules_head :
    let first := standing 1 .queued .high 65535 0
    let g := (choosing [standing 2 .queued .high 4 0, first, standing 3 .sending .normal 0 65530]).pgu
    first ∈ g.queue ∧ first.state = .queued ∧
    (∀ q ∈ g.queue, q.state = .queued → q ≠ first →
      first.priority.code < q.priority.code ∨
        (first.priority = q.priority ∧ orderAge g.order first.arrival < orderAge g.order q.arrival)) ∧
    ∀ q ∈ g.queue, q.state = .sending → first.priority.code < q.priority.code := by decide +kernel

/-- The foremost SENDING page is the older of two HIGH ones, and a HIGH head does not overtake it (R176). -/
theorem witness_CompletionPageAndRetryRules_foremost :
    let first := standing 3 .sending .high 0 65530
    let g := (choosing [standing 2 .queued .high 4 0, standing 4 .sending .high 0 2, first]).pgu
    first ∈ g.queue ∧ first.state = .sending ∧
    (∀ q ∈ g.queue, q.state = .sending → q ≠ first →
      first.priority.code < q.priority.code ∨
        (first.priority = q.priority ∧ orderAge g.order first.sendingOrder < orderAge g.order q.sendingOrder)) ∧
    (∀ q ∈ g.queue, q.state = .queued → first.priority.code ≤ q.priority.code) ∧
    first.pending = b95 :: [] ∧ (g.badges[b95]).address = some 500 ∧ (∀ q ∈ (paging aPage).pgu.queue, q.state = .sent) := by
  decide +kernel

/-- What the evaluation of a head finds: B95 to send to, B95 delivered already, and nobody (R161, R177). -/
theorem witness_CompletionPageAndRetryRules_evaluated :
    let h := standing 1 .queued .high 0 0
    let g := (choosing [h]).pgu
    g.accepted .high h.addressee = [b95] ∧ g.accepted .high ⟨.role 5, none⟩ = [] ∧ h.recipients = [] ∧ h.pending = [] ∧
    h.escalated = false ∧ h.escalation = some ⟨.role 5, none⟩ ∧ ({ h with recipients := [b95] } : PageRec).pending = [] ∧
    g.inFlight = none ∧ (sending false [sendingPage [0, b95] [0, b95]]).pgu.queue.find?
      (fun q => decide (q.number = (aFlight false).number)) = some (sendingPage [0, b95] [0, b95]) := by decide +kernel

/-- Of two HIGH pages QUEUED the older one is evaluated first, and it overtakes a SENDING page of a lower priority (R168, R176). -/
theorem test_selection_order :
    let g := (Ev.start (choosing [standing 2 .queued .high 4 0, standing 1 .queued .high 65535 0,
      standing 3 .sending .normal 0 65530])).select.s.pgu
    g.inFlight.map (fun f => (f.number, f.badge)) = some (1, b95) ∧
    g.queue.map (fun p => (p.number, p.state)) = [(2, .queued), (1, .sending), (3, .sending)] := by decide +kernel

def kept : Retained :=
  { number := 255, originator := .station 3, noticeStation := some 3, priority := .normal, message := 7, parameter := 9
    outcome := .unanswered, endedAt := 0, unanswered := [(b95, 500)] }

theorem witness_AckRule :
    let late := onPgu (fun g => { g with retention := [kept] }) staffed
    let half : PageRec := { aPage with acked := [0] }
    ((∀ p ∈ staffed.pgu.queue, p.number ≠ (255#8).toNat) ∧ ∀ r ∈ staffed.pgu.retention, r.number ≠ (255#8).toNat) ∧
    ((paging aPage).pgu.queue.find? (fun q => decide (q.number = (255#8).toNat)) = some aPage ∧
      ((paging aPage).pgu.badges[b95]).address = some (500#24).toNat ∧
      (∀ o : BadgeIx, ((paging aPage).pgu.badges[o]).address = some (500#24).toNat → o = b95)) ∧
    b95 ∈ ({ aPage with acked := [b95] } : PageRec).acked ∧
    (aPage.ackPolicy ≠ .none ∧ b95 ∈ aPage.recipients ∧ b95 ∉ aPage.pending ∧ b95 ∉ aPage.acked ∧ aPage.ackPolicy = .all ∧
      insertBy (fun a c => decide (a.val < c.val)) b95 aPage.acked ≠ aPage.recipients) ∧
    ((paging half).pgu.queue.find? (fun q => decide (q.number = (255#8).toNat)) = some half ∧
      insertBy (fun a c => decide (a.val < c.val)) b95 half.acked = half.recipients ∧ (paging half).fse.placeWaiters = [] ∧
      (paging half).pgu.inFlight = none ∧ half.reportTo = .station ∧ half.noticeStation = some x3) ∧
    ((∀ p ∈ late.pgu.queue, p.number ≠ (255#8).toNat) ∧
      late.pgu.retention.find? (fun q => decide (q.number = (255#8).toNat)) = some kept ∧
      kept.unanswered.find? (fun v => decide (v.2 = (500#24).toNat)) = some (b95, 500) ∧ kept.noticeStation = some x3) := by
  decide +kernel

/-- Every fault group pages role 4. -/
def pagingOn (s : State) : State := s.setFm { s.fm with groups := Vector.replicate 6 ⟨false, true, 4⟩ }

/-- A group that no condition of the list of R186 has latched, and that pages, owes its page. -/
theorem owesPage_of (f : Fm) (c : Cond) (h : (f.conds[c.index]).latched = false) (hp : (f.groups[c.group]).paging = true)
    (ha : ∀ d ∈ Cond.all, d.group = c.group → (f.conds[d.index]).latched = false) : f.OwesPage c :=
  ⟨h, hp, fun d => ha d (by cases d <;> decide)⟩

theorem witness_DeadlineRule :
    let esc : PageRec := { aPage with escalation := some ⟨.role 2, none⟩ }
    let down := onPgu (fun g => { g with linkUp := false }) (paging esc)
    let part : PageRec := { aPage with acked := [0] }
    let called : PageRec := { part with reportTo := .channel, originator := .channel c11 }
    let urgent : PageRec := { aPage with priority := .urgent }
    let fault : PageRec := { urgent with reportTo := .none, originator := .faultMonitor, noticeStation := none }
    let spent := onCond .unansweredUrgent (fun r => { r with latched := true }) (paging urgent)
    let pages := onPgu (fun g => { g with linkUp := false }) (pagingOn (paging urgent))
    (∀ p ∈ (paging (sendingPage [b95] [b95])).pgu.queue, p.number = (255#8).toNat → p.state ≠ .sent) ∧
    (down.pgu.queue.find? (fun q => decide (q.number = (255#8).toNat)) = some esc ∧ esc.state = .sent ∧ esc.deadline.isSome = true ∧
      esc.acked = [] ∧ esc.escalated = false ∧ esc.escalation.isSome = true ∧ down.pgu.linkUp = false) ∧
    (∀ p ∈ [part, aPage, called, urgent, fault, { urgent with reportTo := .channel, originator := .channel c11 }],
      (paging p).pgu.queue.find? (fun q => decide (q.number = (255#8).toNat)) = some p ∧ p.state = .sent ∧
        p.deadline.isSome = true ∧ (p.acked ≠ [] ∨ p.escalation = none) ∧ (paging p).fse.placeWaiters = []) ∧
    ((part.ackPolicy = .all ∧ part.acked ≠ []) ∧ part.reportTo = .station ∧ part.noticeStation = some x3) ∧
    (aPage.acked = [] ∧ aPage.priority ≠ .urgent ∧ called.reportTo = .channel ∧ called.originator = .channel c11) ∧
    (urgent.priority = .urgent ∧ urgent.acked = [] ∧ urgent.reportTo = .station ∧ fault.reportTo = .none) ∧
    ((spent.fm.conds[Cond.unansweredUrgent.index]).latched = true ∧ spent.pgu.queue = [urgent]) ∧
    ¬ (paging urgent).fm.OwesPage .unansweredUrgent ∧
    pages.fm.OwesPage .unansweredUrgent ∧ (pages.pgu.queue = [urgent] ∧ pages.pgu.linkUp = false) := by
  refine ⟨?_, ?_, ?_, ?_, ?_, ?_, ?_, fun h => absurd h.2.1 ?_, owesPage_of _ _ ?_ ?_ ?_, ?_⟩ <;> decide +kernel

/-! ### Witnesses: chapters 9 and 10, and the whole part -/

/-- A queue of 48 copies of a page, with the link DOWN. -/
def crowd (p : PageRec) : State := onPgu (fun g => { g with queue := List.replicate 48 p, linkUp := false }) State.reset

/-- FRAME ERROR stands latched, and ALERT with it. -/
def alarmed : State :=
  onCond .frameError (fun r => { r with latched := true, firstSource := some 2, firstAt := 9, occurrences := 1 })
    (State.reset.setFm { State.reset.fm with alert := true })

theorem witness_LatchingRule :
    let probed := onCond .probeLost (fun r => { r with active := [33] }) State.reset
    let pages := alarmed.setFm { alarmed.fm with groups := Vector.replicate 6 ⟨false, true, 4⟩ }
    (alarmed.fm.conds[Cond.frameError.index]).latched = true ∧
    ((State.reset.fm.conds[Cond.jam.index]).latched = false ∧ (State.reset.fm.groups[Cond.jam.group]).paging = false) ∧
    ((pages.fm.conds[Cond.slow.index]).latched = false ∧ (pages.fm.groups[Cond.slow.group]).paging = true ∧
      Cond.frameError.group = Cond.slow.group ∧ (pages.fm.conds[Cond.frameError.index]).latched = true) ∧
    (State.reset.sp.queues[x3]).notices.length < 16 ∧ 33 ∈ (probed.fm.conds[Cond.probeLost.index]).active ∧
    33 ∉ (State.reset.fm.conds[Cond.probeLost.index]).active ∧
    (∀ q ∈ [aPage, { aPage with state := .queued }],
      (pagingOn (crowd q)).fm.OwesPage .jam ∧ 48 ≤ (pagingOn (crowd q)).pgu.queue.length) ∧
    ((crowd { aPage with state := .queued }).pgu.linkUp = false ∧
      ∀ q ∈ (crowd { aPage with state := .queued }).pgu.queue, q = { aPage with state := .queued }) ∧
    (∀ q ∈ (crowd aPage).pgu.queue, q.state = .queued → q.priority = .urgent) ∧
    ((pagingOn State.reset).fm.OwesPage .jam ∧ (pagingOn State.reset).pgu.queue.length < 48 ∧
      (pagingOn State.reset).pgu.linkUp = true ∧ (pagingOn State.reset).pgu.inFlight = none) ∧
    ((pagingOn (onPgu (fun g => { g with linkUp := false }) State.reset)).fm.OwesPage .jam) := by
  refine ⟨?_, ?_, ?_, ?_, ?_, ?_, ?_, ?_, ?_, ⟨owesPage_of _ _ ?_ ?_ ?_, ?_⟩, owesPage_of _ _ ?_ ?_ ?_⟩
  case refine_7 =>
    intro q _
    exact ⟨owesPage_of (pagingOn State.reset).fm .jam (by decide +kernel) (by decide +kernel) (by decide +kernel), by
      simp [crowd, pagingOn, onPgu, State.setFm, State.setPgu]⟩
  all_goals decide +kernel

theorem witness_FaultCommandRules :
    (0#8) = 0 ∧ 63 < (64#8).toNat ∧ ((63#8) ≠ 0 ∧ (63#8).toNat ≤ 63 ∧ (63#8).getLsbD Cond.probeLost.group.val = true) ∧
    (1#8).getLsbD Cond.jam.group.val = false ∧
    (State.reset.fm.conds[Cond.probeLost.index]).active = [] ∧
    ((onCond .probeLost (fun r => { r with active := [3, 33] }) State.reset).fm.conds[Cond.probeLost.index]).active = 3 :: [33] ∧
    (∃ g : Group, 1 < ((#v[0, 0, 0, 0, 0, 2] : Vector Byte 6)[g]).toNat) ∧
    (∀ g : Group, ((#v[0, 1, 0, 1, 0, 1] : Vector Byte 6)[g]).toNat ≤ 1) ∧
    (∃ g : Group, 1 < ((#v[(0, 0), (0, 0), (0, 0), (0, 0), (0, 0), (2, 0)] : Vector (Byte × Byte) 6)[g]).1.toNat) ∧
    (∀ g : Group, ((#v[(0, 0), (1, 4), (0, 0), (1, 255), (0, 0), (1, 0)] : Vector (Byte × Byte) 6)[g]).1.toNat ≤ 1) := by
  decide +kernel

theorem witness_FetchNoticeAndSetPortRules :
    let one := onQueue x3 (fun q => { q with notices := [aNotice] }) State.reset
    let owing := onChan c11 (fun c => { c with stacked := some ending })
      (onQueue x3 (fun q => { q with notices := List.replicate 16 aNotice, waiting := [c11], served := 10 }) State.reset)
    (State.reset.sp.queues[x3]).notices = [] ∧
    ((one.sp.queues[x3]).notices = aNotice :: [] ∧ (one.sp.queues[x3]).waiting = []) ∧
    ((owing.sp.queues[x3]).notices = aNotice :: List.replicate 15 aNotice ∧ 0 < 12 ∧
      c11.val = ((owing.sp.queues[x3]).served.val + 1 + 0) % 12 ∧ c11 ∈ (owing.sp.queues[x3]).waiting ∧
      (∀ j, j < 0 → ∀ d : Chan, d.val = ((owing.sp.queues[x3]).served.val + 1 + j) % 12 → d ∉ (owing.sp.queues[x3]).waiting) ∧
      (owing.fse.channels[c11]).stacked = some ending) ∧
    3 < (4#8).toNat ∧ 1 < (2#8).toNat ∧ ((3#8).toNat = x3.val ∧ (1#8).toNat ≤ 1) := by decide +kernel

theorem witness_SilenceTimerRules :
    let silent := onPort x3 (fun p => { p with shortLeft := some 1, longLeft := some 1, holdAction := true }) running
    let nobody := onPort x3 (fun p => { p with longLeft := some 1, holdAction := true }) State.reset
    ((State.reset.sp.ports[x3]).shortLeft = none ∧ (State.reset.sp.ports[x3]).longLeft = none) ∧
    ((silent.sp.ports[x3]).shortLeft.isSome = true ∧ (silent.sp.ports[x3]).longLeft.isSome = true ∧
      (silent.sp.ports[x3]).holdAction = true ∧ (silent.fm.groups[(5 : Group)]).paging = false ∧
      (silent.sp.queues[x3]).notices.length < 14 ∧ (silent.fse.channels[c11]).state = .run ∧
      (silent.fse.channels[c11]).owner = some x3 ∧ (silent.fse.channels[c11]).current = some i511 ∧
      (silent.fse.channels[c11]).reservation = none ∧ (silent.fse.channels[c11]).page = none ∧
      (∀ d : Chan, d ≠ c11 → (silent.fse.channels[d]).state = .run → (silent.fse.channels[d]).owner ≠ some x3)) ∧
    ((nobody.sp.ports[x3]).longLeft.isSome = true ∧ (nobody.fm.groups[(5 : Group)]).paging = false ∧
      (∀ d : Chan, (nobody.fse.channels[d]).state = .run → (nobody.fse.channels[d]).owner ≠ some x3)) := by decide +kernel

/-- A response is being sent on S3, and perhaps a frame waits behind it. -/
def answering (buffered : Option HeldFrame) : State :=
  onPort x3 (fun p => { p with outstanding := true, buffered := buffered }) alarmed

theorem witness_CommandFrameRule :
    let held : Option HeldFrame := some ⟨[0xA0], true⟩
    (1 ≤ [0x99#8].length ∧ [0x99#8].length ≤ 64 ∧ frameCheck [0x99#8] = 0xFE66#16 ∧ (State.reset.sp.ports[x3]).slow = false ∧
      (State.reset.sp.ports[x3]).lost = false ∧ (State.reset.sp.ports[x3]).outstanding = false ∧
      decodeCommand x3 0x99 [] = .unknown) ∧
    decodeCommand x3 0xA0 [0] = .badLength ∧ (List.replicate 64 0x99#8).length ≤ 64 ∧
    ((answering none).sp.ports[x3]).outstanding = true ∧ ((answering none).sp.ports[x3]).buffered = none ∧
    ((answering held).sp.ports[x3]).buffered.isSome = true ∧ ((answering held).fm.conds[Cond.frameError.index]).latched = true ∧
    ((answering held).sp.ports[x3]).slow = false ∧ ((answering held).sp.ports[x3]).lost = false ∧
    frameCheck [0x99#8] ≠ 0#16 ∧ (alarmed.sp.ports[x3]).outstanding = false ∧
    (alarmed.fm.conds[Cond.frameError.index]).latched = true := by decide +kernel

theorem witness_FramedCommandHasItsRowsEffect :
    1 ≤ [0x12#8, 11, 1, 255].length ∧ [0x12#8, 11, 1, 255].length ≤ 64 ∧
    decodeCommand x3 0x12 [11, 1, 255] = .command (.start x3 11 511) ∧ (loaded.sp.ports[x3]).outstanding = false ∧
    (loaded.sp.ports[x3]).slow = false ∧ (loaded.sp.ports[x3]).lost = false := by decide +kernel

theorem witness_ReceiverRule :
    let inFrame := fun soFar => onPort x3 (fun p => { p with inFrame := true, soFar := soFar }) alarmed
    ((alarmed.sp.ports[x3]).inFrame = false ∧ (0x5A#8) ≠ 0xA5) ∧
    (((inFrame [0xA5]).sp.ports[x3]).inFrame = true ∧ ((inFrame [0xA5]).sp.ports[x3]).soFar = [0xA5#8] ∧ 64 < (65#8).toNat ∧
      1 ≤ (64#8).toNat ∧ (64#8).toNat ≤ 64) ∧
    (((inFrame [0xA5, 1, 0xA0]).sp.ports[x3]).soFar = 0xA5#8 :: 1 :: [0xA0] ∧ [0xA0#8].length ≤ (1#8).toNat ∧ 1 ≤ (1#8).toNat) ∧
    (((inFrame [0xA5, 1, 0xA0, 0xFE]).sp.ports[x3]).soFar = 0xA5#8 :: 1 :: ([0xA0] ++ [0xFE]) ∧ [0xA0#8].length = (1#8).toNat) ∧
    ((inFrame [0xA5]).fm.conds[Cond.frameError.index]).latched = true ∧
    ((alarmed.sp.ports[x3]).outstanding = false ∧ ((answering none).sp.ports[x3]).outstanding = true ∧
      ((answering none).sp.ports[x3]).buffered = none) ∧
    ((answering (some ⟨[0xA0], false⟩)).sp.ports[x3]).buffered = some ⟨[0xA0#8], false⟩ ∧
    (((answering (some ⟨[0xA0], true⟩)).sp.ports[x3]).buffered = some ⟨[0xA0#8], true⟩ ∧
      decodeCommand x3 0xA0 [] = .command (.fetchNotice x3) ∧ decodeCommand x3 0xA0 [0] = .badLength ∧
      decodeCommand x3 0x99 [] = .unknown) := by decide +kernel

/-- Two bytes that R215 codes in listed order: MASKED 0 and UNMASKED 1, with ALERT deasserted 0 (R187, R195). -/
theorem test_mask_answer :
    answerOf 0 (.setFaultMask 0 #v[1, 0, 0, 0, 0, 1]) State.reset = some ⟨0x91, ⟨.ok, [0, 1, 1, 1, 1, 0, 0]⟩⟩ := by decide +kernel

theorem witness_ReadCommandsOnlyAnswer :
    let oneRack := onDlu (fun d => { d with racks := [rack 845] }) State.reset
    (511#16).toNat ≤ 511 ∧ ¬ (512#16).toNat ≤ 511 ∧ (1#8) ≠ 2 ∧ 9 < (10#8).toNat ∧
    ((0#8).toNat ≤ 9 ∧ (0#8).toNat < oneRack.dlu.racks.length) ∧ ((9#8).toNat ≤ 9 ∧ oneRack.dlu.racks.length ≤ (9#8).toNat) ∧
    1 < (2#8).toNat ∧ ((500#24) ≠ 0 ∧ ∃ b : BadgeIx, (staffed.pgu.badges[b]).address = some (500#24).toNat) ∧
    (∀ b : BadgeIx, (staffed.pgu.badges[b]).address ≠ some (501#24).toNat) ∧ (255 < (256#16).toNat ∧ (256#16) ≠ 65535#16) ∧
    ((255#16).toNat ≤ 255 ∧ ∃ p ∈ (paging aPage).pgu.queue, p.number = (255#16).toNat) ∧
    ((∀ p ∈ (paging aPage).pgu.queue, p.number ≠ (254#16).toNat) ∧
      ∀ r ∈ (paging aPage).pgu.retention, r.number ≠ (254#16).toNat) := by
  refine ⟨by decide, by decide, by decide, by decide, by decide +kernel, by decide +kernel, by decide,
    ⟨by decide, b95, by decide +kernel⟩, by decide +kernel, by decide, ⟨by decide, aPage, by decide +kernel, by decide⟩,
    by decide +kernel⟩

theorem witness_DecodeOfEncode : senderOf (.writeStep x3 511 1 (image 5)) = some x3 := by decide

theorem witness_EveryStepKeepsAlertAndNoticesRight :
    alarmed.AlertRight ∧ alarmed.AtnRight ∧ crowded.AtnRight ∧ crowded.NoticesFit ∧ alarmed.NoticesFit ∧
    ∃ t, step { alarmed with pending := [.clearFaults x3 32] } = .next t := by
  refine ⟨⟨fun _ => ⟨.frameError, by decide +kernel, by decide +kernel⟩, fun _ => by decide +kernel⟩, ?_, ?_, ?_, ?_, _, rfl⟩
  · unfold State.AtnRight
    decide +kernel
  · unfold State.AtnRight
    decide +kernel
  · unfold State.NoticesFit
    decide +kernel
  · unfold State.NoticesFit
    decide +kernel

theorem witness_EveryStepKeepsTheQueuesInBounds :
    (paging aPage).PagingFits ∧ (paging aPage).DishFits ∧
    ∃ t, step { paging aPage with pending := [.page x3 pageImage] } = .next t := by
  refine ⟨?_, ?_, _, rfl⟩
  · unfold State.PagingFits
    decide +kernel
  · unfold State.DishFits
    decide +kernel

/-- The grants of 11.3: A 3800, pointer at L5. -/
theorem test_allocation_of_the_banquet :
    [20, 0, 1, 2, 12, 13, 21].map (fun l : LoadIx => grantOf banquet 3800 5 l) = [1500, 360, 469, 938, 63, 157, 313] ∧
    [20, 0, 1, 2, 12, 13, 21].map (fun l : LoadIx => (fractionOf banquet[l] (grantOf banquet 3800 5 l)).1)
      = [1000, 200, 260, 521, 210, 523, 260] := by decide +kernel

/-- The SET BUDGET of 11.3 lowers A from 5800 to 3800. -/
theorem test_setBudget :
    after (.setBudget 3 5000 1200 2) (onPba (fun b => { b with cap := 7000, unmanaged := 1200, available := 5800 }) State.reset)
      (fun t => (t.pba.available, t.pba.inForce, t.pba.last.cause, t.pba.pointer)) = some (3800, 3800, .cut, 1) := by decide +kernel

/-- RETURN of 30 with FLOOR 20: 20 moved, 10 found, STOCK DRIFT (R88, R104). -/
theorem test_return_finds_plates :
    answerOf 1 (.returnPlates 1 3 30) plates = some ⟨0x41, ⟨.ok, [0, 20, 0, 10]⟩⟩ ∧
    after (.returnPlates 1 3 30) plates (fun t => ((t.ppu.pools[k3]).soiled, (t.ppu.pools[k3]).stock,
      (t.fm.conds[Cond.stockDrift.index]).firstSource)) = some (60, 170, some 3) := by decide +kernel

/-- The draw that completes a plate of W7 moves it from WARM to FLOOR (R99). -/
theorem test_draw :
    after (.encoderTransition 7 false true) serving (fun t => ((t.ppu.warmers[w7]).count, (t.ppu.pools[k3]).warm,
      (t.ppu.pools[k3]).floor)) = some (39, 39, 21) := by decide +kernel

/-- A reservation of 40 ready plates is READY at once (R114); one of 41 waits. -/
theorem test_reserve :
    answerOf 2 (.reserve 2 3 40) serving = some ⟨0x50, ⟨.ok, [0, 0, 0, 1]⟩⟩ ∧
    answerOf 2 (.reserve 2 3 41) serving = some ⟨0x50, ⟨.ok, [0, 0, 0, 0]⟩⟩ := by decide +kernel

/-- Rack 41 of 11.4 leaves with a rinse of 808: its plates go to quarantine, and S1 hears (41, 20, 2). -/
theorem test_rackExit_quarantines :
    let s := onDlu (fun d => { d with racks := [rack 808] }) (onPool k3 (fun p => { p with wash := 20 }) { plates with clock := 25 })
    after .rackExit s (fun t => ((t.ppu.pools[k3]).quar, (t.sp.queues[(1 : Station)]).notices.map (fun n => (n.code, n.p1, n.p2, n.p3))))
      = some (30, [(.rackQuarantined, 41, 20, 2)]) := by decide +kernel

/-- Pulse 16 of a group that took 4000 ms: 16 × 25 mm × 1000 / 4000 ms is 100 mm/s (R140). -/
theorem test_conveyor_speed :
    let s := onDlu (fun d => { d with conveyor := { d.conveyor with groupOpen := true, pulses := 15, base := 3750 } }) State.reset
    after (.conveyorPulse 250) s (fun t => (t.dlu.conveyor.speed, t.dlu.conveyor.lastGroupMs, t.dlu.conveyor.moving))
      = some (100, 4000, true) := by decide +kernel

/-- PAGE to an AVAILABLE badge on an idle link sends TRANSMIT within its event (R176, R177). -/
theorem test_page_transmits :
    after (.page 3 pageImage) staffed (fun t => (t.pgu.inFlight.map (fun f => (f.number, f.badge, f.address)), t.pgu.nextNumber))
      = some (some (0, b95, 500), 1) := by decide +kernel

/-- CLEAR FAULTS clears an event-type condition and ALERT (R194, R196). -/
theorem test_clearFaults :
    after (.clearFaults 3 32) alarmed (fun t => ((t.fm.conds[Cond.frameError.index]).latched, t.fm.alert)) = some (false, false) := by
  decide +kernel

/-- FETCH NOTICE refills from the waiting set (R212, R213): the answer counts 16, and the stacked ending goes to the back. -/
theorem test_fetchNotice_refills :
    let s := onChan c11 (fun c => { c with stacked := some ending })
      (onQueue x3 (fun q => { q with notices := List.replicate 16 aNotice, waiting := [c11] }) State.reset)
    after (.fetchNotice 3) s (fun t => ((t.sp.queues[x3]).notices.length, (t.sp.queues[x3]).waiting, (t.sp.queues[x3]).served,
      (t.fse.channels[c11]).stacked)) = some (16, [], c11, none) ∧
    (answerOf 3 (.fetchNotice 3) s).map (fun a => a.response.payload.take 2) = some [0, 16] := by decide +kernel

end Sys2Proof.Tests
end

section
/-! PROOFS. What the updates of single records and the handing of a setpoint do, stated once. -/

namespace Sys2Proof.Machine

open Sys2Proof

/-! ### Reading one record of a table after a write -/

theorem get_set_same {α : Type} {n : Nat} (v : Vector α n) (i : Fin n) (a : α) : (v.set i a)[i] = a := by
  simp

theorem get_set_ne {α : Type} {n : Nat} (v : Vector α n) {i j : Fin n} (h : j ≠ i) (a : α) : (v.set i a)[j] = v[j] := by
  have hv : i.val ≠ j.val := fun hij => h (Fin.ext hij.symm)
  simp [Vector.getElem_set_ne, hv]

theorem set_set_same {α : Type} {n : Nat} (v : Vector α n) (i : Fin n) (a b : α) : (v.set i a).set i b = v.set i b := by
  simp

theorem set_get_same {α : Type} {n : Nat} (v : Vector α n) (i : Fin n) : v.set i v[i] = v := by
  simp

theorem State.setChan_get (c : Chan) (r : ChanRec) (s : State) : (s.setChan c r).fse.channels[c] = r :=
  get_set_same _ _ _

theorem State.setChan_get_ne {c d : Chan} (h : d ≠ c) (r : ChanRec) (s : State) :
    (s.setChan c r).fse.channels[d] = s.fse.channels[d] := get_set_ne _ h _

theorem State.setStep_get (i : StepIx) (r : StepRec) (s : State) : (s.setStep i r).fse.steps[i] = r :=
  get_set_same _ _ _

theorem State.setStep_get_ne {i j : StepIx} (h : j ≠ i) (r : StepRec) (s : State) :
    (s.setStep i r).fse.steps[j] = s.fse.steps[j] := get_set_ne _ h _

theorem State.setLoad_get (l : LoadIx) (r : LoadRec) (s : State) : (s.setLoad l r).hlu.loads[l] = r :=
  get_set_same _ _ _

theorem State.setLoad_get_ne {l m : LoadIx} (h : m ≠ l) (r : LoadRec) (s : State) :
    (s.setLoad l r).hlu.loads[m] = s.hlu.loads[m] := get_set_ne _ h _

theorem State.setQueue_get (x : Station) (q : NoticeQueue) (s : State) : (s.setQueue x q).sp.queues[x] = q :=
  get_set_same _ _ _

theorem State.setQueue_get_ne {x y : Station} (h : y ≠ x) (q : NoticeQueue) (s : State) :
    (s.setQueue x q).sp.queues[y] = s.sp.queues[y] := get_set_ne _ h _

theorem State.setAnswer_get (x : Station) (a : Answer) (s : State) : ((s.setAnswer x a).sp.ports[x]).answer = some a := by
  rw [State.setAnswer_sp_ports, get_set_same]

theorem State.setLoad_setLoad (l : LoadIx) (a b : LoadRec) (s : State) : (s.setLoad l a).setLoad l b = s.setLoad l b := by
  simp [State.setLoad]

theorem State.setChan_setChan (c : Chan) (a b : ChanRec) (s : State) : (s.setChan c a).setChan c b = s.setChan c b := by
  simp [State.setChan]

theorem State.setLoad_self (l : LoadIx) (s : State) : s.setLoad l s.hlu.loads[l] = s := by
  simp [State.setLoad]

theorem State.setChan_self (c : Chan) (s : State) : s.setChan c s.fse.channels[c] = s := by
  simp [State.setChan]

/-! ### Setpoints (R10, R49) -/

/-- Bringing the preload fraction to its value writes that fraction, the shadow on-time and the output alone (R51, R54). -/
theorem LoadRec.settlePreload_eq (r : LoadRec) :
    ∃ (preload shadow : Nat) (output : Bool),
      r.settlePreload = { r with preload := preload, shadow := shadow, output := output } := by
  unfold LoadRec.settlePreload
  simp only
  split
  · exact ⟨_, _, _, rfl⟩
  · exact ⟨_, _, _, rfl⟩

/-- REQUEST is recomputed: of its load this writes what is derived, and no other load (R50, R51). -/
theorem State.recompute_eq (l : LoadIx) (s : State) :
    ∃ (request preload shadow : Nat) (output : Bool),
      s.recompute l = s.setLoad l { s.hlu.loads[l] with
        request := request, preload := preload, shadow := shadow, output := output } := by
  obtain ⟨preload, shadow, output, h⟩ := LoadRec.settlePreload_eq
    { s.hlu.loads[l] with request := (s.hlu.loads[l]).requestOf s.hlu.probes[controlProbe l] }
  exact ⟨_, preload, shadow, output, congrArg (fun r => s.setLoad l r) h⟩

/-- A hand-over of a setpoint writes one load: its setpoint and idle indication are those handed, and what it does not
derive from them stays (R49). -/
theorem State.handSetpoint_eq (l : LoadIx) (v : Int) (a : Bool) (s : State) :
    ∃ r : LoadRec, s.handSetpoint l v a = s.setLoad l r ∧ r.setpoint = v ∧ r.active = a ∧
      r.trip = (s.hlu.loads[l]).trip := by
  unfold State.handSetpoint
  simp only
  split
  next h => exact ⟨s.hlu.loads[l], (s.setLoad_self l).symm, h.1, h.2, rfl⟩
  next =>
    obtain ⟨request, preload, shadow, output, h⟩ :=
      State.recompute_eq l (s.setLoad l { s.hlu.loads[l] with setpoint := v, active := a })
    rw [h, State.setLoad_setLoad, State.setLoad_get]
    exact ⟨_, rfl, rfl, rfl, rfl⟩

/-- What a channel's state is to its oven load (R10): the setpoint it hands, and whether it heats. -/
def ChanRec.demand (ch : ChanRec) (present : Int) : Int × Bool :=
  match ch.state with
  | .run => (ch.inForce, true)
  | .hold => (ch.holdSetpoint, true)
  | .idle | .stopped => (present, false)

theorem State.handOven_eq_handSetpoint (c : Chan) (s : State) :
    s.handOven c = s.handSetpoint (ovenLoad c)
      ((s.fse.channels[c]).demand (s.hlu.loads[ovenLoad c]).setpoint).1
      ((s.fse.channels[c]).demand (s.hlu.loads[ovenLoad c]).setpoint).2 := by
  unfold State.handOven ChanRec.demand
  simp only
  cases (s.fse.channels[c]).state <;> rfl

/-- The hand-over to the oven load writes that load alone (R10). -/
theorem State.handOven_eq (c : Chan) (s : State) :
    ∃ r : LoadRec, s.handOven c = s.setLoad (ovenLoad c) r ∧
      r.setpoint = ((s.fse.channels[c]).demand (s.hlu.loads[ovenLoad c]).setpoint).1 ∧
      r.active = ((s.fse.channels[c]).demand (s.hlu.loads[ovenLoad c]).setpoint).2 ∧
      r.trip = (s.hlu.loads[ovenLoad c]).trip := by
  rw [State.handOven_eq_handSetpoint]
  exact State.handSetpoint_eq _ _ _ _

end Sys2Proof.Machine
end

section
/-! PROOFS. The device reset, WRITE STEP, SET CHANNEL, RESET CHANNEL and the READ commands (R4, R5, R7, R9, R11, R16). -/

namespace Sys2Proof.Machine

open Sys2Proof

/-! ### The rows -/

theorem exec_writeStep (x : Station) (idx : BitVec 16) (give : Byte) (im : StepImage) (s : State) :
    exec (.writeStep x idx give im) s = concluded x 0x10 (cmdWriteStep idx give im (Ev.start s)) := rfl

theorem exec_setChannel (x : Station) (chan : Byte) (fallback : BitVec 16) (s : State) :
    exec (.setChannel x chan fallback) s = concluded x 0x16 (cmdSetChannel chan fallback (Ev.start s)) := rfl

theorem exec_resetChannel (x : Station) (chan : Byte) (s : State) :
    exec (.resetChannel x chan) s = concluded x 0x15 (cmdResetChannel chan (Ev.start s)) := rfl

/-! ### The device reset (R7, R9) -/

theorem exec_deviceReset (s : State) : exec .deviceReset s = .next { State.resetWith s.pins with pending := s.pending } := rfl

theorem get_replicate {α : Type} {n : Nat} (a : α) (i : Fin n) : (Vector.replicate n a)[i] = a := by simp

theorem Fse.reset_step (i : StepIx) : Fse.reset.steps[i] = StepRec.reset := get_replicate _ i

theorem Fse.reset_channel (c : Chan) : Fse.reset.channels[c] = ChanRec.reset := get_replicate _ c

theorem Sp.reset_queue (x : Station) : Sp.reset.queues[x] = NoticeQueue.reset := get_replicate _ x

/-- Settles O2. -/
theorem deviceResetRule : Obligations.DeviceResetRule := by
  refine ⟨exec_deviceReset, fun s => ⟨_, exec_deviceReset s, Fse.reset_step⟩,
    fun s => ⟨_, exec_deviceReset s, fun c => ?_, fun x => ?_, rfl, rfl, rfl, rfl⟩⟩
  · have h : ({ State.resetWith s.pins with pending := s.pending } : State).fse.channels[c] = ChanRec.reset :=
      Fse.reset_channel c
    rw [h]
    exact ⟨rfl, rfl, rfl, rfl, rfl, rfl, rfl, rfl, rfl, rfl, rfl, rfl, rfl⟩
  · exact congrArg NoticeQueue.waiting (Sp.reset_queue x)

/-! ### WRITE STEP (R4) -/

theorem twoValued_isSome (b : Byte) : (twoValued b).isSome = true ↔ b.toNat ≤ 1 := by
  unfold twoValued
  split
  next h => simp [h]
  next h0 =>
    split
    next h => simp [h]
    next h1 =>
      have h0' : b.toNat ≠ 0 := fun h => h0 (BitVec.eq_of_toNat_eq h)
      have h1' : b.toNat ≠ 1 := fun h => h1 (BitVec.eq_of_toNat_eq h)
      simp only [Option.isSome_none, Bool.false_eq_true, false_iff]
      omega

/-- A GIVE of 1 gives the record to the engine, one of 0 keeps it with the station (R4). -/
theorem twoValued_eq {b : Byte} (h : b.toNat ≤ 1) : twoValued b = some (decide (b = 1)) := by
  unfold twoValued
  split
  next h0 => simp [h0]
  next h0 =>
    have h1 : b = 1 := by
      have h0' : b.toNat ≠ 0 := fun h => h0 (BitVec.eq_of_toNat_eq h)
      exact BitVec.eq_of_toNat_eq (by simp; omega)
    simp [h1]

/-- KIND bytes 0 to 7 are the eight kinds (R216). -/
theorem StepKind.ofCode_some {b : Byte} (h : b.toNat ≤ 7) : ∃ k, StepKind.ofCode b = some k ∧ k.code = b.toNat := by
  unfold StepKind.ofCode
  interval_cases b.toNat <;> exact ⟨_, rfl, rfl⟩

theorem StepKind.ofCode_none {b : Byte} (h : 7 < b.toNat) : StepKind.ofCode b = none := by
  unfold StepKind.ofCode
  split
  case h_9 => rfl
  all_goals omega

theorem StepKind.eq_core_iff (k : StepKind) : k = .core ↔ k.code = 2 := by cases k <;> decide
theorem StepKind.eq_waitPlates_iff (k : StepKind) : k = .waitPlates ↔ k.code = 3 := by cases k <;> decide
theorem StepKind.eq_call_iff (k : StepKind) : k = .call ↔ k.code = 5 := by cases k <;> decide

/-- The structural checks of R4, read off the image. -/
theorem soundStep_iff {im : StepImage} {k : StepKind} (g : Bool) (hk : k.code = im.kind.toNat) :
    soundStep im (recordOf im k g) = true ↔
      im.flags.getLsbD 7 = false ∧ (im.flags.getLsbD 0 = true → im.nextIndex.toNat ≤ 511) ∧
      (im.kind = 2 → im.presence.getLsbD 0 = true) ∧ (im.kind = 3 → im.plateKind.toNat ≤ 3) ∧
      (im.kind = 5 → (submissionOf im.page).isSome = true) := by
  have h2 : k = .core ↔ im.kind = 2 := by rw [StepKind.eq_core_iff, hk, BitVec.toNat_eq]; rfl
  have h3 : k = .waitPlates ↔ im.kind = 3 := by rw [StepKind.eq_waitPlates_iff, hk, BitVec.toNat_eq]; rfl
  have h5 : k = .call ↔ im.kind = 5 := by rw [StepKind.eq_call_iff, hk, BitVec.toNat_eq]; rfl
  simp [soundStep, recordOf, StepFlags.ofByte, h2, h3, h5, Option.isSome_iff_ne_none, and_assoc, imp_iff_not_or]

/-- A record is in its ranges as it stands exactly where none of the six fields that have one is moved (R1, R4). -/
theorem StepRec.inRange_eq_iff (r : StepRec) :
    r.inRange = r ↔ r.inRange.setpoint = r.setpoint ∧ r.inRange.band = r.band ∧ r.inRange.duration = r.duration ∧
      r.inRange.count = r.count ∧ r.inRange.coreTarget = r.coreTarget ∧ r.inRange.holdSetpoint = r.holdSetpoint := by
  constructor
  · intro h; rw [h]; exact ⟨rfl, rfl, rfl, rfl, rfl, rfl⟩
  · rintro ⟨h1, h2, h3, h4, h5, h6⟩
    unfold StepRec.inRange at h1 h2 h3 h4 h5 h6 ⊢
    simp only at h1 h2 h3 h4 h5 h6
    simp only [h1, h2, h3, h4, h5, h6]

theorem taken_eq_ok_iff (b : Bool) : taken b = .ok ↔ b = false := by cases b <;> decide

theorem taken_cases (b : Bool) : taken b = .ok ∨ taken b = .clamped := by cases b <;> decide

/-- An optional field that stays absent, or is brought to its range, is unchanged exactly where it is absent or keeps its
value. -/
theorem ite_some_unchanged_iff (present : Bool) (v w : Int) :
    (if present then some v else none : Option Int) = (if present then some w else none) ↔
      (if present then some v else none : Option Int) = none ∨ (if present then some v else none : Option Int) = some w := by
  cases present <;> simp

theorem recordOf_coreTarget (im : StepImage) (k : StepKind) (g : Bool) :
    (recordOf im k g).coreTarget = if im.presence.getLsbD 0 then some im.coreTarget.toInt else none := rfl

theorem recordOf_holdSetpoint (im : StepImage) (k : StepKind) (g : Bool) :
    (recordOf im k g).holdSetpoint = if im.presence.getLsbD 1 then some im.holdSetpoint.toInt else none := rfl

theorem recordOf_inRange_coreTarget (im : StepImage) (k : StepKind) (g : Bool) :
    (recordOf im k g).inRange.coreTarget = if im.presence.getLsbD 0 then
      some (if k = .soak ∨ k = .core then clampInt (-500) 3500 im.coreTarget.toInt else im.coreTarget.toInt) else none := by
  show (if decide (k = .soak) || decide (k = .core) then (recordOf im k g).coreTarget.map (clampInt (-500) 3500)
    else (recordOf im k g).coreTarget) = _
  rw [recordOf_coreTarget]
  simp only [Bool.or_eq_true, decide_eq_true_eq]
  cases im.presence.getLsbD 0 <;> split <;> rfl

theorem recordOf_inRange_holdSetpoint (im : StepImage) (k : StepKind) (g : Bool) :
    (recordOf im k g).inRange.holdSetpoint = if im.presence.getLsbD 1 then
      some (if k = .finish then clampInt 0 3500 im.holdSetpoint.toInt else im.holdSetpoint.toInt) else none := by
  show (if k = .finish then (recordOf im k g).holdSetpoint.map (clampInt 0 3500) else (recordOf im k g).holdSetpoint) = _
  rw [recordOf_holdSetpoint]
  cases im.presence.getLsbD 1 <;> split <;> rfl

/-- WRITE STEP on a record of the station, by its checks (R4). -/
theorem cmdWriteStep_station {idx : BitVec 16} {i : StepIx} {s : State} (hi : idx.toNat = i.val)
    (ho : (s.fse.steps[i]).owner = .station) (give : Byte) (im : StepImage) :
    ((1 < give.toNat ∨ 7 < im.kind.toNat) → cmdWriteStep idx give im (Ev.start s) = (Ev.start s, refuse .badArgument)) ∧
    ∀ k : StepKind, StepKind.ofCode im.kind = some k → give.toNat ≤ 1 →
      cmdWriteStep idx give im (Ev.start s) =
        let r := recordOf im k (decide (give = 1))
        if soundStep im r then ((Ev.start s).on (State.setStep i r.inRange), ⟨taken (decide (r.inRange ≠ r)), []⟩)
        else (Ev.start s, refuse .badArgument) := by
  have hne : ¬ ((Ev.start s).s.fse.steps[i]).owner = .engine := by rw [Ev.start_s, ho]; decide
  unfold cmdWriteStep
  rw [withIndex_some i hi]
  simp only [hne, if_false]
  refine ⟨fun h => ?_, fun k hk hg => ?_⟩
  · split
    next k g hk hg =>
      rcases h with h | h
      · have := (twoValued_isSome give).mp (by rw [hg]; rfl)
        omega
      · rw [StepKind.ofCode_none h] at hk; cases hk
    all_goals rfl
  · rw [hk, twoValued_eq hg]

/-- Settles O3. -/
theorem writeStepWritesOneRecord : Obligations.WriteStepWritesOneRecord := by
  intro x idx give im s
  refine ⟨fun h => ?_, fun i hi => ⟨fun ho => ?_, fun ho hbad => ?_, fun ho hg hk h7 hl h2 h3 h5 => ?_⟩⟩
  · rw [exec_writeStep, cmdWriteStep, withIndex_none (by omega)]
    exact concluded_start ..
  · rw [exec_writeStep, cmdWriteStep, withIndex_some i hi]
    simp only [Ev.start_s, ho, if_true]
    exact concluded_start ..
  · obtain ⟨hrange, hsound⟩ := cmdWriteStep_station hi ho give im
    rw [exec_writeStep]
    by_cases hgk : 1 < give.toNat ∨ 7 < im.kind.toNat
    · rw [hrange hgk]; exact concluded_start ..
    · have hg : give.toNat ≤ 1 := by omega
      obtain ⟨k, hk, hcode⟩ := StepKind.ofCode_some (b := im.kind) (by omega)
      have hs : ¬ soundStep im (recordOf im k (decide (give = 1))) = true := by
        rw [soundStep_iff _ hcode]
        rintro ⟨a7, al, a2, a3, a5⟩
        rcases hbad with h | h | h | ⟨h, hn⟩ | ⟨h, hp⟩ | ⟨h, hp⟩ | ⟨h, hp⟩
        · omega
        · omega
        · rw [h] at a7; cases a7
        · have := al h; omega
        · rw [a2 h] at hp; cases hp
        · have := a3 h; omega
        · have := a5 h; rw [hp] at this; cases this
      rw [hsound k hk hg]
      simp only [hs]
      exact concluded_start ..
  · obtain ⟨k, hk, hcode⟩ := StepKind.ofCode_some hk
    obtain ⟨-, hsound⟩ := cmdWriteStep_station hi ho give im
    have hs := (soundStep_iff (decide (give = 1)) hcode).mpr ⟨h7, hl, h2, h3, h5⟩
    refine ⟨(recordOf im k (decide (give = 1))).inRange,
      taken (decide ((recordOf im k (decide (give = 1))).inRange ≠ recordOf im k (decide (give = 1)))), ?_, ?_, rfl,
      rfl, hcode, rfl, rfl, ?_, ?_, rfl, rfl, rfl, rfl, rfl, rfl, ?_, ?_, ?_, taken_cases _⟩
    · rw [exec_writeStep, hsound k hk hg]
      simp only [hs, if_true]
      exact concluded_quiet x 0x10 _ _ rfl
    · show (if decide (give = 1) = true then Owner.engine else .station) = _
      simp only [decide_eq_true_eq]
    · show (if decide (k = .heat) || decide (k = .soak) then _ else _) = _
      simp only [Bool.or_eq_true, decide_eq_true_eq]
      rfl
    · show (if k = .soak then clampNat 1 65535 im.duration.toNat else im.duration.toNat) = _
      have := im.duration.isLt
      have hc : clampNat 1 65535 im.duration.toNat = max 1 im.duration.toNat := by
        unfold clampNat; split <;> (try split) <;> omega
      rw [hc]
      rfl
    · exact recordOf_inRange_coreTarget ..
    · exact recordOf_inRange_holdSetpoint ..
    · rw [taken_eq_ok_iff, decide_eq_false_iff_not, not_not, StepRec.inRange_eq_iff, recordOf_inRange_coreTarget,
        recordOf_inRange_holdSetpoint]
      simp only [recordOf_coreTarget, recordOf_holdSetpoint, ite_some_unchanged_iff]
      exact Iff.rfl

end Sys2Proof.Machine
end

section
/-! PROOFS. SET CHANNEL, RESET CHANNEL, the READ commands and the state after reset (R11, R16, R206). -/

namespace Sys2Proof.Machine

open Sys2Proof

/-! ### SET CHANNEL (R11) -/

/-- A temperature is brought to 0..3500, and the answer tells whether it was (R206). -/
theorem taken_clampInt (lo hi v : Int) :
    taken (decide (clampInt lo hi v ≠ v)) = if v < lo ∨ hi < v then .clamped else .ok := by
  have hc : clampInt lo hi v ≠ v ↔ v < lo ∨ hi < v := by
    unfold clampInt; split <;> (try split) <;> omega
  by_cases hv : v < lo ∨ hi < v <;> simp [taken, hc, hv]

/-- Settles O9. -/
theorem setChannelRule : Obligations.SetChannelRule := by
  refine ⟨fun x chan fallback s => ⟨fun h => ?_, fun c hc => ?_⟩, fun ch o hh hf => ?_⟩
  · rw [exec_setChannel, cmdSetChannel, withIndex_none (by omega)]
    exact concluded_start ..
  · rw [exec_setChannel, cmdSetChannel, withIndex_some c hc, ← taken_clampInt 0 3500]
    exact concluded_quiet x 0x16 _ _ rfl
  · simp [ChanRec.entering, hh, hf]

/-! ### A channel goes to IDLE (R14 to R16) -/

/-- IDLE hands the oven load no demand, at the setpoint that stands there (R10). -/
theorem State.toIdle_eq (c : Chan) (s : State) :
    s.toIdle c = (s.setChan c { s.fse.channels[c] with
      state := .idle
      owner := if (s.fse.channels[c]).stacked.isSome then (s.fse.channels[c]).owner else none }).handSetpoint (ovenLoad c)
        (s.hlu.loads[ovenLoad c]).setpoint false := by
  unfold State.toIdle State.onChan
  rw [State.handOven_eq_handSetpoint, State.setChan_get]
  rfl

theorem State.toIdle_writes (c : Chan) (s : State) :
    ∃ r : LoadRec, s.toIdle c = (s.setChan c { s.fse.channels[c] with
        state := .idle
        owner := if (s.fse.channels[c]).stacked.isSome then (s.fse.channels[c]).owner else none }).setLoad (ovenLoad c) r ∧
      r.active = false ∧ r.trip = (s.hlu.loads[ovenLoad c]).trip := by
  rw [State.toIdle_eq]
  obtain ⟨r, hset, -, hact, htrip⟩ := State.handSetpoint_eq (ovenLoad c) (s.hlu.loads[ovenLoad c]).setpoint false
    (s.setChan c { s.fse.channels[c] with
      state := .idle
      owner := if (s.fse.channels[c]).stacked.isSome then (s.fse.channels[c]).owner else none })
  exact ⟨r, hset, hact, htrip⟩

/-! ### RESET CHANNEL (R16) -/

theorem controlProbe_ovenLoad (c : Chan) : controlProbe (ovenLoad c) = cavityProbe c := by
  unfold controlProbe ovenLoad
  simp [c.isLt, cavityProbe]

theorem LoadRec.testing_iff (r : LoadRec) : r.state = .testing ↔ r.testing = true := by
  unfold LoadRec.state
  split
  next h => simp [h]
  next h => simp only [h]; split <;> (try split) <;> simp

/-- The fault of a STOPPED channel persists, read off its load and probe (R16). -/
theorem State.faultPersists_iff (s : State) (c : Chan) :
    s.faultPersists c = true ↔
      (s.hlu.loads[ovenLoad c]).rating = 0 ∨ (s.hlu.loads[ovenLoad c]).state = .faulted ∨
        ((s.hlu.loads[ovenLoad c]).state = .tripped ∧ (s.hlu.probes[cavityProbe c]).settled = true ∧
          (s.hlu.loads[ovenLoad c]).tripLimit - 50 ≤ (s.hlu.probes[cavityProbe c]).reading) ∨
        (s.hlu.probes[cavityProbe c]).faulted = true := by
  unfold State.faultPersists LoadRec.installed
  simp only [Bool.or_eq_true, Bool.and_eq_true, decide_eq_true_eq, Bool.not_eq_true', decide_eq_false_iff_not,
    Nat.not_lt, Nat.le_zero, or_assoc, and_assoc]

/-- RESET CHANNEL on a STOPPED channel, by its checks (R16). -/
theorem cmdResetChannel_stopped {chan : Byte} {c : Chan} {s : State} (hc : chan.toNat = c.val)
    (hs : (s.fse.channels[c]).state = .stopped) :
    cmdResetChannel chan (Ev.start s) =
      if (s.hlu.loads[ovenLoad c]).state = .testing then (Ev.start s, refuse .busy)
      else if s.faultPersists c then (Ev.start s, refuse .unavailable)
      else (((Ev.start s).resetLoad (ovenLoad c)).1.on (State.toIdle c), okay []) := by
  rw [cmdResetChannel, withIndex_some c hc]
  simp only [Ev.start_s, hs]
  rfl

/-- RESET LOAD on a tripped load whose fault has gone writes that load, its trip cleared, and the fault monitor (R57). -/
theorem Ev.resetLoad_tripped {c : Chan} {e : Ev} (ht : (e.s.hlu.loads[ovenLoad c]).state = .tripped)
    (hp : e.s.faultPersists c = false) :
    (e.resetLoad (ovenLoad c)).1.work = e.work ∧ ∃ (r : LoadRec) (f : Fm),
      (e.resetLoad (ovenLoad c)).1.s = (e.s.setLoad (ovenLoad c) r).setFm f ∧ r.trip = false := by
  have hn := mt (State.faultPersists_iff e.s c).mpr (by rw [hp]; decide)
  simp only [ht, not_or, true_and, not_and, Int.not_le] at hn
  obtain ⟨hr, -, hread, hf⟩ := hn
  have hif : ¬ ((!(e.s.hlu.loads[ovenLoad c]).installed || (e.s.hlu.probes[controlProbe (ovenLoad c)]).faulted
      || (e.s.hlu.probes[controlProbe (ovenLoad c)]).settled
        && decide ((e.s.hlu.loads[ovenLoad c]).tripLimit - 50 ≤ (e.s.hlu.probes[controlProbe (ovenLoad c)]).reading)) = true) := by
    simp only [controlProbe_ovenLoad, Bool.or_eq_true, Bool.and_eq_true, decide_eq_true_eq, Bool.not_eq_true',
      LoadRec.installed, decide_eq_false_iff_not, not_or, not_and]
    exact ⟨⟨by omega, hf⟩, fun h => by have := hread h; omega⟩
  obtain ⟨request, preload, shadow, output, hrec⟩ := State.recompute_eq (ovenLoad c)
    (e.s.setLoad (ovenLoad c) { e.s.hlu.loads[ovenLoad c] with trip := false })
  rw [State.setLoad_get, State.setLoad_setLoad] at hrec
  unfold Ev.resetLoad
  simp only [ht, hif]
  exact ⟨rfl, _, _, congrArg (fun t : State => t.setFm _) hrec, rfl⟩

theorem Ev.resetLoad_enabled {l : LoadIx} {e : Ev} (h : (e.s.hlu.loads[l]).state = .enabled) : (e.resetLoad l).1 = e := by
  unfold Ev.resetLoad
  simp only [h]
  split <;> rfl

/-- Settles O8. -/
theorem resetChannelRule : Obligations.ResetChannelRule := by
  intro x chan s
  refine ⟨fun h => ?_, fun c hc => ⟨fun hs => ?_, fun hs ht => ?_, fun hs ht hbad => ?_, fun hs hl hr hp => ?_,
    fun hs hl hr hp hread => ?_⟩⟩
  · rw [exec_resetChannel, cmdResetChannel, withIndex_none (by omega)]
    exact concluded_start ..
  · rw [exec_resetChannel, cmdResetChannel, withIndex_some c hc]
    simp only [Ev.start_s]
    cases h : (s.fse.channels[c]).state with
    | stopped => exact absurd h hs
    | idle | run | hold => exact concluded_start ..
  · rw [exec_resetChannel, cmdResetChannel_stopped hc hs, if_pos ((LoadRec.testing_iff _).mpr ht)]
    exact concluded_start ..
  · have hn : ¬ (s.hlu.loads[ovenLoad c]).state = .testing := by rw [LoadRec.testing_iff, ht]; decide
    have hf : s.faultPersists c = true := by
      rw [State.faultPersists_iff]
      simpa [ProbeRec.faulted, Option.isSome_iff_ne_none] using hbad
    rw [exec_resetChannel, cmdResetChannel_stopped hc hs, if_neg hn, if_pos hf]
    exact concluded_start ..
  · have hf : ¬ s.faultPersists c = true := by
      rw [State.faultPersists_iff, hl, hp]
      simp only [reduceCtorEq, false_and, Bool.false_eq_true, or_false]
      omega
    rw [exec_resetChannel, cmdResetChannel_stopped hc hs, if_neg (by rw [hl]; decide), if_neg hf,
      Ev.resetLoad_enabled hl, ← State.toIdle_eq]
    exact concluded_quiet x 0x15 _ _ rfl
  · have hf : s.faultPersists c = false := by
      rw [← Bool.not_eq_true, State.faultPersists_iff, hl, hp]
      simp only [reduceCtorEq, true_and, Bool.false_eq_true, or_false, false_or]
      rintro (h | ⟨h, hle⟩)
      · omega
      · have := hread h; omega
    obtain ⟨hwork, r, f, hreset, htrip⟩ := Ev.resetLoad_tripped (e := Ev.start s) hl hf
    obtain ⟨r', hidle, hact, htrip'⟩ := State.toIdle_writes c ((s.setLoad (ovenLoad c) r).setFm f)
    refine ⟨_, by
      rw [exec_resetChannel, cmdResetChannel_stopped hc hs, if_neg (by rw [hl]; decide), hf]
      exact concluded_quiet x 0x15 _ _ hwork, ?_⟩
    rw [Ev.on_s, hreset, Ev.start_s, hidle]
    refine ⟨congrArg ChanRec.state (State.setChan_get ..), ?_, ?_, State.setAnswer_get .., fun d hd => ?_,
      rfl, rfl, rfl, rfl, rfl, rfl, rfl, rfl, rfl⟩
    · exact (congrArg LoadRec.trip (State.setLoad_get ..)).trans
        (htrip'.trans ((congrArg LoadRec.trip (State.setLoad_get ..)).trans htrip))
    · exact (congrArg LoadRec.active (State.setLoad_get ..)).trans hact
    · exact State.setChan_get_ne hd ..

end Sys2Proof.Machine
end

section
/-! PROOFS. The READ commands (R206), and the state right after reset against the invariants. -/

namespace Sys2Proof.Machine

open Sys2Proof

/-! ### The READ commands -/

/-- A command that only reads answers `r` and changes nothing else. -/
theorem answers_of_reading {x : Station} {code : Byte} {i : Instr} {s : State} {r : Response} {good : Prop}
    (h : exec i s = reading x code r s) (hr : (good → r.result = .ok) ∧ (¬ good → r = ⟨.badArgument, []⟩)) :
    ∃ r : Response, exec i s = .next (s.setAnswer x ⟨code, r⟩) ∧ (good → r.result = .ok) ∧
      (¬ good → r = ⟨.badArgument, []⟩) :=
  ⟨r, h, hr⟩

theorem answers_true {r : Response} (h : r.result = .ok) :
    (True → r.result = .ok) ∧ (¬ True → r = ⟨.badArgument, []⟩) := ⟨fun _ => h, fun hn => absurd trivial hn⟩

theorem answers_false {r : Response} (h : r = ⟨.badArgument, []⟩) :
    (False → r.result = .ok) ∧ (¬ False → r = ⟨.badArgument, []⟩) := ⟨False.elim, fun _ => h⟩

/-- An index operand that is read answers OK exactly up to the last object. -/
theorem readIndex_answers {m v : Nat} {f : Fin (m + 1) → Response} (hf : ∀ i, (f i).result = .ok) :
    (v ≤ m → (readIndex v f).result = .ok) ∧ (¬ v ≤ m → readIndex v f = ⟨.badArgument, []⟩) := by
  refine ⟨fun h => ?_, fun h => readIndex_none (by omega) f⟩
  rw [readIndex_some ⟨v, by omega⟩ rfl]
  exact hf _

theorem ansReadReservation_entry (s : State) (i : ResIx) :
    (match s.ppu.entries[i] with
      | none => okay (u8 freeCode ++ s.resFigures 0)
      | some r => okay (r.bytes ++ u8 r.outstanding ++ u8 (s.ppu.placeOf i r.kind) ++ s.resFigures r.kind)).result = .ok := by
  split <;> rfl

/-- READ POOL names a kind by 0 to 3 and a warmer by 16 to 23 (R107). -/
theorem ansReadPool_answers (v : Byte) (s : State) :
    ((v.toNat ≤ 3 ∨ (16 ≤ v.toNat ∧ v.toNat ≤ 23)) → (ansReadPool v s).result = .ok) ∧
    (¬ (v.toNat ≤ 3 ∨ (16 ≤ v.toNat ∧ v.toNat ≤ 23)) → ansReadPool v s = ⟨.badArgument, []⟩) := by
  unfold ansReadPool
  by_cases hk : v.toNat < 4
  · rw [index_eq_some ⟨v.toNat, hk⟩ rfl]
    exact ⟨fun _ => rfl, fun hn => absurd (Or.inl (by omega)) hn⟩
  · rw [index_eq_none (by omega)]
    by_cases hw : 16 ≤ v.toNat
    · by_cases h23 : v.toNat - 16 < 8
      · simp only [hw, if_true, index_eq_some (⟨v.toNat - 16, h23⟩ : WarmerIx) rfl]
        exact ⟨fun _ => rfl, fun hn => absurd (Or.inr ⟨trivial, by omega⟩) hn⟩
      · simp only [hw, if_true, index_eq_none (Nat.not_lt.mp h23)]
        exact ⟨fun h => by omega, fun _ => rfl⟩
    · rw [if_neg hw]
      exact ⟨fun h => by omega, fun _ => rfl⟩

/-- READ DISH judges its selector, and its position for RACK alone (R149). -/
theorem ansReadDish_answers (v position : Byte) (s : State) (h : v ≠ 2) :
    (v.toNat ≤ 3 → (ansReadDish v position s).result = .ok) ∧
    (¬ v.toNat ≤ 3 → ansReadDish v position s = ⟨.badArgument, []⟩) := by
  have h2 : v.toNat ≠ 2 := fun hv => h (BitVec.eq_of_toNat_eq hv)
  unfold ansReadDish
  split
  case h_3 hv => exact absurd hv h2
  case h_5 h0 h1 h2 h3 =>
    have hbeyond : ¬ v.toNat ≤ 3 := fun hv => by
      interval_cases v.toNat
      exacts [h0 rfl, h1 rfl, h2 rfl, h3 rfl]
    exact ⟨fun hv => absurd hv hbeyond, fun _ => rfl⟩
  all_goals exact ⟨fun _ => rfl, fun hn => (hn (by omega)).elim⟩

/-- READ DISH of the rack at a position (R149). -/
theorem ansReadDish_rack (position : Byte) (s : State) :
    ansReadDish 2 position s =
      if 9 < position.toNat then refuse .badArgument
      else match s.dlu.racks[position.toNat]? with
        | some r => okay (r.bytes s.clock)
        | none => refuse .notFound := rfl

theorem ansReadBadge_address (value : BitVec 24) (s : State) :
    ansReadBadge 1 value s =
      if value = 0 then refuse .badArgument
      else match s.pgu.holder value.toNat with
        | some b => okay (s.pgu.badgeBytes b)
        | none => refuse .notFound := rfl

theorem ansReadBadge_other {form : Byte} (h : 1 < form.toNat) (value : BitVec 24) (s : State) :
    ansReadBadge form value s = ⟨.badArgument, []⟩ := by
  unfold ansReadBadge
  split
  case h_3 => rfl
  all_goals omega

/-- READ BADGE by address answers of the badge that holds it (R158). -/
theorem Pgu.holder_isSome_iff (g : Pgu) (address : Nat) :
    (g.holder address).isSome = true ↔ ∃ b : BadgeIx, (g.badges[b]).address = some address := by
  simp [Pgu.holder, List.find?_isSome]

theorem ansReadBadge_held {value : BitVec 24} {s : State} (hv : value ≠ 0)
    (h : ∃ b : BadgeIx, (s.pgu.badges[b]).address = some value.toNat) : (ansReadBadge 1 value s).result = .ok := by
  obtain ⟨b, hb⟩ := Option.isSome_iff_exists.mp ((Pgu.holder_isSome_iff ..).mpr h)
  rw [ansReadBadge_address, if_neg hv, hb]
  rfl

theorem ansReadBadge_unheld {value : BitVec 24} {s : State} (hv : value ≠ 0)
    (h : ∀ b : BadgeIx, (s.pgu.badges[b]).address ≠ some value.toNat) : ansReadBadge 1 value s = ⟨.notFound, []⟩ := by
  have hn : s.pgu.holder value.toNat = none := by
    rw [← Option.not_isSome_iff_eq_none, Pgu.holder_isSome_iff]
    exact fun ⟨b, hb⟩ => h b hb
  rw [ansReadBadge_address, if_neg hv, hn]
  rfl

/-- READ PAGE of a number in the queue or in the retention list (R185). -/
theorem ansReadPage_found {number : BitVec 16} {s : State} (h : number.toNat ≤ 255)
    (hf : (∃ p ∈ s.pgu.queue, p.number = number.toNat) ∨ ∃ r ∈ s.pgu.retention, r.number = number.toNat) :
    (ansReadPage number s).result = .ok := by
  unfold ansReadPage
  rw [if_neg (by omega), if_neg (by omega)]
  split
  next => rfl
  next hq =>
    split
    next => rfl
    next hr =>
      simp only [Pgu.find, List.find?_eq_none, decide_eq_true_eq] at hq hr
      rcases hf with ⟨p, hp, hn⟩ | ⟨r, hr', hn⟩
      · exact absurd hn (hq p hp)
      · exact absurd hn (hr r hr')

theorem ansReadPage_unheld {number : BitVec 16} {s : State} (h : number.toNat ≤ 255)
    (hq : ∀ p ∈ s.pgu.queue, p.number ≠ number.toNat) (hr : ∀ r ∈ s.pgu.retention, r.number ≠ number.toNat) :
    ansReadPage number s = ⟨.notFound, []⟩ := by
  have hq' : s.pgu.find number.toNat = none := by simpa [Pgu.find] using hq
  have hr' : s.pgu.retention.find? (fun r => decide (r.number = number.toNat)) = none := by simpa using hr
  unfold ansReadPage
  rw [if_neg (by omega), if_neg (by omega)]
  simp only [hq', hr', refuse]

/-- Settles O56. -/
theorem readCommandsOnlyAnswer : Obligations.ReadCommandsOnlyAnswer := by
  intro x s answers
  refine ⟨fun idx => answers_of_reading rfl (readIndex_answers fun _ => rfl), fun v => ⟨?_, ?_, ?_, ?_, ?_, ?_, ?_⟩,
    answers_of_reading rfl (answers_true rfl), answers_of_reading rfl (answers_true rfl), fun value => ⟨?_, ?_, ?_, ?_, ?_⟩,
    fun number => ⟨?_, ?_, ?_, ?_⟩⟩
  · exact answers_of_reading rfl (readIndex_answers fun _ => rfl)
  · exact answers_of_reading rfl (readIndex_answers fun _ => rfl)
  · exact answers_of_reading rfl (readIndex_answers fun _ => rfl)
  · exact answers_of_reading rfl (readIndex_answers fun i => ansReadReservation_entry s i)
  · exact answers_of_reading rfl (readIndex_answers fun _ => rfl)
  · exact answers_of_reading rfl (ansReadPool_answers v s)
  · refine fun position => ⟨fun hv => answers_of_reading rfl (ansReadDish_answers v position s hv), fun hp => ?_,
      fun hp hr => ?_, fun hp hr => ?_⟩
    · exact answers_of_reading rfl (answers_false (by rw [ansReadDish_rack, if_pos hp]; rfl))
    · refine answers_of_reading rfl (answers_true ?_)
      rw [ansReadDish_rack, if_neg (by omega), List.getElem?_eq_getElem hr]
      rfl
    · show reading x 0x62 (ansReadDish 2 position s) s = _
      rw [ansReadDish_rack, if_neg (by omega), List.getElem?_eq_none hr]
      rfl
  · exact answers_of_reading rfl (readIndex_answers fun _ => rfl)
  · exact fun form hf => answers_of_reading rfl (answers_false (ansReadBadge_other hf value s))
  · exact fun hv => answers_of_reading rfl (answers_false (by rw [ansReadBadge_address, if_pos hv]; rfl))
  · exact fun hv hb => answers_of_reading rfl (answers_true (ansReadBadge_held hv hb))
  · exact fun hv hb => congrArg (fun r => reading x 0x74 r s) (ansReadBadge_unheld hv hb)
  · rintro rfl
    exact answers_of_reading rfl (answers_true rfl)
  · intro h255 hne
    refine answers_of_reading rfl (answers_false ?_)
    have hn : number.toNat ≠ 65535 := fun h => hne (BitVec.eq_of_toNat_eq h)
    unfold ansReadPage
    rw [if_neg hn, if_pos h255]
    rfl
  · exact fun h hf => answers_of_reading rfl (answers_true (ansReadPage_found h hf))
  · exact fun h hq hr => congrArg (fun r => reading x 0x82 r s) (ansReadPage_unheld h hq hr)

/-! ### The state right after reset -/

/-- A load right after reset: L12 to L19 hold the setpoint that the warmers have handed (R48, R94). -/
theorem resetWith_load (pins : Pins) (l : LoadIx) :
    ∃ v : Int, (State.resetWith pins).hlu.loads[l] = { LoadRec.reset l with setpoint := v } := by
  have h : (State.resetWith pins).hlu.loads[l] =
      if 12 ≤ l.val ∧ l.val < 20 then { LoadRec.reset l with setpoint := 800 } else LoadRec.reset l := by
    simp only [State.resetWith, table_get]
  rw [h]
  split
  · exact ⟨800, rfl⟩
  · exact ⟨0, rfl⟩

theorem resetWith_warmer (pins : Pins) (w : WarmerIx) :
    (State.resetWith pins).ppu.warmers[w] = WarmerRec.reset pins.encoders[w] := table_get _ w

theorem resetWith_pool (pins : Pins) (k : Kind) : (State.resetWith pins).ppu.pools[k] = PoolRec.reset := get_replicate _ k

theorem resetWith_cond (pins : Pins) (c : Cond) : (State.resetWith pins).fm.conds[c.index] = CondRec.reset :=
  get_replicate _ c.index

theorem resetWith_heatSound (pins : Pins) : (State.resetWith pins).HeatSound := by
  intro l
  obtain ⟨v, h⟩ := resetWith_load pins l
  rw [h]
  exact ⟨fun _ => rfl, rfl, show 0 * 1000 ≤ 0 * 200 by omega, fun h => (by cases h)⟩

theorem resetWith_budgetHeld (pins : Pins) : (State.resetWith pins).BudgetHeld := by
  have h0 : ∀ l : LoadIx, ((State.resetWith pins).hlu.loads[l]).grant * ((State.resetWith pins).hlu.loads[l]).rating = 0 := by
    intro l
    obtain ⟨v, h⟩ := resetWith_load pins l
    rw [h]
    rfl
  unfold State.BudgetHeld
  rw [Finset.sum_congr rfl (fun l _ => h0 l)]
  simp

theorem resetWith_warmers_fit (pins : Pins) (w : WarmerIx) :
    ((State.resetWith pins).ppu.warmers[w]).count ≤ ((State.resetWith pins).ppu.warmers[w]).capacity ∧
      ((State.resetWith pins).ppu.warmers[w]).capacity ≤ 240 := by
  rw [resetWith_warmer]
  exact ⟨Nat.le_refl 0, Nat.zero_le _⟩

theorem resetWith_poolSound (pins : Pins) : (State.resetWith pins).PoolSound := by
  refine ⟨fun k => ?_, resetWith_warmers_fit pins, fun l hl => (by cases hl), fun r hr => (by cases hr), fun k => ?_⟩
  · rw [resetWith_pool]; rfl
  · rw [resetWith_pool]; rfl

theorem resetWith_reservationsSound (pins : Pins) : (State.resetWith pins).ReservationsSound := by
  have hentry : ∀ i : ResIx, (State.resetWith pins).ppu.entries[i] = none := fun i => get_replicate _ i
  refine ⟨⟨List.nodup_nil, fun i => ?_⟩, fun k => ⟨?_, ?_⟩, fun i r h => ?_, resetWith_warmers_fit pins, fun i h => ?_⟩
  · rw [hentry]
    exact ⟨fun h => (by cases h), fun h => (by cases h)⟩
  · rw [resetWith_pool]
    refine (List.sum_eq_zero fun n hn => ?_).symm
    obtain ⟨w, -, rfl⟩ := List.mem_map.mp hn
    rw [resetWith_warmer]
    split <;> rfl
  · exact Nat.zero_le _
  · rw [hentry] at h; cases h
  · rw [show (State.resetWith pins).fse.steps[i] = StepRec.reset from Fse.reset_step i] at h; cases h

/-- Settles O58. -/
theorem resetMeetsEveryInvariant : Obligations.ResetMeetsEveryInvariant := by
  intro pins
  have hqueue : ∀ x : Station, (State.resetWith pins).sp.queues[x] = NoticeQueue.reset := Sp.reset_queue
  refine ⟨resetWith_heatSound pins, resetWith_budgetHeld pins, resetWith_poolSound pins, fun x => ?_, fun x => ?_,
    ⟨fun h => (by cases h), fun ⟨c, h, _⟩ => ?_⟩, ⟨Nat.zero_le _, Nat.zero_le _⟩, ⟨Nat.zero_le _, Nat.zero_le _⟩,
    resetWith_reservationsSound pins⟩
  · rw [hqueue]; exact get_replicate _ x
  · rw [hqueue]; exact Nat.zero_le _
  · rw [resetWith_cond] at h; cases h

end Sys2Proof.Machine
end

section
/-! PROOFS. The release walk and the posting of an ending (R34, R36, R37). -/

namespace Sys2Proof.Machine

open Sys2Proof

/-! ### The release walk (R34) -/

/-- The record that the walk visits is returned NOT RUN. -/
def StepRec.released (r : StepRec) (now : Nat) (c : Chan) : StepRec :=
  { r with owner := .station, completion := Completion.unrun .notRun now c }

/-- One turn of the walk: it stops at a record that is not the engine's to return, and after an END. -/
theorem State.releaseWalk_some (c : Chan) (n : Nat) (i : StepIx) (s : State) :
    s.releaseWalk c (n + 1) (some i) =
      if (s.fse.steps[i]).owner = .engine ∧ (s.fse.steps[i]).claim = none then
        if (s.fse.steps[i]).kind = .finish then s.setStep i ((s.fse.steps[i]).released s.clock c)
        else (s.setStep i ((s.fse.steps[i]).released s.clock c)).releaseWalk c n ((s.fse.steps[i]).next i)
      else s := rfl

/-- An induction principle for the walk: it only ever returns an ENGINE-owned, unclaimed record. -/
theorem State.releaseWalk_induct {P : State → Prop} (c : Chan)
    (step : ∀ (i : StepIx) (t : State), P t → (t.fse.steps[i]).owner = .engine → (t.fse.steps[i]).claim = none →
      P (t.setStep i ((t.fse.steps[i]).released t.clock c)))
    (n : Nat) (start : Option StepIx) (s : State) (h : P s) : P (s.releaseWalk c n start) := by
  induction n generalizing start s with
  | zero => exact h
  | succ n ih =>
    cases start with
    | none => exact h
    | some i =>
      rw [State.releaseWalk_some]
      split
      next hi =>
        split
        · exact step i s h hi.1 hi.2
        · exact ih _ _ (step i s h hi.1 hi.2)
      next => exact h

/-- The walk touches the step store alone. -/
theorem State.releaseWalk_eq (c : Chan) (n : Nat) (start : Option StepIx) (s : State) :
    s.releaseWalk c n start = { s with fse := { s.fse with steps := (s.releaseWalk c n start).fse.steps } } :=
  State.releaseWalk_induct (P := fun t => t = { s with fse := { s.fse with steps := t.fse.steps } }) c
    (fun i t ht _ _ => by rw [ht]; rfl) n start s rfl

/-- Each record is left as it was, or was ENGINE-owned and unclaimed and has been returned NOT RUN. -/
theorem State.releaseWalk_step (c : Chan) (n : Nat) (start : Option StepIx) (s : State) (i : StepIx) :
    (s.releaseWalk c n start).fse.steps[i] = s.fse.steps[i] ∨
      ((s.fse.steps[i]).owner = .engine ∧ (s.fse.steps[i]).claim = none ∧
        (s.releaseWalk c n start).fse.steps[i] = (s.fse.steps[i]).released s.clock c) := by
  refine (State.releaseWalk_induct (P := fun t => t.clock = s.clock ∧ (t.fse.steps[i] = s.fse.steps[i] ∨
    ((s.fse.steps[i]).owner = .engine ∧ (s.fse.steps[i]).claim = none ∧
      t.fse.steps[i] = (s.fse.steps[i]).released s.clock c))) c ?_ n start s ⟨rfl, .inl rfl⟩).2
  rintro j t ⟨hclock, ht⟩ ho hc
  refine ⟨hclock, ?_⟩
  by_cases hij : i = j
  · subst hij
    rcases ht with ht | ⟨-, -, ht⟩
    · refine .inr ⟨ht ▸ ho, ht ▸ hc, ?_⟩
      rw [State.setStep_get, ht, hclock]
    · rw [ht] at ho; cases ho
  · rw [State.setStep_get_ne hij]
    exact ht

/-- A record of the station, or a claimed one, is left alone. -/
theorem State.releaseWalk_spared (c : Chan) (n : Nat) (start : Option StepIx) (s : State) (i : StepIx)
    (h : (s.fse.steps[i]).owner = .station ∨ (s.fse.steps[i]).claim ≠ none) :
    (s.releaseWalk c n start).fse.steps[i] = s.fse.steps[i] := by
  rcases State.releaseWalk_step c n start s i with ht | ⟨ho, hc, -⟩
  · exact ht
  · rcases h with h | h
    · rw [h] at ho; cases ho
    · exact absurd hc h

theorem State.releaseWalk_owner (c : Chan) (n : Nat) (start : Option StepIx) (s : State) (i : StepIx)
    (h : (s.fse.steps[i]).owner = .station) : ((s.releaseWalk c n start).fse.steps[i]).owner = .station := by
  rw [State.releaseWalk_spared c n start s i (.inl h), h]

/-- The record the walk starts at is returned. -/
theorem State.releaseWalk_first (c : Chan) (n : Nat) (i : StepIx) (s : State)
    (ho : (s.fse.steps[i]).owner = .engine) (hc : (s.fse.steps[i]).claim = none) :
    ((s.releaseWalk c (n + 1) (some i)).fse.steps[i]).owner = .station := by
  have hs : ((s.setStep i ((s.fse.steps[i]).released s.clock c)).fse.steps[i]).owner = .station := by
    rw [State.setStep_get]; rfl
  rw [State.releaseWalk_some, if_pos ⟨ho, hc⟩]
  split
  · exact hs
  · exact State.releaseWalk_owner _ _ _ _ _ hs

/-- What the walk does to the step store depends on the step store and the clock alone. -/
theorem State.releaseWalk_congr (c : Chan) (n : Nat) (start : Option StepIx) {s t : State}
    (hsteps : t.fse.steps = s.fse.steps) (hclock : t.clock = s.clock) :
    (t.releaseWalk c n start).fse.steps = (s.releaseWalk c n start).fse.steps := by
  induction n generalizing start s t with
  | zero => exact hsteps
  | succ n ih =>
    cases start with
    | none => exact hsteps
    | some i =>
      have hnext : (t.setStep i ((t.fse.steps[i]).released t.clock c)).fse.steps =
          (s.setStep i ((s.fse.steps[i]).released s.clock c)).fse.steps := by
        rw [State.setStep_fse_steps, State.setStep_fse_steps, hsteps, hclock]
      rw [State.releaseWalk_some, State.releaseWalk_some]
      simp only [hsteps, hclock] at hnext ⊢
      split
      · split
        · exact hnext
        · exact ih _ hnext hclock
      · exact hsteps

/-! ### Posting an ending (R36, R37) -/

/-- The ending record of a channel's chain, before it is known to supersede one. -/
def State.endingOf (s : State) (c : Chan) (last : StepIx) (outcome : StepOutcome) (x : Station) : Ending :=
  { channel := c, lastStep := last, outcome := outcome, entered := (s.fse.channels[c]).state, endedAt := s.clock
    superseded := false, owedTo := x }

theorem State.postEnding_unowned {c : Chan} {s : State} (h : (s.fse.channels[c]).owner = none) (i : StepIx) (o : StepOutcome) :
    s.postEnding c i o = s := by
  unfold State.postEnding
  simp only [h]

theorem State.postEnding_room {c : Chan} {s : State} {y : Station} (h : (s.fse.channels[c]).owner = some y)
    (hq : (s.sp.queues[y]).notices.length < 16) (i : StepIx) (o : StepOutcome) :
    s.postEnding c i o =
      (s.setQueue y { s.sp.queues[y] with notices := (s.sp.queues[y]).notices ++ [(s.endingOf c i o y).notice] }).setChan c
        { s.fse.channels[c] with
          lastEnding := some (s.endingOf c i o y)
          owner := if (s.fse.channels[c]).state = .idle then none else some y } := by
  have hr : s.noticeRoom y = true := decide_eq_true hq
  unfold State.postEnding
  simp only [h, hr, if_true]
  rw [State.postNotice_room hq]
  rfl

theorem State.postEnding_full {c : Chan} {s : State} {y : Station} (h : (s.fse.channels[c]).owner = some y)
    (hq : 16 ≤ (s.sp.queues[y]).notices.length) (i : StepIx) (o : StepOutcome) :
    s.postEnding c i o =
      (s.joinWaiting y c).setChan c { s.fse.channels[c] with
        stacked := some { s.endingOf c i o y with superseded := (s.fse.channels[c]).stacked.isSome }
        lastEnding := some { s.endingOf c i o y with superseded := (s.fse.channels[c]).stacked.isSome } } := by
  have hr : s.noticeRoom y = false := decide_eq_false (by unfold Config.noticeRoom; omega)
  unfold State.postEnding
  simp only [h, hr]
  rfl

/-- The owner's queue either has room for the ending or is full. -/
theorem State.queue_room_or_full (s : State) (y : Station) :
    (s.sp.queues[y]).notices.length < 16 ∨ 16 ≤ (s.sp.queues[y]).notices.length := Nat.lt_or_ge _ _

/-- LAST ENDING keeps the ending (R37). -/
theorem State.postEnding_lastEnding {c : Chan} {s : State} {y : Station} (h : (s.fse.channels[c]).owner = some y)
    (i : StepIx) (o : StepOutcome) :
    ∃ n : Ending, ((s.postEnding c i o).fse.channels[c]).lastEnding = some n ∧ n.lastStep = i ∧ n.outcome = o ∧
      n.entered = (s.fse.channels[c]).state ∧ n.endedAt = s.clock ∧ n.owedTo = y := by
  rcases s.queue_room_or_full y with hq | hq
  · rw [State.postEnding_room h hq, State.setChan_get]
    exact ⟨_, rfl, rfl, rfl, rfl, rfl, rfl⟩
  · rw [State.postEnding_full h hq, State.setChan_get]
    exact ⟨_, rfl, rfl, rfl, rfl, rfl, rfl⟩

/-- What the posting of an ending at record `i` shows at the ports, and what the channel, until then `ch`, keeps of it: where
the owner's queue has room, its notice stands there after those `shown` before it. -/
structure Posted (s : State) (shown : List Notice) (c : Chan) (i : StepIx) (o : StepOutcome) (ch : ChanRec) (p : Sp) (owner : Option Station)
    (stacked last : Option Ending) : Prop where
  ports : p.ports = s.sp.ports
  kept : ch.state ≠ .idle → owner = ch.owner
  room : ∀ y : Station, ch.owner = some y → (s.sp.queues[y]).notices.length + shown.length < 16 →
    p.queues = s.sp.queues.set y { s.sp.queues[y] with
      notices := (s.sp.queues[y]).notices ++ shown ++ [s.endedNotice c i o ch.state] } ∧
    owner = (if ch.state = .idle then none else some y) ∧ stacked = ch.stacked ∧
    last = some { channel := c, lastStep := i, outcome := o, entered := ch.state, endedAt := s.clock, superseded := false
                  owedTo := y }

/-- Posting an ending writes the notice queues and the attention lines, and of the channel what tells of its endings. -/
theorem State.postEnding_writes (c : Chan) (i : StepIx) (o : StepOutcome) (s : State) :
    ∃ (p : Sp) (owner : Option Station) (stacked last : Option Ending),
      s.postEnding c i o = ({ s with sp := p } : State).setChan c
        { s.fse.channels[c] with owner := owner, stacked := stacked, lastEnding := last } ∧
      Posted s [] c i o s.fse.channels[c] p owner stacked last := by
  cases h : (s.fse.channels[c]).owner with
  | none =>
    refine ⟨s.sp, none, (s.fse.channels[c]).stacked, (s.fse.channels[c]).lastEnding, ?_, rfl, fun _ => h.symm,
      fun y hy => by rw [h] at hy; cases hy⟩
    rw [State.postEnding_unowned h, ← h]
    exact (s.setChan_self c).symm
  | some y =>
    rcases s.queue_room_or_full y with hq | hq
    · rw [State.postEnding_room h hq]
      refine ⟨_, _, _, _, rfl, rfl, fun hi => (if_neg hi).trans h.symm, fun z hz _ => ?_⟩
      rw [h] at hz
      cases hz
      exact ⟨by rw [List.append_nil]; rfl, rfl, rfl, rfl⟩
    · rw [State.postEnding_full h hq]
      refine ⟨(s.joinWaiting y c).sp, some y, _, _, by rw [← h]; rfl, rfl, fun _ => h.symm, fun z hz hroom => ?_⟩
      rw [h] at hz
      cases hz
      exact absurd hroom (Nat.not_lt.mpr hq)

/-- Settles O12. -/
theorem releaseWalkAndEndingsRules : Obligations.ReleaseWalkAndEndingsRules := by
  refine ⟨fun c n start s => ⟨State.releaseWalk_eq c n start s,
    fun i => ⟨State.releaseWalk_spared c n start s i, ?_⟩, fun i hn hstart ho hc => ?_⟩,
    fun c i o y s h => ⟨fun hq => ?_, fun hq => ?_, ?_⟩⟩
  · exact (State.releaseWalk_step c n start s i).imp id fun ⟨_, _, ht⟩ => ht
  · obtain ⟨m, rfl⟩ := Nat.exists_eq_succ_of_ne_zero hn.ne'
    rw [hstart]
    exact State.releaseWalk_first c m i s ho hc
  · rw [State.postEnding_room h hq]
    rw [State.setChan_sp, State.setQueue_get, State.setChan_get]
    exact ⟨rfl, rfl⟩
  · rw [State.postEnding_full h hq]
    have hw : (s.joinWaiting y c).sp.queues[y] = { s.sp.queues[y] with
        waiting := if (s.sp.queues[y]).waiting.contains c then (s.sp.queues[y]).waiting
          else (s.sp.queues[y]).waiting ++ [c] } := State.setQueue_get ..
    rw [State.setChan_sp, State.setChan_get, hw]
    refine ⟨rfl, ?_, h, rfl⟩
    show c ∈ (if (s.sp.queues[y]).waiting.contains c then _ else _)
    split
    next hmem => exact List.contains_iff_mem.mp hmem
    next => exact List.mem_append_right _ (List.mem_singleton.mpr rfl)
  · obtain ⟨n, hlast, hstep, hout, -, hat, howed⟩ := State.postEnding_lastEnding h i o
    exact ⟨n, hlast, hstep, hout, hat, howed⟩

end Sys2Proof.Machine
end

section
/-! PROOFS. What paging and the reservation table leave to the engine: its own records, the heat loops, the fault monitor and
the channels' moves (R111 to R124, R167 to R183). -/

namespace Sys2Proof.Machine

open Sys2Proof

/-- From `e` to `f` the engine, the heat loops and the fault monitor stand as they were, and no channel has been handed a
move. -/
structure Ev.Aside (e f : Ev) : Prop where
  fse : f.s.fse = e.s.fse
  hlu : f.s.hlu = e.s.hlu
  fm : f.s.fm = e.s.fm
  moves : ∀ (c : Chan) (j : Option StepIx), Report.moveOn c j ∈ f.work → Report.moveOn c j ∈ e.work

namespace Ev.Aside

theorem refl (e : Ev) : e.Aside e := ⟨rfl, rfl, rfl, fun _ _ h => h⟩

theorem trans {e f g : Ev} (h : e.Aside f) (k : f.Aside g) : e.Aside g :=
  ⟨k.fse.trans h.fse, k.hlu.trans h.hlu, k.fm.trans h.fm, fun c j hj => h.moves c j (k.moves c j hj)⟩

theorem on (e : Ev) (f : State → State) (h1 : (f e.s).fse = e.s.fse) (h2 : (f e.s).hlu = e.s.hlu)
    (h3 : (f e.s).fm = e.s.fm) : e.Aside (e.on f) := ⟨h1, h2, h3, fun _ _ h => h⟩

/-- A report that is no channel's move is handed on. -/
theorem hand (e : Ev) (r : Report) (hr : ∀ c j, r ≠ .moveOn c j) : e.Aside (e.hand r) := by
  refine ⟨rfl, rfl, rfl, fun c j h => ?_⟩
  rw [Ev.hand_work, List.mem_append, List.mem_singleton] at h
  exact h.resolve_right fun hj => hr c j hj.symm

end Ev.Aside

/-! ### Notices -/

/-- A notice is a matter of the station ports alone. -/
theorem State.postNotice_eq (x : Station) (n : Notice) (s : State) :
    ∃ p : Sp, s.postNotice x n = { s with sp := p } ∧ p.ports = s.sp.ports := by
  obtain ⟨q, hq, -, -⟩ := State.postNotice_cases x n s
  exact ⟨_, hq, rfl⟩

theorem Ev.aside_postNotice (x : Station) (n : State → Notice) (e : Ev) :
    e.Aside (e.on fun s => s.postNotice x (n s)) := by
  obtain ⟨p, hp, -⟩ := State.postNotice_eq x (n e.s) e.s
  exact .on e _ (by rw [hp]) (by rw [hp]) (by rw [hp])

theorem Ev.aside_setPgu (g : State → Pgu) (e : Ev) : e.Aside (e.on fun s => s.setPgu (g s)) := .on e _ rfl rfl rfl

/-! ### Paging -/

theorem Ev.reportPageEnd_aside (p : PageRec) (o : PageOutcome) (tell : Bool) (e : Ev) :
    e.Aside (e.reportPageEnd p o tell) := by
  unfold Ev.reportPageEnd
  refine Aside.trans ?_ (.hand _ _ fun _ _ h => by cases h)
  split
  · split
    · exact .hand _ _ fun _ _ h => by cases h
    · exact Ev.aside_postNotice ..
    · exact .refl e
  · exact .refl e

theorem Ev.endPage_aside (p : PageRec) (o : PageOutcome) (tell : Bool) (e : Ev) : e.Aside (e.endPage p o tell) :=
  .trans (Ev.aside_setPgu (fun s => s.pgu.leave p o s.clock) e) (Ev.reportPageEnd_aside ..)

theorem Ev.withoutRecipient_aside (p : PageRec) (e : Ev) : e.Aside (e.withoutRecipient p) := by
  unfold Ev.withoutRecipient
  split
  · exact Ev.aside_setPgu ..
  · exact Ev.endPage_aside ..

theorem Ev.becomeSent_aside (p : PageRec) (e : Ev) : e.Aside (e.becomeSent p) := by
  unfold Ev.becomeSent
  split
  · exact Ev.endPage_aside ..
  · exact Ev.aside_setPgu ..

theorem Ev.settlePage_aside (p : PageRec) (e : Ev) : e.Aside (e.settlePage p) := by
  unfold Ev.settlePage
  split
  · exact Ev.withoutRecipient_aside ..
  · split
    · exact Ev.becomeSent_aside ..
    · exact .refl e

theorem Ev.selectHead_aside (h : PageRec) (e : Ev) : e.Aside (e.selectHead h) := by
  unfold Ev.selectHead
  exact .trans (Ev.aside_setPgu ..) (Ev.settlePage_aside ..)

theorem Ev.transmit_aside (p : PageRec) (b : BadgeIx) (e : Ev) : e.Aside (e.transmit p b) := .on e _ rfl rfl rfl

theorem Ev.selectFrom_aside (n : Nat) (e : Ev) : e.Aside (e.selectFrom n) := by
  induction n generalizing e with
  | zero => exact .refl e
  | succ n ih =>
    unfold Ev.selectFrom
    split
    · exact .trans (Ev.selectHead_aside ..) (ih _)
    · split
      · exact .trans (Ev.selectHead_aside ..) (ih _)
      · split
        · exact Ev.transmit_aside ..
        · exact .refl e
    · split
      · exact Ev.transmit_aside ..
      · exact .refl e
    · exact .refl e

theorem Ev.trySelect_aside (e : Ev) : e.Aside e.trySelect := by
  unfold Ev.trySelect
  split
  · exact Ev.selectFrom_aside ..
  · exact .refl e

theorem Ev.submit_aside (sub : Submission) (o : Originator) (n : Option Station) (r : ReportTo) (e : Ev) :
    e.Aside (e.submit sub o n r) := .trans (Ev.aside_setPgu ..) (Ev.trySelect_aside _)

theorem Ev.submitFault_aside (sub : Submission) (e : Ev) : e.Aside (e.submitFault sub).1 := by
  unfold Ev.submitFault
  split
  · exact Ev.submit_aside ..
  · split
    · exact .trans (Ev.endPage_aside ..) (Ev.submit_aside ..)
    · exact .refl e

theorem Ev.releasePage_aside (c : Chan) (n : Nat) (e : Ev) : e.Aside (e.releasePage c n) := by
  unfold Ev.releasePage
  split
  · exact .refl e
  · split
    · split
      · exact Ev.aside_setPgu ..
      · exact Ev.endPage_aside ..
    · exact .refl e

/-! ### The reservation table -/

theorem Ev.aside_resNotice (i : ResIx) (r : ResRec) (code : NoticeCode) (a b : Nat) (e : Ev) :
    e.Aside (e.on fun s => s.resNotice i r code a b) := by
  unfold State.resNotice
  cases r.owner with
  | station x => exact Ev.aside_postNotice ..
  | channel c => exact .refl e

theorem Ev.becomeReady_aside (i : ResIx) (r : ResRec) (e : Ev) : e.Aside (e.becomeReady i r) := by
  have h : e.Aside (e.on fun s =>
      (s.setEntry i (some { r with state := .ready })).resNotice i r .reservationReady r.kind.val r.count) :=
    .trans (.on e (State.setEntry i (some { r with state := .ready })) rfl rfl rfl) (Ev.aside_resNotice ..)
  unfold Ev.becomeReady
  simp only
  split
  · exact h.trans (.hand _ _ fun _ _ hj => by cases hj)
  · exact h

theorem Ev.evaluateFrom_aside (k : Kind) (l : List ResIx) (e : Ev) : e.Aside (e.evaluateFrom k l) := by
  induction l generalizing e with
  | nil => exact .refl e
  | cons i l ih =>
    unfold Ev.evaluateFrom
    split
    · split
      · split
        · exact .trans (Ev.becomeReady_aside ..) (ih _)
        · exact .refl e
      · exact ih e
    · exact ih e

theorem Ev.evaluate_aside (k : Kind) (e : Ev) : e.Aside (e.evaluate k) := Ev.evaluateFrom_aside ..

/-- The entry's place is free and the owner, where it is told, is told. -/
theorem Ev.endEntry_aside (i : ResIx) (r : ResRec) (o : ResEnd) (tell : Bool) (e : Ev) :
    e.Aside (e.endEntry i r o tell) := by
  have h : e.Aside (e.on fun s =>
      let t := s.setEntry i none
      { t with ppu := { t.ppu with ageList := t.ppu.ageList.filter (fun j => decide (j ≠ i)) } }) := .on e _ rfl rfl rfl
  unfold Ev.endEntry
  simp only
  split
  · split
    · exact h.trans (Ev.aside_resNotice ..)
    · exact h.trans (.hand _ _ fun _ _ hj => by cases hj)
  · exact h

theorem Ev.finishEntry_aside (i : ResIx) (r : ResRec) (o : ResEnd) (tell : Bool) (e : Ev) :
    e.Aside (e.finishEntry i r o tell) :=
  .trans (Ev.endEntry_aside ..) (.trans (Ev.evaluate_aside ..) (.hand _ _ fun _ _ h => by cases h))

theorem Ev.createEntry_aside (i : ResIx) (k : Kind) (n : Nat) (o : ResOwner) (e : Ev) :
    e.Aside (e.createEntry i k n o).1 := by
  unfold Ev.createEntry
  exact .trans (.on e _ rfl rfl rfl) (Ev.evaluate_aside ..)

theorem Ev.requestPlates_aside (c : Chan) (kind : Byte) (n : Nat) (e : Ev) : e.Aside (e.requestPlates c kind n).1 := by
  unfold Ev.requestPlates
  split
  · exact .refl e
  · split
    · exact .refl e
    · split
      · exact .refl e
      · exact Ev.createEntry_aside ..

theorem Ev.cancelEntry_aside (i : ResIx) (n : Nat) (e : Ev) : e.Aside (e.cancelEntry i n) := by
  unfold Ev.cancelEntry
  split
  · exact Ev.finishEntry_aside ..
  · exact .refl e

end Sys2Proof.Machine
end

section
/-! PROOFS. How a chain and a step end, stated once (R29 to R36). -/

namespace Sys2Proof.Machine

open Sys2Proof

/-! ### Giving back (R35) -/

/-- What a channel gives back when its chain ends: its reservation, its places in the waiting sets, and its page. -/
def Ev.giveBack (c : Chan) (e : Ev) : Ev :=
  ((e.cancelHeld c).on (State.onFse (fun f => (f.leaveEntry c).leavePlace c))).releaseHeld c

/-- A change of the engine's records keeps what is aside. -/
theorem Ev.Aside.onFse {e f : Ev} (h : e.Aside f) (g : Fse → Fse) : (e.on (State.onFse g)).Aside (f.on (State.onFse g)) :=
  ⟨congrArg g h.fse, h.hlu, h.fm, h.moves⟩

theorem Ev.on_self (f : State → State) (e : Ev) (h : f e.s = e.s) : e.on f = e := by
  cases e; exact congrArg (fun s => Ev.mk s _ _ _) h

theorem State.onChan_self {c : Chan} {f : ChanRec → ChanRec} {s : State} (h : f s.fse.channels[c] = s.fse.channels[c]) :
    s.onChan c f = s := (congrArg (fun r => s.setChan c r) h).trans (s.setChan_self c)

theorem ChanRec.reservation_free {ch : ChanRec} (h : ch.reservation = none) : { ch with reservation := none } = ch := by
  cases ch; cases h; rfl

theorem ChanRec.page_free {ch : ChanRec} (h : ch.page = none) : { ch with page := none } = ch := by
  cases ch; cases h; rfl

theorem Ev.cancelHeld_free {c : Chan} {e : Ev} (h : (e.s.fse.channels[c]).reservation = none) : e.cancelHeld c = e := by
  unfold Ev.cancelHeld; simp only [h]

theorem Ev.closeHeld_free {c : Chan} {e : Ev} (h : (e.s.fse.channels[c]).reservation = none) : e.closeHeld c = e := by
  unfold Ev.closeHeld; simp only [h]

theorem Ev.releaseHeld_free {c : Chan} {e : Ev} (h : (e.s.fse.channels[c]).page = none) : e.releaseHeld c = e := by
  unfold Ev.releaseHeld; simp only [h]

theorem Ev.cancelHeld_aside (c : Chan) (e : Ev) :
    (e.on (State.onChan c (fun ch => { ch with reservation := none }))).Aside (e.cancelHeld c) := by
  cases h : (e.s.fse.channels[c]).reservation with
  | none =>
    rw [Ev.cancelHeld_free h, Ev.on_self _ e (State.onChan_self (ChanRec.reservation_free h))]
    exact .refl e
  | some p =>
    unfold Ev.cancelHeld
    simp only [h]
    exact Ev.cancelEntry_aside ..

theorem Ev.releaseHeld_aside (c : Chan) (e : Ev) :
    (e.on (State.onChan c (fun ch => { ch with page := none }))).Aside (e.releaseHeld c) := by
  cases h : (e.s.fse.channels[c]).page with
  | none =>
    rw [Ev.releaseHeld_free h, Ev.on_self _ e (State.onChan_self (ChanRec.page_free h))]
    exact .refl e
  | some p =>
    unfold Ev.releaseHeld
    simp only [h]
    exact Ev.releasePage_aside ..

/-- The engine's own part of giving back: RESERVATION and PAGE are none, and the channel stands in no waiting set. -/
def Fse.gaveBack (f : Fse) (c : Chan) : Fse :=
  { f with
    channels := f.channels.set c { f.channels[c] with reservation := none, page := none }
    entryWaiters := f.entryWaiters.filter (fun d => decide (d ≠ c))
    placeWaiters := f.placeWaiters.filter (fun d => decide (d ≠ c)) }

theorem Fse.gaveBack_eq (f : Fse) (c : Chan) :
    f.gaveBack c =
      let g := (({ f with channels := f.channels.set c { f.channels[c] with reservation := none } } : Fse).leaveEntry c).leavePlace c
      { g with channels := g.channels.set c { g.channels[c] with page := none } } := by
  simp [Fse.gaveBack, Fse.leaveEntry, Fse.leavePlace]

theorem Ev.giveBack_aside (c : Chan) (e : Ev) : (e.on (State.onFse (fun f => f.gaveBack c))).Aside (e.giveBack c) := by
  have h := ((Ev.cancelHeld_aside c e).onFse (fun f => (f.leaveEntry c).leavePlace c)).onFse
    (fun f => { f with channels := f.channels.set c { f.channels[c] with page := none } })
  have he := congrArg (fun f => e.on (State.onFse fun _ => f)) (Fse.gaveBack_eq e.s.fse c)
  exact (show e.on (State.onFse fun f => f.gaveBack c) = _ from he) ▸ h.trans (Ev.releaseHeld_aside ..)

theorem Ev.giveBack_free {c : Chan} {e : Ev} (hr : (e.s.fse.channels[c]).reservation = none)
    (hp : (e.s.fse.channels[c]).page = none) : e.giveBack c = e.on (State.onFse (fun f => (f.leaveEntry c).leavePlace c)) := by
  rw [Ev.giveBack, Ev.cancelHeld_free hr]
  exact Ev.releaseHeld_free hp

/-! ### The end of a chain (R33 to R36) -/

/-- The channel record as the chain's end leaves it, before anything is given back (R33). -/
def ChanRec.closed (ch : ChanRec) (outcome : StepOutcome) (byEnd : Bool) (holdAt : Option Int) : ChanRec :=
  { ch.entering outcome byEnd holdAt with
    current := none, prefetched := none, stepTimer := false, repeated := false, delayedEnd := none }

/-- The state a channel enters decides nothing but STATE and HOLD SETPOINT. -/
theorem ChanRec.entering_eq (ch : ChanRec) (o : StepOutcome) (byEnd : Bool) (holdAt : Option Int) :
    ∃ (st : ChanState) (v : Int), ch.entering o byEnd holdAt = { ch with state := st, holdSetpoint := v } := by
  unfold ChanRec.entering
  split
  · split <;> exact ⟨_, _, rfl⟩
  · split
    · exact ⟨_, _, rfl⟩
    · split <;> exact ⟨_, _, rfl⟩

theorem ChanRec.closed_eq (ch : ChanRec) (o : StepOutcome) (byEnd : Bool) (holdAt : Option Int) :
    ∃ (st : ChanState) (v : Int), ch.closed o byEnd holdAt = { ch with
      state := st, holdSetpoint := v, current := none, prefetched := none, stepTimer := false, repeated := false
      delayedEnd := none } := by
  obtain ⟨st, v, h⟩ := ChanRec.entering_eq ch o byEnd holdAt
  exact ⟨st, v, by rw [ChanRec.closed, h]⟩

theorem ChanRec.closed_same (ch : ChanRec) (o : StepOutcome) (byEnd : Bool) (holdAt : Option Int) :
    (ch.closed o byEnd holdAt).owner = ch.owner ∧ (ch.closed o byEnd holdAt).stacked = ch.stacked ∧
      (ch.closed o byEnd holdAt).reservation = ch.reservation ∧ (ch.closed o byEnd holdAt).page = ch.page := by
  obtain ⟨st, v, h⟩ := ChanRec.closed_eq ch o byEnd holdAt
  rw [h]
  exact ⟨rfl, rfl, rfl, rfl⟩

/-- The step store when a chain has ended: an END leaves it, any other end makes the release walk (R28, R34). -/
def State.walked (s : State) (c : Chan) (byEnd : Bool) (walkFrom : Option StepIx) : Vector StepRec 512 :=
  if byEnd then s.fse.steps else (s.releaseWalk c 513 walkFrom).fse.steps

/-- The chain's end up to the hand-over to the oven load: the release walk and the state entered. -/
def State.chainClosed (s : State) (c : Chan) (o : StepOutcome) (byEnd : Bool) (holdAt : Option Int)
    (walkFrom : Option StepIx) : State :=
  ({ s with fse := { s.fse with
      steps := s.walked c byEnd walkFrom
      channels := s.fse.channels.set c ((s.fse.channels[c]).closed o byEnd holdAt) } } : State).handOven c

/-- The walk, the state entered and the hand-over are one change of the state. -/
theorem State.chainClosed_eq (s : State) (c : Chan) (o : StepOutcome) (byEnd : Bool) (holdAt : Option Int)
    (w : Option StepIx) :
    ((if byEnd then s else s.releaseWalk c 513 w).onChan c (fun ch => ch.closed o byEnd holdAt)).handOven c =
      s.chainClosed c o byEnd holdAt w := by
  cases byEnd with
  | true => rfl
  | false =>
    exact congrArg (fun t : State => (t.onChan c (fun ch => ch.closed o false holdAt)).handOven c)
      (State.releaseWalk_eq c 513 w s)

/-- The end of a chain, before its ending is posted (R33 to R35). -/
def Ev.chainEnd (c : Chan) (o : StepOutcome) (byEnd : Bool) (holdAt : Option Int) (w : Option StepIx) (e : Ev) : Ev :=
  (e.on fun s => s.chainClosed c o byEnd holdAt w).giveBack c

theorem Ev.endChain_of_none {c : Chan} {e : Ev} (h : (e.s.fse.channels[c]).current = none) (o : StepOutcome) (byEnd : Bool)
    (holdAt : Option Int) (w : Option StepIx) : e.endChain c o byEnd holdAt w = e.chainEnd c o byEnd holdAt w := by
  unfold Ev.chainEnd
  simp only [← State.chainClosed_eq]
  unfold Ev.endChain
  simp only [h]
  cases byEnd <;> rfl

/-- The chain of a channel with a record in hand ends with that record (R36). -/
theorem Ev.endChain_of_some {c : Chan} {i : StepIx} {e : Ev} (h : (e.s.fse.channels[c]).current = some i) (o : StepOutcome)
    (byEnd : Bool) (holdAt : Option Int) (w : Option StepIx) :
    e.endChain c o byEnd holdAt w = (e.chainEnd c o byEnd holdAt w).on (State.postEnding c i o) := by
  unfold Ev.chainEnd
  simp only [← State.chainClosed_eq]
  unfold Ev.endChain
  simp only [h]
  cases byEnd <;> rfl

/-- What the oven load of a channel is handed. -/
def LoadRec.Takes (l : LoadRec) (ch : ChanRec) (before : LoadRec) : Prop :=
  l.setpoint = (ch.demand before.setpoint).1 ∧ l.active = (ch.demand before.setpoint).2 ∧ l.trip = before.trip

theorem State.chainClosed_writes (s : State) (c : Chan) (o : StepOutcome) (byEnd : Bool) (holdAt : Option Int)
    (w : Option StepIx) :
    ∃ l : LoadRec, s.chainClosed c o byEnd holdAt w =
      { s with
        fse := { s.fse with
          steps := s.walked c byEnd w
          channels := s.fse.channels.set c ((s.fse.channels[c]).closed o byEnd holdAt) }
        hlu := { s.hlu with loads := s.hlu.loads.set (ovenLoad c) l } } ∧
      l.Takes ((s.fse.channels[c]).closed o byEnd holdAt) s.hlu.loads[ovenLoad c] := by
  obtain ⟨l, hset, hl⟩ := State.handOven_eq c ({ s with fse := { s.fse with
      steps := s.walked c byEnd w
      channels := s.fse.channels.set c ((s.fse.channels[c]).closed o byEnd holdAt) } } : State)
  rw [show ({ s with fse := { s.fse with
      steps := s.walked c byEnd w
      channels := s.fse.channels.set c ((s.fse.channels[c]).closed o byEnd holdAt) } } : State).fse.channels[c] =
        (s.fse.channels[c]).closed o byEnd holdAt from get_set_same ..] at hl
  exact ⟨l, hset, hl⟩

/-- The end of a chain in the engine's records and the heat loops, whatever the channel held: the store as the walk leaves it;
the channel closed, with nothing held; its ending kept; its oven load told. -/
theorem Ev.endChain_engine (c : Chan) (o : StepOutcome) (byEnd : Bool) (holdAt : Option Int) (w : Option StepIx) (e : Ev) :
    let ch := e.s.fse.channels[c]
    let t := e.endChain c o byEnd holdAt w
    ∃ (owner : Option Station) (stacked last : Option Ending) (l : LoadRec),
      t.s.fse = { e.s.fse with
        steps := e.s.walked c byEnd w
        channels := e.s.fse.channels.set c { ch.closed o byEnd holdAt with
          reservation := none, page := none, owner := owner, stacked := stacked, lastEnding := last }
        entryWaiters := e.s.fse.entryWaiters.filter (fun d => decide (d ≠ c))
        placeWaiters := e.s.fse.placeWaiters.filter (fun d => decide (d ≠ c)) } ∧
      (∀ (x : Station) (i : StepIx), ch.owner = some x → ch.current = some i → ∃ n : Ending, last = some n ∧
        n.lastStep = i ∧ n.outcome = o ∧ n.entered = (ch.closed o byEnd holdAt).state ∧ n.owedTo = x) ∧
      t.s.hlu = { e.s.hlu with loads := e.s.hlu.loads.set (ovenLoad c) l } ∧
      l.Takes (ch.closed o byEnd holdAt) e.s.hlu.loads[ovenLoad c] ∧
      t.s.fm = e.s.fm ∧
      (∀ (d : Chan) (j : Option StepIx), Report.moveOn d j ∈ t.work → Report.moveOn d j ∈ e.work) := by
  intro ch t
  obtain ⟨l, hclosed, hl⟩ := State.chainClosed_writes e.s c o byEnd holdAt w
  have haside := Ev.giveBack_aside c (e.on fun s => s.chainClosed c o byEnd holdAt w)
  have hfse : (e.chainEnd c o byEnd holdAt w).s.fse = { e.s.fse with
        steps := e.s.walked c byEnd w
        channels := e.s.fse.channels.set c { ch.closed o byEnd holdAt with reservation := none, page := none }
        entryWaiters := e.s.fse.entryWaiters.filter (fun d => decide (d ≠ c))
        placeWaiters := e.s.fse.placeWaiters.filter (fun d => decide (d ≠ c)) } := by
    refine haside.fse.trans ?_
    rw [Ev.on_s, State.onFse_fse, Ev.on_s, hclosed]
    simp only [Fse.gaveBack, get_set_same, set_set_same]
    rfl
  have hhlu : (e.chainEnd c o byEnd holdAt w).s.hlu = { e.s.hlu with loads := e.s.hlu.loads.set (ovenLoad c) l } := by
    refine haside.hlu.trans ?_
    rw [Ev.on_s, State.onFse_hlu, Ev.on_s, hclosed]
  have hfm : (e.chainEnd c o byEnd holdAt w).s.fm = e.s.fm := by
    refine haside.fm.trans ?_
    rw [Ev.on_s, State.onFse_fm, Ev.on_s, hclosed]
  obtain ⟨st, v, hch⟩ := ChanRec.closed_eq ch o byEnd holdAt
  cases hcur : ch.current with
  | none =>
    have ht : t = e.chainEnd c o byEnd holdAt w := Ev.endChain_of_none hcur ..
    rw [ht]
    refine ⟨ch.owner, ch.stacked, ch.lastEnding, l, ?_, fun _ i _ h => (by cases h), hhlu, hl, hfm, haside.moves⟩
    rw [hfse, hch]
  | some i =>
    have ht : t = (e.chainEnd c o byEnd holdAt w).on (State.postEnding c i o) := Ev.endChain_of_some hcur ..
    have hget : (e.chainEnd c o byEnd holdAt w).s.fse.channels[c] =
        { ch.closed o byEnd holdAt with reservation := none, page := none } := by rw [hfse]; exact get_set_same ..
    obtain ⟨p, owner, stacked, last, hpost, -⟩ := State.postEnding_writes c i o (e.chainEnd c o byEnd holdAt w).s
    rw [hget] at hpost
    rw [ht, Ev.on_s, hpost]
    refine ⟨owner, stacked, last, l, ?_, fun x k hx hk => ?_, hhlu, hl, hfm, haside.moves⟩
    · simp only [State.setChan, hfse, set_set_same]
    · obtain ⟨n, hn, hi, ho, hent, -, howed⟩ := State.postEnding_lastEnding (c := c) (s := (e.chainEnd c o byEnd holdAt w).s)
        (y := x) (by rw [hget, hch]; exact hx) i o
      rw [hpost, State.setChan_get] at hn
      rw [hget] at hent
      cases hk
      exact ⟨n, hn, hi, ho, hent, howed⟩

end Sys2Proof.Machine
end

section
/-! PROOFS. The end of a chain on a channel that holds nothing, and the end of a step (R30, R31, R33 to R36). -/

namespace Sys2Proof.Machine

open Sys2Proof

/-! ### A channel that holds no reservation and no page -/

/-- The state in which the chain of channel `c` has ended with nothing to give back. -/
def State.afterChain (s : State) (c : Chan) (steps : Vector StepRec 512) (ch : ChanRec) (l : LoadRec) (p : Sp) : State :=
  { s with
    fse := { s.fse with
      steps := steps
      channels := s.fse.channels.set c ch
      entryWaiters := s.fse.entryWaiters.filter (fun d => decide (d ≠ c))
      placeWaiters := s.fse.placeWaiters.filter (fun d => decide (d ≠ c)) }
    hlu := { s.hlu with loads := s.hlu.loads.set (ovenLoad c) l }
    sp := p }

/-- The end of a chain on a channel that holds nothing. -/
theorem Ev.endChain_free {c : Chan} {i : StepIx} {e : Ev} (hcur : (e.s.fse.channels[c]).current = some i)
    (hres : (e.s.fse.channels[c]).reservation = none) (hpage : (e.s.fse.channels[c]).page = none) (o : StepOutcome)
    (byEnd : Bool) (holdAt : Option Int) (w : Option StepIx) :
    ∃ (l : LoadRec) (p : Sp) (owner : Option Station) (stacked last : Option Ending),
      e.endChain c o byEnd holdAt w = e.on (fun s => s.afterChain c (s.walked c byEnd w)
        { (e.s.fse.channels[c]).closed o byEnd holdAt with owner := owner, stacked := stacked, lastEnding := last } l p) ∧
      l.Takes ((e.s.fse.channels[c]).closed o byEnd holdAt) e.s.hlu.loads[ovenLoad c] ∧
      Posted e.s [] c i o ((e.s.fse.channels[c]).closed o byEnd holdAt) p owner stacked last := by
  obtain ⟨l, hclosed, hl⟩ := State.chainClosed_writes e.s c o byEnd holdAt w
  obtain ⟨hown, hst, hr, hp⟩ := ChanRec.closed_same e.s.fse.channels[c] o byEnd holdAt
  have hget : (e.s.chainClosed c o byEnd holdAt w).fse.channels[c] = (e.s.fse.channels[c]).closed o byEnd holdAt := by
    rw [hclosed]; exact get_set_same ..
  have hend : e.chainEnd c o byEnd holdAt w = e.on (fun s => s.afterChain c (s.walked c byEnd w)
      ((e.s.fse.channels[c]).closed o byEnd holdAt) l s.sp) := by
    rw [Ev.chainEnd, Ev.giveBack_free (by rw [Ev.on_s, hget, hr, hres]) (by rw [Ev.on_s, hget, hp, hpage])]
    exact congrArg (fun s : State => Ev.mk (s.onFse fun f => (f.leaveEntry c).leavePlace c) e.work e.begun e.again) hclosed
  let u := e.s.afterChain c (e.s.walked c byEnd w) ((e.s.fse.channels[c]).closed o byEnd holdAt) l e.s.sp
  have hu : u.fse.channels[c] = (e.s.fse.channels[c]).closed o byEnd holdAt := get_set_same ..
  obtain ⟨p, owner, stacked, last, hpost, hposted⟩ := State.postEnding_writes c i o u
  rw [hu] at hpost hposted
  have hshape : u.postEnding c i o = e.s.afterChain c (e.s.walked c byEnd w)
      { (e.s.fse.channels[c]).closed o byEnd holdAt with owner := owner, stacked := stacked, lastEnding := last } l p := by
    rw [hpost]
    simp [u, State.afterChain, State.setChan]
  rw [Ev.endChain_of_some hcur, hend]
  exact ⟨l, p, owner, stacked, last, congrArg (fun s => Ev.mk s e.work e.begun e.again) hshape, hl,
    hposted.ports, hposted.kept, hposted.room⟩

/-! ### The end of a step (R30, R31) -/

/-- The record of a step that has ended, returned or kept by RETAIN (R30). -/
def StepRec.ended (r : StepRec) (ch : ChanRec) (o : StepOutcome) (now : Nat) (c : Chan) : StepRec :=
  { r with
    completion := ch.completion r o now c, claim := none
    owner := if r.goesOn o && r.flags.retain then r.owner else .station }

/-- A channel whose step has ended, before anything follows. -/
def ChanRec.rested (ch : ChanRec) : ChanRec := { ch with stepTimer := false, repeated := false, delayedEnd := none }

/-- The STEP DONE notice of a step that ends, with NOTIFY (R30). -/
def State.doneNotices (s : State) (c : Chan) (i : StepIx) (o : StepOutcome) : List Notice :=
  if (s.fse.steps[i]).flags.notify then
    [{ source := .channel, index := c.val, code := .stepDone, p1 := i.val, p2 := o.code
       p3 := (s.fse.channels[c]).elapsed, time := s.clock }]
  else []

/-- A channel notice is a matter of its owner's queue. -/
theorem State.chanNotice_writes (c : Chan) (code : NoticeCode) (p1 p2 p3 : Nat) (s : State) :
    ∃ p : Sp, s.chanNotice c code p1 p2 p3 = { s with sp := p } ∧ p.ports = s.sp.ports ∧
      ∀ y : Station, (s.fse.channels[c]).owner = some y →
        ((s.sp.queues[y]).notices.length < 16 → p.queues = s.sp.queues.set y { s.sp.queues[y] with
          notices := (s.sp.queues[y]).notices ++ [s.notice .channel c.val code p1 p2 p3] }) ∧
        (16 ≤ (s.sp.queues[y]).notices.length →
          p.queues = s.sp.queues.set y { s.sp.queues[y] with overflow := true }) := by
  unfold State.chanNotice
  cases h : (s.fse.channels[c]).owner with
  | none => exact ⟨s.sp, rfl, rfl, fun y hy => by cases hy⟩
  | some x =>
    rcases s.queue_room_or_full x with hq | hq
    · refine ⟨_, State.postNotice_room hq _, rfl, fun y hy => ?_⟩
      cases hy
      exact ⟨fun _ => rfl, fun _ => by omega⟩
    · refine ⟨_, State.postNotice_full hq _, rfl, fun y hy => ?_⟩
      cases hy
      exact ⟨fun _ => by omega, fun _ => rfl⟩

/-- What the end of a step writes before the chain goes on or ends (R30). -/
theorem State.closeStep_writes (c : Chan) (i : StepIx) (o : StepOutcome) (s : State) :
    ∃ p : Sp, s.closeStep c i o =
        { (s.setStep i ((s.fse.steps[i]).ended s.fse.channels[c] o s.clock c)).setChan c (s.fse.channels[c]).rested with
          sp := p } ∧
      p.ports = s.sp.ports ∧ ((s.fse.steps[i]).flags.notify = false → p = s.sp) ∧
      ∀ y : Station, (s.fse.channels[c]).owner = some y →
        ((s.sp.queues[y]).notices.length < 16 → p.queues = s.sp.queues.set y { s.sp.queues[y] with
          notices := (s.sp.queues[y]).notices ++ s.doneNotices c i o }) ∧
        (16 ≤ (s.sp.queues[y]).notices.length → (p.queues[y]).notices = (s.sp.queues[y]).notices ∧
          ((s.sp.queues[y]).overflow = true → (p.queues[y]).overflow = true)) := by
  let u := (s.setStep i ((s.fse.steps[i]).ended s.fse.channels[c] o s.clock c)).setChan c (s.fse.channels[c]).rested
  have hu : u.fse.channels[c] = (s.fse.channels[c]).rested := State.setChan_get ..
  have hclose : s.closeStep c i o =
      if (s.fse.steps[i]).flags.notify then u.chanNotice c .stepDone i.val o.code (s.fse.channels[c]).elapsed else u := rfl
  have hdone : s.doneNotices c i o = if (s.fse.steps[i]).flags.notify then
      [u.notice .channel c.val .stepDone i.val o.code (s.fse.channels[c]).elapsed] else [] := rfl
  rw [hclose, hdone]
  cases (s.fse.steps[i]).flags.notify with
  | false =>
    refine ⟨s.sp, rfl, rfl, fun _ => rfl, fun y _ => ⟨fun _ => ?_, fun _ => ⟨rfl, id⟩⟩⟩
    rw [if_neg Bool.false_ne_true, List.append_nil]
    exact (set_get_same _ _).symm
  | true =>
    obtain ⟨p, hp, hports, hq⟩ := State.chanNotice_writes c .stepDone i.val o.code (s.fse.channels[c]).elapsed u
    rw [hu] at hq
    refine ⟨p, hp, hports, fun h => (by cases h), fun y hy => ⟨fun hroom => (hq y hy).1 hroom, fun hfull => ?_⟩⟩
    rw [(hq y hy).2 hfull, get_set_same]
    exact ⟨rfl, fun _ => rfl⟩

theorem State.running_eq {s : State} {c : Chan} {i : StepIx} (hrun : (s.fse.channels[c]).state = .run)
    (hcur : (s.fse.channels[c]).current = some i) : s.running c = some (i, s.fse.steps[i]) := by
  unfold State.running
  simp only [hrun, hcur, if_true]
  rfl

theorem State.running_none {s : State} {c : Chan}
    (h : (s.fse.channels[c]).state ≠ .run ∨ (s.fse.channels[c]).current = none) : s.running c = none := by
  unfold State.running
  rcases h with h | h
  · simp only [h, if_false]
  · simp only [h, Option.map_none, ite_self]

/-- A step that lets its chain go on, without SKIP, hands its channel the move to PREFETCHED NEXT (R29, R32). -/
theorem Ev.endStep_onward {c : Chan} {i : StepIx} {o : StepOutcome} {e : Ev}
    (hrun : (e.s.fse.channels[c]).state = .run) (hcur : (e.s.fse.channels[c]).current = some i)
    (hgo : (e.s.fse.steps[i]).goesOn o = true) (hskip : ¬ ((e.s.fse.steps[i]).flags.skip = true ∧ o = .early)) :
    e.endStep c o = (e.on (State.closeStep c i o)).handFirst (.moveOn c (e.s.fse.channels[c]).prefetched) := by
  have hif : ¬ ((e.s.fse.steps[i]).flags.skip && decide (o = .early)) = true := by
    rw [Bool.and_eq_true, decide_eq_true_eq]; exact hskip
  unfold Ev.endStep
  simp only [State.running_eq hrun hcur, hgo, hif, if_true]
  rfl

/-- An EARLY step with SKIP applies it to PREFETCHED NEXT (R31). -/
theorem Ev.endStep_skip {c : Chan} {i : StepIx} {e : Ev}
    (hrun : (e.s.fse.channels[c]).state = .run) (hcur : (e.s.fse.channels[c]).current = some i)
    (hgo : (e.s.fse.steps[i]).goesOn .early = true) (hskip : (e.s.fse.steps[i]).flags.skip = true) :
    e.endStep c .early = (e.on (State.closeStep c i .early)).skipStep c (e.s.fse.channels[c]).prefetched := by
  unfold Ev.endStep
  simp only [State.running_eq hrun hcur, hgo, hskip, if_true, decide_true, Bool.and_self]

/-- Whether an end of a step is that of an END record, which ends its chain without a release walk (R28, R33). -/
def StepRec.endsByEnd (r : StepRec) (o : StepOutcome) : Bool := decide (r.kind = .finish ∧ o = .normal)

/-- Any other end of a step ends its chain (R29). -/
theorem Ev.endStep_ends {c : Chan} {i : StepIx} {o : StepOutcome} {e : Ev}
    (hrun : (e.s.fse.channels[c]).state = .run) (hcur : (e.s.fse.channels[c]).current = some i)
    (hgo : (e.s.fse.steps[i]).goesOn o = false) :
    e.endStep c o = (e.on (State.closeStep c i o)).endChain c o ((e.s.fse.steps[i]).endsByEnd o)
      (e.s.fse.steps[i]).holdSetpoint (e.s.fse.channels[c]).prefetched := by
  unfold Ev.endStep
  simp only [State.running_eq hrun hcur, hgo]
  rfl

/-! ### The end of a step that ends its chain, on a channel that holds nothing -/

theorem ChanRec.rested_closed (ch : ChanRec) (o : StepOutcome) (byEnd : Bool) (holdAt : Option Int) :
    ch.rested.closed o byEnd holdAt = ch.closed o byEnd holdAt := by
  unfold ChanRec.closed ChanRec.entering
  split
  · split <;> rfl
  · split
    · rfl
    · split <;> rfl

theorem State.walked_congr (c : Chan) (byEnd : Bool) (w : Option StepIx) {s t : State}
    (hsteps : t.fse.steps = s.fse.steps) (hclock : t.clock = s.clock) : t.walked c byEnd w = s.walked c byEnd w := by
  unfold State.walked
  rw [hsteps, State.releaseWalk_congr c 513 w hsteps hclock]

/-- What the end of the step wrote of the channel and the ports is written over by the end of the chain. -/
theorem State.afterChain_of_closed (s : State) (c : Chan) (i : StepIx) (r : StepRec) (ch ch' : ChanRec) (q p : Sp)
    (steps : Vector StepRec 512) (l : LoadRec) :
    ({ (s.setStep i r).setChan c ch with sp := q } : State).afterChain c steps ch' l p = s.afterChain c steps ch' l p := by
  simp [State.afterChain]

/-- A chain that ends with its step: the record returned, the walk made, the channel closed, its oven load told, the ending
posted after STEP DONE. Nothing else of the event changes. -/
theorem Ev.endStep_ends_free {c : Chan} {i : StepIx} {o : StepOutcome} {e : Ev}
    (hrun : (e.s.fse.channels[c]).state = .run) (hcur : (e.s.fse.channels[c]).current = some i)
    (hgo : (e.s.fse.steps[i]).goesOn o = false) (hres : (e.s.fse.channels[c]).reservation = none)
    (hpage : (e.s.fse.channels[c]).page = none) :
    let ch := e.s.fse.channels[c]
    let r := e.s.fse.steps[i]
    let closed := ch.closed o (r.endsByEnd o) r.holdSetpoint
    ∃ (l : LoadRec) (p : Sp) (owner : Option Station) (stacked last : Option Ending),
      e.endStep c o = e.on (fun s => s.afterChain c
        ((s.setStep i (r.ended ch o s.clock c)).walked c (r.endsByEnd o) ch.prefetched)
        { closed with owner := owner, stacked := stacked, lastEnding := last } l p) ∧
      l.Takes closed e.s.hlu.loads[ovenLoad c] ∧ Posted e.s (e.s.doneNotices c i o) c i o closed p owner stacked last := by
  intro ch r closed
  obtain ⟨q, hclose, hqports, -, hq⟩ := State.closeStep_writes c i o e.s
  let u : State := { (e.s.setStep i (r.ended ch o e.s.clock c)).setChan c ch.rested with sp := q }
  have hu : u.fse.channels[c] = ch.rested := State.setChan_get ..
  obtain ⟨l, p, owner, stacked, last, hend, hl, hposted⟩ := Ev.endChain_free (c := c) (i := i) (e := e.on fun _ => u)
    (by rw [Ev.on_s, hu]; exact hcur) (by rw [Ev.on_s, hu]; exact hres) (by rw [Ev.on_s, hu]; exact hpage) o
    (r.endsByEnd o) r.holdSetpoint ch.prefetched
  simp only [Ev.on_s] at hend hl hposted
  rw [hu, ChanRec.rested_closed] at hend hl hposted
  refine ⟨l, p, owner, stacked, last, ?_, hl, hposted.ports.trans hqports, hposted.kept, fun y hy hroom => ?_⟩
  · have hstep : e.endStep c o = (e.on fun _ => u).endChain c o (r.endsByEnd o) r.holdSetpoint ch.prefetched := by
      rw [Ev.endStep_ends hrun hcur hgo]
      exact congrArg (fun s : State => (Ev.mk s e.work e.begun e.again).endChain c o (r.endsByEnd o) r.holdSetpoint
        ch.prefetched) hclose
    refine (hstep.trans hend).trans (congrArg (fun s : State => Ev.mk s e.work e.begun e.again) ?_)
    have hw : u.walked c (r.endsByEnd o) ch.prefetched =
        (e.s.setStep i (r.ended ch o e.s.clock c)).walked c (r.endsByEnd o) ch.prefetched := State.walked_congr _ _ _ rfl rfl
    exact (congrArg (fun steps => u.afterChain c steps _ l p) hw).trans (State.afterChain_of_closed ..)
  · have hy' : ch.owner = some y := (ChanRec.closed_same ch o (r.endsByEnd o) r.holdSetpoint).1 ▸ hy
    have hshown := (hq y hy').1 (by omega)
    obtain ⟨hqueues, howner, hstacked, hlast⟩ := hposted.room y hy (by
      rw [show u.sp.queues = _ from hshown, get_set_same, List.length_append]
      simpa using hroom)
    refine ⟨?_, howner, hstacked, hlast⟩
    rw [hqueues, show u.sp.queues = _ from hshown, set_set_same, get_set_same, List.append_nil]
    rfl

end Sys2Proof.Machine
end

section
/-! PROOFS. HALT and RELEASE HOLD (R14, R15). -/

namespace Sys2Proof.Machine

open Sys2Proof

/-! ### What a change at one channel leaves alone -/

theorem State.KeepsBeside.trans {s t u : State} {c : Chan} (h : s.KeepsBeside t c) (k : t.KeepsBeside u c) :
    s.KeepsBeside u c := by
  obtain ⟨h1, h2, h3, h4, h5, h6, h7, h8, h9, h10, h11, h12⟩ := h
  obtain ⟨k1, k2, k3, k4, k5, k6, k7, k8, k9, k10, k11, k12⟩ := k
  exact ⟨fun d hd => (k1 d hd).trans (h1 d hd), fun l hl => (k2 l hl).trans (h2 l hl), k3.trans h3, k4.trans h4, k5.trans h5,
    k6.trans h6, k7.trans h7, k8.trans h8, k9.trans h9, k10.trans h10, k11.trans h11, k12.trans h12⟩

theorem State.setStep_beside (i : StepIx) (r : StepRec) (s : State) (c : Chan) : s.KeepsBeside (s.setStep i r) c :=
  ⟨fun _ _ => rfl, fun _ _ => rfl, rfl, rfl, rfl, rfl, rfl, rfl, rfl, rfl, rfl, rfl⟩

theorem State.setChan_beside (c : Chan) (r : ChanRec) (s : State) : s.KeepsBeside (s.setChan c r) c :=
  ⟨fun _ hd => State.setChan_get_ne hd .., fun _ _ => rfl, rfl, rfl, rfl, rfl, rfl, rfl, rfl, rfl, rfl, rfl⟩

theorem State.setLoad_beside (c : Chan) (r : LoadRec) (s : State) : s.KeepsBeside (s.setLoad (ovenLoad c) r) c :=
  ⟨fun _ _ => rfl, fun _ hl => State.setLoad_get_ne hl .., rfl, rfl, rfl, rfl, rfl, rfl, rfl, rfl, rfl, rfl⟩

theorem State.setSp_beside (c : Chan) (p : Sp) (s : State) : s.KeepsBeside { s with sp := p } c :=
  ⟨fun _ _ => rfl, fun _ _ => rfl, rfl, rfl, rfl, rfl, rfl, rfl, rfl, rfl, rfl, rfl⟩

theorem State.setAnswer_beside (c : Chan) (x : Station) (a : Answer) (s : State) : s.KeepsBeside (s.setAnswer x a) c :=
  ⟨fun _ _ => rfl, fun _ _ => rfl, rfl, rfl, rfl, rfl, rfl, rfl, rfl, rfl, rfl, rfl⟩

theorem State.afterChain_beside (s : State) (c : Chan) (steps : Vector StepRec 512) (ch : ChanRec) (l : LoadRec) (p : Sp) :
    s.KeepsBeside (s.afterChain c steps ch l p) c :=
  ⟨fun _ hd => get_set_ne _ hd _, fun _ hl => get_set_ne _ hl _, rfl, rfl, rfl, rfl, rfl, rfl, rfl, rfl, rfl, rfl⟩

theorem State.afterChain_channel (s : State) (c : Chan) (steps : Vector StepRec 512) (ch : ChanRec) (l : LoadRec) (p : Sp) :
    (s.afterChain c steps ch l p).fse.channels[c] = ch := get_set_same ..

theorem State.afterChain_load (s : State) (c : Chan) (steps : Vector StepRec 512) (ch : ChanRec) (l : LoadRec) (p : Sp) :
    (s.afterChain c steps ch l p).hlu.loads[ovenLoad c] = l := get_set_same ..

/-! ### HALT and RELEASE HOLD -/

theorem exec_halt (x : Station) (chan : Byte) (s : State) :
    exec (.halt x chan) s = concluded x 0x13 (cmdHalt chan (Ev.start s)) := rfl

theorem exec_releaseHold (x : Station) (chan : Byte) (s : State) :
    exec (.releaseHold x chan) s = concluded x 0x14 (cmdReleaseHold chan (Ev.start s)) := rfl

/-! HALT by the state of its channel (R14). -/

theorem cmdHalt_run {chan : Byte} {c : Chan} {e : Ev} (hc : chan.toNat = c.val)
    (hs : (e.s.fse.channels[c]).state = .run) : cmdHalt chan e = (e.endStep c .halted, okay []) := by
  rw [cmdHalt, withIndex_some c hc]
  simp only [hs]

theorem cmdHalt_hold {chan : Byte} {c : Chan} {e : Ev} (hc : chan.toNat = c.val)
    (hs : (e.s.fse.channels[c]).state = .hold) : cmdHalt chan e = (e.on (State.toIdle c), okay []) := by
  rw [cmdHalt, withIndex_some c hc]
  simp only [hs]

theorem cmdHalt_idle {chan : Byte} {c : Chan} {e : Ev} (hc : chan.toNat = c.val)
    (hs : (e.s.fse.channels[c]).state = .idle) : cmdHalt chan e = (e, okay []) := by
  rw [cmdHalt, withIndex_some c hc]
  simp only [hs]

theorem cmdHalt_stopped {chan : Byte} {c : Chan} {e : Ev} (hc : chan.toNat = c.val)
    (hs : (e.s.fse.channels[c]).state = .stopped) : cmdHalt chan e = (e, refuse .unavailable) := by
  rw [cmdHalt, withIndex_some c hc]
  simp only [hs]

/-! RELEASE HOLD by the state of its channel (R15). -/

theorem cmdReleaseHold_hold {chan : Byte} {c : Chan} {e : Ev} (hc : chan.toNat = c.val)
    (hs : (e.s.fse.channels[c]).state = .hold) : cmdReleaseHold chan e = (e.on (State.toIdle c), okay []) := by
  rw [cmdReleaseHold, withIndex_some c hc]
  simp only [hs]

theorem cmdReleaseHold_idle {chan : Byte} {c : Chan} {e : Ev} (hc : chan.toNat = c.val)
    (hs : (e.s.fse.channels[c]).state = .idle) : cmdReleaseHold chan e = (e, okay []) := by
  rw [cmdReleaseHold, withIndex_some c hc]
  simp only [hs]

theorem cmdReleaseHold_run {chan : Byte} {c : Chan} {e : Ev} (hc : chan.toNat = c.val)
    (hs : (e.s.fse.channels[c]).state = .run) : cmdReleaseHold chan e = (e, refuse .busy) := by
  rw [cmdReleaseHold, withIndex_some c hc]
  simp only [hs]

theorem cmdReleaseHold_stopped {chan : Byte} {c : Chan} {e : Ev} (hc : chan.toNat = c.val)
    (hs : (e.s.fse.channels[c]).state = .stopped) : cmdReleaseHold chan e = (e, refuse .unavailable) := by
  rw [cmdReleaseHold, withIndex_some c hc]
  simp only [hs]

theorem goesOn_halted (r : StepRec) : r.goesOn .halted = false := by
  unfold StepRec.goesOn; split <;> rfl

/-- A command that puts its channel to IDLE and does nothing else. -/
theorem concluded_toIdle (x : Station) (code : Byte) (c : Chan) (s : State) (r : Response) :
    concluded x code ((Ev.start s).on (State.toIdle c), r) = .next
      (((s.setChan c { s.fse.channels[c] with
          state := .idle
          owner := if (s.fse.channels[c]).stacked.isSome then (s.fse.channels[c]).owner else none }).handSetpoint (ovenLoad c)
        (s.hlu.loads[ovenLoad c]).setpoint false).setAnswer x ⟨code, r⟩) := by
  rw [concluded_quiet x code _ r rfl, Ev.on_s, Ev.start_s, State.toIdle_eq]

/-- The chain's end on HALT (R33): IDLE, with the HOLD SETPOINT as it was. -/
theorem ChanRec.closed_halted (ch : ChanRec) (holdAt : Option Int) :
    ch.closed .halted false holdAt = { ch with
      state := .idle, current := none, prefetched := none, stepTimer := false, repeated := false, delayedEnd := none } := rfl

/-- A STEP DONE notice, where there is one, is one. -/
theorem State.doneNotices_length (s : State) (c : Chan) (i : StepIx) (o : StepOutcome) :
    (s.doneNotices c i o).length ≤ 1 := by
  unfold State.doneNotices
  split
  · exact Nat.le_refl _
  · exact Nat.zero_le _

theorem StepRec.endsByEnd_of_ne {r : StepRec} {o : StepOutcome} (h : o ≠ .normal) : r.endsByEnd o = false :=
  decide_eq_false fun hr => h hr.2

theorem StepRec.ended_of_ends {r : StepRec} {o : StepOutcome} (h : r.goesOn o = false) (ch : ChanRec) (now : Nat) (c : Chan) :
    r.ended ch o now c = { r with completion := ch.completion r o now c, claim := none, owner := .station } := by
  unfold StepRec.ended
  rw [h]
  rfl

/-- Settles O7. -/
theorem haltAndReleaseHoldRules : Obligations.HaltAndReleaseHoldRules := by
  refine ⟨fun x chan s => ⟨fun h => ?_, fun c hc => ⟨fun hs => ?_, fun hs => ?_, fun hs => ?_⟩⟩,
    fun x y chan s c i hc hrun hcur hown hres hpage hroom => ?_,
    fun x chan s => ⟨fun h => ?_, fun c hc => ⟨fun hs => ?_, fun hs => ?_, fun hs => ?_, fun hs => ?_⟩⟩⟩
  · rw [exec_halt, cmdHalt, withIndex_none (by omega)]
    exact concluded_start ..
  · rw [exec_halt, cmdHalt_hold hc (e := Ev.start s) hs]
    exact concluded_toIdle ..
  · rw [exec_halt, cmdHalt_idle hc (e := Ev.start s) hs]
    exact concluded_start ..
  · rw [exec_halt, cmdHalt_stopped hc (e := Ev.start s) hs]
    exact concluded_start ..
  · have hgo := goesOn_halted s.fse.steps[i]
    obtain ⟨l, p, owner, stacked, last, hend, ⟨-, hact, -⟩, hposted⟩ :=
      Ev.endStep_ends_free (o := .halted) (e := Ev.start s) hrun hcur hgo hres hpage
    have hbyEnd : (s.fse.steps[i]).endsByEnd .halted = false := StepRec.endsByEnd_of_ne (by decide)
    simp only [Ev.start_s] at hend hact hposted
    rw [hbyEnd, ChanRec.closed_halted] at hend hact hposted
    obtain ⟨hqueues, howner, -, hlast⟩ := hposted.room y hown (by
      have := State.doneNotices_length s c i .halted
      omega)
    refine ⟨_, by rw [exec_halt, cmdHalt_run hc (e := Ev.start s) hrun, hend]; exact concluded_quiet x 0x13 _ _ rfl,
      State.setAnswer_get .., ?_⟩
    obtain ⟨hchan, hload, hprobes, -, hpba, -, -, hdlu, hfm, hclock, hpins, hpending⟩ := State.afterChain_beside s c
      ((s.setStep i ((s.fse.steps[i]).ended s.fse.channels[c] .halted s.clock c)).walked c false (s.fse.channels[c]).prefetched)
      { s.fse.channels[c] with
        state := .idle, owner := owner, current := none, prefetched := none, stacked := stacked, lastEnding := last
        stepTimer := false, repeated := false, delayedEnd := none } l p
    simp only [Ev.on_s, Ev.start_s, State.setAnswer_fse, State.setAnswer_hlu, State.setAnswer_sp_queues,
      State.afterChain_channel, State.afterChain_load]
    refine ⟨trivial, trivial, trivial, howner, trivial, hlast, ?_, ?_, hact, hchan, hload, fun z hz => ?_, hprobes, hclock, hpba, rfl, hdlu,
      rfl, hfm, hpins, hpending⟩
    · rw [StepRec.ended_of_ends hgo]; rfl
    · show (p.queues[y]).notices.getLast? = _
      rw [hqueues, get_set_same, List.getLast?_concat]
      rfl
    · show p.queues[z] = _
      rw [hqueues, get_set_ne _ hz]
  · rw [exec_releaseHold, cmdReleaseHold, withIndex_none (by omega)]
    exact concluded_start ..
  · rw [exec_releaseHold, cmdReleaseHold_hold hc (e := Ev.start s) hs]
    exact concluded_toIdle ..
  · rw [exec_releaseHold, cmdReleaseHold_idle hc (e := Ev.start s) hs]
    exact concluded_start ..
  · rw [exec_releaseHold, cmdReleaseHold_run hc (e := Ev.start s) hs]
    exact concluded_start ..
  · rw [exec_releaseHold, cmdReleaseHold_stopped hc (e := Ev.start s) hs]
    exact concluded_start ..

end Sys2Proof.Machine
end

section
/-! PROOFS. START, and the begin of a record (R13, R19). -/

namespace Sys2Proof.Machine

open Sys2Proof

/-! ### Readings (R21 to R23) -/

/-- The readings in force are those of the probes. -/
theorem State.cavityNow_congr {s t : State} (h : t.hlu.probes = s.hlu.probes) (c : Chan) : t.cavityNow c = s.cavityNow c := by
  unfold State.cavityNow; rw [h]

theorem State.coreNow_congr {s t : State} (h : t.hlu.probes = s.hlu.probes) (c : Chan) : t.coreNow c = s.coreNow c := by
  unfold State.coreNow; rw [h]

theorem State.readingEnd_congr {s t : State} (h : t.hlu.probes = s.hlu.probes) (c : Chan) (r : StepRec) :
    t.readingEnd c r = s.readingEnd c r := by
  unfold State.readingEnd
  rw [State.cavityNow_congr h, State.coreNow_congr h]

/-! ### The begin of a record (R19) -/

/-- The kinds that run on a step timer are those that carry SETPOINT (R1, R19). -/
theorem StepKind.timed_eq (k : StepKind) : (decide (k ≠ .note) && decide (k ≠ .finish)) = k.carriesSetpoint := by
  cases k <;> rfl

/-- The channel record with record `i` newly in hand. -/
def ChanRec.begun (ch : ChanRec) (i : StepIx) (r : StepRec) (cavity : Option Int) : ChanRec :=
  { ch with
    current := some i
    elapsed := 0
    counted := 0
    stepTimer := decide (r.kind ≠ .note) && decide (r.kind ≠ .finish)
    extremes := cavity.map (fun v => (v, v))
    prefetched := r.next i
    inForce := if r.kind.carriesSetpoint then r.setpoint else ch.inForce
    repeated := false
    delayedEnd := none }

theorem ChanRec.begun_eq {r : StepRec} (hk : r.kind.carriesSetpoint = true) (ch : ChanRec) (i : StepIx) (v : Option Int) :
    ch.begun i r v = { ch with
      current := some i, prefetched := r.next i, elapsed := 0, counted := 0, inForce := r.setpoint, stepTimer := true
      extremes := v.map (fun v => (v, v)), repeated := false, delayedEnd := none } := by
  simp only [ChanRec.begun, StepKind.timed_eq, hk, if_true]

/-- The state in which channel `c` has record `i` newly in hand: the record claimed, the channel's state handed to its oven
load. -/
def State.opened (s : State) (c : Chan) (i : StepIx) : State :=
  ((s.setStep i { s.fse.steps[i] with claim := some c }).setChan c
    ((s.fse.channels[c]).begun i s.fse.steps[i] (s.cavityNow c))).handOven c

/-- The event in which channel `c` has record `i` newly in hand. -/
def Ev.opened (e : Ev) (c : Chan) (i : StepIx) : Ev :=
  { s := e.s.opened c i, work := e.work, begun := (c, i) :: e.begun, again := e.again.filter (fun d => decide (d ≠ c)) }

@[simp] theorem Ev.opened_s (e : Ev) (c : Chan) (i : StepIx) : (e.opened c i).s = e.s.opened c i := rfl
/-- A record that the channel has not begun within the event before. -/
theorem Ev.beginStep_first {c : Chan} {i : StepIx} {e : Ev} (h : (c, i) ∉ e.begun) :
    e.beginStep c i = (e.opened c i).beginKind c i e.s.fse.steps[i] false := by
  have hb : e.begun.contains (c, i) = false := by
    rw [← Bool.not_eq_true, List.contains_iff_mem]; exact h
  unfold Ev.beginStep
  simp only [hb]
  rfl

/-- What the begin of a record writes. -/
theorem State.opened_writes (s : State) (c : Chan) (i : StepIx) :
    ∃ l : LoadRec, s.opened c i =
      ((s.setStep i { s.fse.steps[i] with claim := some c }).setChan c
        ((s.fse.channels[c]).begun i s.fse.steps[i] (s.cavityNow c))).setLoad (ovenLoad c) l ∧
      l.Takes ((s.fse.channels[c]).begun i s.fse.steps[i] (s.cavityNow c)) s.hlu.loads[ovenLoad c] := by
  obtain ⟨l, hset, hl⟩ := State.handOven_eq c ((s.setStep i { s.fse.steps[i] with claim := some c }).setChan c
    ((s.fse.channels[c]).begun i s.fse.steps[i] (s.cavityNow c)))
  rw [State.setChan_get] at hl
  exact ⟨l, hset, hl⟩

theorem State.opened_channel (s : State) (c : Chan) (i : StepIx) :
    (s.opened c i).fse.channels[c] = (s.fse.channels[c]).begun i s.fse.steps[i] (s.cavityNow c) := by
  obtain ⟨l, h, -⟩ := s.opened_writes c i
  rw [h]
  exact State.setChan_get ..

theorem State.opened_steps (s : State) (c : Chan) (i : StepIx) :
    (s.opened c i).fse.steps = s.fse.steps.set i { s.fse.steps[i] with claim := some c } := by
  obtain ⟨l, h, -⟩ := s.opened_writes c i
  rw [h]
  rfl

/-- The blocks that the begin of a record leaves alone. -/
theorem State.opened_same (s : State) (c : Chan) (i : StepIx) :
    (s.opened c i).sp = s.sp ∧ (s.opened c i).ppu = s.ppu ∧ (s.opened c i).pgu = s.pgu ∧ (s.opened c i).clock = s.clock ∧
      (s.opened c i).hlu.probes = s.hlu.probes ∧ (s.opened c i).fse.entryWaiters = s.fse.entryWaiters ∧
      (s.opened c i).fse.placeWaiters = s.fse.placeWaiters := by
  obtain ⟨l, h, -⟩ := s.opened_writes c i
  rw [h]
  exact ⟨rfl, rfl, rfl, rfl, rfl, rfl, rfl⟩

theorem State.opened_probes (s : State) (c : Chan) (i : StepIx) : (s.opened c i).hlu.probes = s.hlu.probes := by
  obtain ⟨-, -, -, -, hprobes, -, -⟩ := s.opened_same c i
  exact hprobes

theorem State.opened_beside (s : State) (c : Chan) (i : StepIx) : s.KeepsBeside (s.opened c i) c := by
  obtain ⟨l, h, -⟩ := s.opened_writes c i
  rw [h]
  exact ((State.setStep_beside ..).trans (State.setChan_beside ..)).trans (State.setLoad_beside ..)

/-- A channel in RUN that begins a record with SETPOINT runs it, and its oven load heats to it (R10, R19). -/
theorem State.opened_begun {s : State} {c : Chan} {i : StepIx} (hrun : (s.fse.channels[c]).state = .run)
    (hk : (s.fse.steps[i]).kind.carriesSetpoint = true) : s.Begun (s.opened c i) c i := by
  obtain ⟨l, h, hset, hact, -⟩ := s.opened_writes c i
  have hd : ((s.fse.channels[c]).begun i s.fse.steps[i] (s.cavityNow c)).demand (s.hlu.loads[ovenLoad c]).setpoint =
      ((s.fse.steps[i]).setpoint, true) := by
    rw [ChanRec.begun_eq hk]
    simp only [ChanRec.demand, hrun]
  rw [hd] at hset hact
  unfold State.Begun
  rw [State.opened_channel, h, State.setLoad_get]
  rw [ChanRec.begun_eq hk]
  exact ⟨hrun, rfl, rfl, rfl, rfl, rfl, rfl, hset, hact⟩

/-- A record that waits for a reading is begun, and nothing follows within the event (R21 to R23). -/
theorem Ev.beginKind_awaits {c : Chan} {r : StepRec} {e : Ev} (hk : r.kind = .heat ∨ r.kind = .soak ∨ r.kind = .core)
    (hread : e.s.readingEnd c r = none) (i : StepIx) (again : Bool) : e.beginKind c i r again = e := by
  have ht : e.testReading c r = e := by unfold Ev.testReading; simp only [hread]
  unfold Ev.beginKind
  rcases hk with hk | hk | hk <;> simp only [hk, ht]

theorem StepKind.carriesSetpoint_of_reading {k : StepKind} (h : k = .heat ∨ k = .soak ∨ k = .core) :
    k.carriesSetpoint = true := by
  rcases h with rfl | rfl | rfl <;> rfl

/-- A channel moves on to a record that waits for a reading (R32). -/
theorem Ev.moveOn_awaits {c : Chan} {j : StepIx} {e : Ev} (h : e.s.Awaits c j) (hb : (c, j) ∉ e.begun) :
    e.moveOn c (some j) = e.opened c j := by
  obtain ⟨ho, hc, hk, hread⟩ := h
  have hne : ¬ (e.s.fse.steps[j]).owner ≠ .engine := fun hn => hn ho
  have hfree : ¬ (e.s.fse.steps[j]).claim.isSome = true := by rw [hc]; decide
  have hnone : (e.s.opened c j).readingEnd c e.s.fse.steps[j] = none :=
    (State.readingEnd_congr (State.opened_probes ..) ..).trans hread
  unfold Ev.moveOn
  simp only [hne, hfree, if_false]
  rw [Ev.beginStep_first hb]
  exact Ev.beginKind_awaits (e := e.opened c j) hk hnone j false

/-! ### START (R13) -/

theorem exec_start (x : Station) (chan : Byte) (first : BitVec 16) (s : State) :
    exec (.start x chan first) s = concluded x 0x12 (cmdStart x chan first (Ev.start s)) := rfl

/-- The oven's load or probe refuses START (R13). -/
theorem State.ovenUnfit_iff (s : State) (c : Chan) :
    s.ovenUnfit c = true ↔ (s.hlu.loads[ovenLoad c]).rating = 0 ∨ (s.hlu.loads[ovenLoad c]).state ≠ .enabled ∨
      (s.hlu.probes[cavityProbe c]).faulted = true := by
  unfold State.ovenUnfit LoadRec.installed
  simp only [Bool.or_eq_true, decide_eq_true_eq, Bool.not_eq_true', decide_eq_false_iff_not, Nat.not_lt, Nat.le_zero, or_assoc]

/-- The channel in RUN for its issuing station, before the first record is begun (R13). -/
def State.started (s : State) (c : Chan) (x : Station) : State :=
  s.setChan c { s.fse.channels[c] with
    owner := some x, reservation := none, page := none, state := .run
    inForce := if (s.fse.channels[c]).state = .hold then (s.fse.channels[c]).holdSetpoint else 0 }

/-- START by its checks, in the order of its table (R13). -/
theorem cmdStart_checks {chan : Byte} {first : BitVec 16} {c : Chan} {i : StepIx} {s : State} (hc : chan.toNat = c.val)
    (hi : first.toNat = i.val) (hst : (s.fse.channels[c]).stacked = none) (x : Station) :
    cmdStart x chan first (Ev.start s) =
      if (s.fse.channels[c]).state = .run ∨ (s.fse.channels[c]).state = .stopped then (Ev.start s, refuse .busy)
      else if s.ovenUnfit c then (Ev.start s, refuse .unavailable)
      else if (s.fse.steps[i]).owner ≠ .engine ∨ (s.fse.steps[i]).claim.isSome then (Ev.start s, refuse .stepOwned)
      else ((Ev.start (s.started c x)).beginStep c i, ⟨.accepted, []⟩) := by
  rw [cmdStart, withIndex_some c hc, withIndex_some i hi]
  simp only [Ev.start_s, hst]
  rfl

theorem State.not_run_of_ready {st : ChanState} (h : st = .idle ∨ st = .hold) : ¬ (st = .run ∨ st = .stopped) := by
  rcases h with rfl | rfl <;> decide

/-- A START that passes its four checks begins the first record (R13, R19). -/
theorem exec_start_taken {chan : Byte} {first : BitVec 16} {c : Chan} {i : StepIx} {s : State} (hc : chan.toNat = c.val)
    (hi : first.toNat = i.val) (hmay : s.MayStart c i) (x : Station) :
    exec (.start x chan first) s = concluded x 0x12
      (((Ev.start (s.started c x)).opened c i).beginKind c i s.fse.steps[i] false, ⟨.accepted, []⟩) := by
  obtain ⟨hst, hready, hr, hl, hp, ho, hcl⟩ := hmay
  have hfit : ¬ s.ovenUnfit c = true := by
    rw [State.ovenUnfit_iff, hl, hp]
    simp only [ne_eq, not_true_eq_false, Bool.false_eq_true, or_false]
    omega
  have hown : ¬ ((s.fse.steps[i]).owner ≠ .engine ∨ (s.fse.steps[i]).claim.isSome) := by
    rw [ho, hcl]; decide
  rw [exec_start, cmdStart_checks hc hi hst, if_neg (State.not_run_of_ready hready), if_neg hfit, if_neg hown,
    Ev.beginStep_first List.not_mem_nil]
  rfl

/-- What START and the begin of a first record with SETPOINT write (R13, R19). -/
theorem State.started_opened {s : State} {i : StepIx} (hk : (s.fse.steps[i]).kind.carriesSetpoint = true) (c : Chan)
    (x : Station) :
    (s.started c x).opened c i = ((s.setStep i { s.fse.steps[i] with claim := some c }).setChan c
      { s.fse.channels[c] with
        state := .run, owner := some x, current := some i, prefetched := (s.fse.steps[i]).next i, elapsed := 0,
        counted := 0, reservation := none, page := none, inForce := (s.fse.steps[i]).setpoint, stepTimer := true,
        extremes := (s.cavityNow c).map (fun v => (v, v)), repeated := false, delayedEnd := none }).handOven c := by
  have hopen : (s.started c x).opened c i = (((s.started c x).setStep i { s.fse.steps[i] with claim := some c }).setChan c
      (((s.started c x).fse.channels[c]).begun i s.fse.steps[i] (s.cavityNow c))).handOven c := rfl
  rw [hopen, State.started, State.setChan_get, ChanRec.begun_eq hk]
  simp only [State.setChan, State.setStep, set_set_same]

/-- Settles O4. -/
theorem startRule : Obligations.StartRule := by
  refine ⟨fun x chan first s => ⟨fun h => ?_, fun c i hc hi => ⟨fun n hn => ?_, fun hst hs => ?_, fun hst hs hbad => ?_,
    fun hst hs hr hl hp hbad => ?_⟩⟩, fun x chan first s c i hc hi hst hs hr hl hp ho hcl hk hread => ?_⟩
  · rw [exec_start, cmdStart]
    by_cases hchan : 11 < chan.toNat
    · rw [withIndex_none (by omega)]
      exact concluded_start ..
    · rw [withIndex_some ⟨chan.toNat, by omega⟩ rfl, withIndex_none (by omega)]
      exact concluded_start ..
  · rw [exec_start, cmdStart, withIndex_some c hc, withIndex_some i hi]
    simp only [Ev.start_s, hn]
    exact concluded_quiet x 0x12 _ _ rfl
  · rw [exec_start, cmdStart_checks hc hi hst, if_pos hs]
    exact concluded_start ..
  · rw [exec_start, cmdStart_checks hc hi hst, if_neg (State.not_run_of_ready hs), if_pos ((State.ovenUnfit_iff s c).mpr hbad)]
    exact concluded_start ..
  · have hfit : ¬ s.ovenUnfit c = true := by
      rw [State.ovenUnfit_iff, hl, hp]
      simp only [ne_eq, not_true_eq_false, Bool.false_eq_true, or_false]
      omega
    rw [exec_start, cmdStart_checks hc hi hst, if_neg (State.not_run_of_ready hs), if_neg hfit,
      if_pos (hbad.imp id Option.isSome_iff_ne_none.mpr)]
    exact concluded_start ..
  · have hnone : ((s.started c x).opened c i).readingEnd c s.fse.steps[i] = none :=
      (State.readingEnd_congr (State.opened_probes ..) ..).trans hread
    rw [exec_start_taken hc hi ⟨hst, hs, hr, hl, hp, ho, hcl⟩,
      Ev.beginKind_awaits (e := (Ev.start (s.started c x)).opened c i) hk hnone]
    have hopened := State.started_opened (StepKind.carriesSetpoint_of_reading hk) c x
    rw [concluded_quiet x 0x12 _ _ rfl, Ev.opened_s, Ev.start_s, hopened]

end Sys2Proof.Machine
end

section
/-! PROOFS. A chain that opens with END, NOTE, DRAW PLATES or too large a WAIT PLATES (R24, R25, R27, R28, R30, R32 to R36). -/

namespace Sys2Proof.Machine

open Sys2Proof

/-! ### The first record of a chain in hand (R13, R19) -/

/-- In state `u` channel `c` of station `x` has record `i` newly in hand as the first of its chain, the step store and what
stands beside the channel being otherwise as in `s`. -/
structure State.AtFirst (s : State) (x : Station) (c : Chan) (i : StepIx) (u : State) : Prop where
  run : (u.fse.channels[c]).state = .run
  current : (u.fse.channels[c]).current = some i
  next : (u.fse.channels[c]).prefetched = (s.fse.steps[i]).next i
  owner : (u.fse.channels[c]).owner = some x
  elapsed : (u.fse.channels[c]).elapsed = 0
  counted : (u.fse.channels[c]).counted = 0
  extremes : (u.fse.channels[c]).extremes = (s.cavityNow c).map (fun v => (v, v))
  fallback : (u.fse.channels[c]).fallback = (s.fse.channels[c]).fallback
  steps : u.fse.steps = s.fse.steps.set i { s.fse.steps[i] with claim := some c }
  beside : s.KeepsBeside u c

/-- The event in which START has put the first record in hand. -/
def Ev.first (s : State) (x : Station) (c : Chan) (i : StepIx) : Ev := (Ev.start (s.started c x)).opened c i

theorem State.first_channel (s : State) (x : Station) (c : Chan) (i : StepIx) :
    (Ev.first s x c i).s.fse.channels[c] = ({ s.fse.channels[c] with
      owner := some x, reservation := none, page := none, state := .run
      inForce := if (s.fse.channels[c]).state = .hold then (s.fse.channels[c]).holdSetpoint else 0 } : ChanRec).begun i
        s.fse.steps[i] (s.cavityNow c) := by
  refine (State.opened_channel ..).trans ?_
  rw [Ev.start_s, State.started, State.setChan_get]
  rfl

theorem State.first_atFirst (s : State) (x : Station) (c : Chan) (i : StepIx) : s.AtFirst x c i (Ev.first s x c i).s := by
  have hch := State.first_channel s x c i
  refine ⟨?_, ?_, ?_, ?_, ?_, ?_, ?_, ?_, State.opened_steps .., (State.setChan_beside ..).trans (State.opened_beside ..)⟩ <;>
    rw [hch] <;> rfl

/-- At its first record a channel holds nothing. -/
theorem State.first_holds (s : State) (x : Station) (c : Chan) (i : StepIx) :
    ((Ev.first s x c i).s.fse.channels[c]).reservation = none ∧ ((Ev.first s x c i).s.fse.channels[c]).page = none := by
  rw [State.first_channel]
  exact ⟨rfl, rfl⟩

theorem State.first_same (s : State) (x : Station) (c : Chan) (i : StepIx) :
    (Ev.first s x c i).s.sp = s.sp ∧ (Ev.first s x c i).s.ppu = s.ppu ∧ (Ev.first s x c i).s.pgu = s.pgu ∧
      (Ev.first s x c i).s.fse.entryWaiters = s.fse.entryWaiters ∧
      (Ev.first s x c i).s.fse.placeWaiters = s.fse.placeWaiters := by
  obtain ⟨hsp, hppu, hpgu, -, -, hew, hpw⟩ := State.opened_same (s.started c x) c i
  exact ⟨hsp, hppu, hpgu, hew, hpw⟩

/-- A START that passes its four checks runs the kind's own work on the first record (R13, R19). -/
theorem exec_start_first {chan : Byte} {first : BitVec 16} {c : Chan} {i : StepIx} {s : State} (hc : chan.toNat = c.val)
    (hi : first.toNat = i.val) (hmay : s.MayStart c i) (x : Station) :
    exec (.start x chan first) s = concluded x 0x12
      ((Ev.first s x c i).beginKind c i s.fse.steps[i] false, ⟨.accepted, []⟩) := exec_start_taken hc hi hmay x

namespace State.AtFirst

variable {s u : State} {x : Station} {c : Chan} {i : StepIx}

theorem record (h : s.AtFirst x c i u) : u.fse.steps[i] = { s.fse.steps[i] with claim := some c } := by
  rw [h.steps]; exact get_set_same ..

theorem other (h : s.AtFirst x c i u) {j : StepIx} (hj : j ≠ i) : u.fse.steps[j] = s.fse.steps[j] := by
  rw [h.steps]; exact get_set_ne _ hj _

theorem clock (h : s.AtFirst x c i u) : u.clock = s.clock := by
  obtain ⟨-, -, -, -, -, -, -, -, -, hclock, -, -⟩ := h.beside
  exact hclock

theorem probes (h : s.AtFirst x c i u) : u.hlu.probes = s.hlu.probes := by
  obtain ⟨-, -, hprobes, -⟩ := h.beside
  exact hprobes

/-- The record that follows waits for a reading as it did before. -/
theorem awaits (h : s.AtFirst x c i u) {j : StepIx} (hj : j ≠ i) (hw : s.Awaits c j) : u.Awaits c j := by
  unfold State.Awaits
  rw [h.other hj, State.readingEnd_congr h.probes]
  exact hw

/-- The completion record of a record that has run no second (R6, R19). -/
theorem completion (h : s.AtFirst x c i u) (r : StepRec) (o : StepOutcome) :
    (u.fse.channels[c]).completion r o s.clock c = s.finished c o := by
  unfold ChanRec.completion State.finished
  rw [h.elapsed, h.counted, h.extremes, State.cavityNow, ProbeRec.now, ite_self]
  cases (s.hlu.probes[cavityProbe c]).settled <;> rfl

/-- The record as its end leaves it (R30). -/
theorem ended (h : s.AtFirst x c i u) (o : StepOutcome) :
    (u.fse.steps[i]).ended u.fse.channels[c] o u.clock c = { s.fse.steps[i] with
      owner := if (s.fse.steps[i]).goesOn o && (s.fse.steps[i]).flags.retain then (s.fse.steps[i]).owner else .station
      claim := none, completion := s.finished c o } := by
  rw [StepRec.ended, h.clock, h.completion, h.record]
  rfl

/-- The STEP DONE notice of its end (R30). -/
theorem doneNotices (h : s.AtFirst x c i u) (o : StepOutcome) :
    u.doneNotices c i o = if (s.fse.steps[i]).flags.notify then [s.doneNotice c i o] else [] := by
  rw [State.doneNotices, h.elapsed, h.clock, h.record]
  rfl

end State.AtFirst

/-! ### An end of the first record that ends the chain (R33 to R36) -/

/-- What has ended a chain at its first record, the channel closed as `ch` and its oven load now `l`. -/
structure State.EndedFirst (s u : State) (x : Station) (c : Chan) (i : StepIx) (o : StepOutcome) (closed : ChanRec)
    (t : State) : Prop where
  beside : s.KeepsBeside t c
  ppu : t.ppu = u.ppu
  pgu : t.pgu = u.pgu
  ports : t.sp.ports = u.sp.ports
  state : (t.fse.channels[c]).state = closed.state
  current : (t.fse.channels[c]).current = none
  holdSetpoint : (t.fse.channels[c]).holdSetpoint = closed.holdSetpoint
  owner : (t.fse.channels[c]).owner = if closed.state = .idle then none else some x
  lastEnding : (t.fse.channels[c]).lastEnding = some
    { channel := c, lastStep := i, outcome := o, entered := closed.state, endedAt := s.clock, superseded := false, owedTo := x }
  load : (t.hlu.loads[ovenLoad c]).Takes closed u.hlu.loads[ovenLoad c]
  notices : (t.sp.queues[x]).notices = (u.sp.queues[x]).notices ++
    (if (s.fse.steps[i]).flags.notify then [s.doneNotice c i o] else []) ++ [s.endedNotice c i o closed.state]
  steps : t.fse.steps = (s.setStep i { s.fse.steps[i] with
    owner := .station, claim := none, completion := s.finished c o }).walked c ((s.fse.steps[i]).endsByEnd o)
      ((s.fse.steps[i]).next i)

/-- The end of the first record ends the chain of a channel that holds nothing, with room for its notices. -/
theorem Ev.endStep_first_ends {s : State} {x : Station} {c : Chan} {i : StepIx} {e : Ev} (h : s.AtFirst x c i e.s)
    {o : StepOutcome} (hgo : (s.fse.steps[i]).goesOn o = false) (hres : (e.s.fse.channels[c]).reservation = none)
    (hpage : (e.s.fse.channels[c]).page = none) (hroom : (e.s.sp.queues[x]).notices.length < 15) :
    ∃ t, e.endStep c o = e.on (fun _ => t) ∧ s.EndedFirst e.s x c i o
      ((e.s.fse.channels[c]).closed o ((s.fse.steps[i]).endsByEnd o) (s.fse.steps[i]).holdSetpoint) t := by
  have hgo' : (e.s.fse.steps[i]).goesOn o = false := by rw [h.record]; exact hgo
  obtain ⟨l, p, owner, stacked, last, hend, hl, hposted⟩ := Ev.endStep_ends_free h.run h.current hgo' hres hpage
  have hr : e.s.fse.steps[i] = { s.fse.steps[i] with claim := some c } := h.record
  have hends : (e.s.fse.steps[i]).endsByEnd o = (s.fse.steps[i]).endsByEnd o := by rw [hr]; rfl
  have hhold : (e.s.fse.steps[i]).holdSetpoint = (s.fse.steps[i]).holdSetpoint := by rw [hr]
  have hended := h.ended o
  rw [hgo] at hended
  simp only [hends, hhold] at hend hl hposted
  obtain ⟨howner, -, -, -⟩ := ChanRec.closed_same (e.s.fse.channels[c]) o ((s.fse.steps[i]).endsByEnd o)
    (s.fse.steps[i]).holdSetpoint
  have hdone : (e.s.doneNotices c i o).length ≤ 1 := State.doneNotices_length ..
  obtain ⟨hqueues, hown, -, hlast⟩ := hposted.room x (howner.trans h.owner) (by omega)
  refine ⟨_, hend, (h.beside).trans (State.afterChain_beside ..), rfl, rfl, hposted.ports, ?_, ?_, ?_, ?_, ?_, ?_, ?_, ?_⟩
  · rw [State.afterChain_channel]
  · rw [State.afterChain_channel]; rfl
  · rw [State.afterChain_channel]
  · rw [State.afterChain_channel]; exact hown
  · rw [State.afterChain_channel]
    refine hlast.trans ?_
    rw [h.clock]
  · rw [State.afterChain_load]; exact hl
  · show (p.queues[x]).notices = _
    rw [hqueues, get_set_same, h.doneNotices, State.endedNotice, h.clock]
    rfl
  · show State.walked _ _ _ _ = _
    rw [h.next]
    refine State.walked_congr _ _ _ ?_ h.clock
    rw [State.setStep_fse_steps, State.setStep_fse_steps, hended, h.steps, set_set_same]
    rfl

/-! ### An end of a step after which the chain goes on (R30, R32) -/

/-- A chain goes on to a record that waits for a reading: the end of its step is followed, before any report that waits, by
the begin of that record. -/
theorem Ev.endStep_awaits {c : Chan} {i j : StepIx} {o : StepOutcome} {e : Ev}
    (hrun : (e.s.fse.channels[c]).state = .run) (hcur : (e.s.fse.channels[c]).current = some i)
    (hgo : (e.s.fse.steps[i]).goesOn o = true) (ho : o ≠ .early) (hnext : (e.s.fse.channels[c]).prefetched = some j)
    (hji : j ≠ i) (hw : e.s.Awaits c j) (hb : (c, j) ∉ e.begun) (n : Nat) :
    (e.endStep c o).drain (n + 1) = Ev.drain n ((e.on (State.closeStep c i o)).opened c j) := by
  obtain ⟨p, hclose, -⟩ := State.closeStep_writes c i o e.s
  have hw' : (e.s.closeStep c i o).Awaits c j := by
    unfold State.Awaits
    have hstep : (e.s.closeStep c i o).fse.steps[j] = e.s.fse.steps[j] := by rw [hclose]; exact get_set_ne _ hji _
    have hprobes : (e.s.closeStep c i o).hlu.probes = e.s.hlu.probes := by rw [hclose]; rfl
    rw [hstep, State.readingEnd_congr hprobes]
    exact hw
  rw [Ev.endStep_onward hrun hcur hgo fun h => ho h.2, hnext, Ev.drain_cons n rfl]
  exact congrArg (Ev.drain n) (Ev.moveOn_awaits (e := e.on (State.closeStep c i o)) hw' hb)

/-- What has gone on from the first record `i` of a chain to record `j`. -/
structure State.WentOn (s u : State) (x : Station) (c : Chan) (i j : StepIx) (o : StepOutcome) (t : State) : Prop where
  beside : s.KeepsBeside t c
  ppu : t.ppu = u.ppu
  pgu : t.pgu = u.pgu
  ports : t.sp.ports = u.sp.ports
  begun : s.Begun t c j
  owner : (t.fse.channels[c]).owner = some x
  reservation : (t.fse.channels[c]).reservation = (u.fse.channels[c]).reservation
  page : (t.fse.channels[c]).page = (u.fse.channels[c]).page
  steps : t.fse.steps = (s.fse.steps.set i { s.fse.steps[i] with
    owner := if (s.fse.steps[i]).flags.retain then .engine else .station
    claim := none, completion := s.finished c o }).set j { s.fse.steps[j] with claim := some c }
  notices : (u.sp.queues[x]).notices.length < 16 → (t.sp.queues[x]).notices = (u.sp.queues[x]).notices ++
    (if (s.fse.steps[i]).flags.notify then [s.doneNotice c i o] else [])
  full : 16 ≤ (u.sp.queues[x]).notices.length → (t.sp.queues[x]).notices = (u.sp.queues[x]).notices ∧
    ((u.sp.queues[x]).overflow = true → (t.sp.queues[x]).overflow = true)

/-- The end of the first record after which the chain goes on to a record that waits for a reading. -/
theorem Ev.endStep_first_onward {s : State} {x : Station} {c : Chan} {i j : StepIx} {e : Ev} (h : s.AtFirst x c i e.s)
    {o : StepOutcome} (hgo : (s.fse.steps[i]).goesOn o = true) (ho : o ≠ .early)
    (hengine : (s.fse.steps[i]).owner = .engine) (hnext : (s.fse.steps[i]).next i = some j)
    (hji : j ≠ i) (hw : s.Awaits c j) (hb : (c, j) ∉ e.begun) :
    s.WentOn e.s x c i j o ((e.s.closeStep c i o).opened c j) ∧
      ∀ n, (e.endStep c o).drain (n + 1) = Ev.drain n ((e.on (State.closeStep c i o)).opened c j) := by
  have hgo' : (e.s.fse.steps[i]).goesOn o = true := by rw [h.record]; exact hgo
  refine ⟨?_, Ev.endStep_awaits h.run h.current hgo' ho (h.next.trans hnext) hji (h.awaits hji hw) hb⟩
  obtain ⟨p, hclose, hports, -, hq⟩ := State.closeStep_writes c i o e.s
  obtain ⟨hroom, hfull⟩ := hq x h.owner
  rw [h.ended, hgo, hengine, Bool.true_and] at hclose
  rw [hclose]
  let v : State := { (e.s.setStep i { s.fse.steps[i] with
      owner := if (s.fse.steps[i]).flags.retain then .engine else .station
      claim := none, completion := s.finished c o }).setChan c (e.s.fse.channels[c]).rested with sp := p }
  have hv : v.fse.channels[c] = (e.s.fse.channels[c]).rested := State.setChan_get ..
  have hj : v.fse.steps[j] = s.fse.steps[j] := (State.setStep_get_ne hji _ e.s).trans (h.other hji)
  have hch : (v.opened c j).fse.channels[c] = (e.s.fse.channels[c]).rested.begun j s.fse.steps[j] (v.cavityNow c) := by
    rw [State.opened_channel, hv, hj]
  obtain ⟨hsp, hppu, hpgu, -⟩ := State.opened_same v c j
  have hk : (s.fse.steps[j]).kind.carriesSetpoint = true := by
    obtain ⟨-, -, hkind, -⟩ := hw
    exact StepKind.carriesSetpoint_of_reading hkind
  have hbegun : v.Begun (v.opened c j) c j := State.opened_begun (by rw [hv]; exact h.run) (by rw [hj]; exact hk)
  unfold State.Begun at hbegun
  rw [hj] at hbegun
  refine ⟨?_, hppu, hpgu, (congrArg Sp.ports hsp).trans hports, hbegun, ?_, ?_, ?_, ?_, fun hlen => ?_, fun hlen => ?_⟩
  · exact (((h.beside.trans (State.setStep_beside ..)).trans (State.setChan_beside ..)).trans
      (State.setSp_beside ..)).trans (State.opened_beside ..)
  · show ((v.opened c j).fse.channels[c]).owner = _
    rw [hch]; exact h.owner
  · show ((v.opened c j).fse.channels[c]).reservation = _
    rw [hch]; rfl
  · show ((v.opened c j).fse.channels[c]).page = _
    rw [hch]; rfl
  · show (v.opened c j).fse.steps = _
    rw [State.opened_steps, hj]
    show (e.s.fse.steps.set i _).set j _ = _
    rw [h.steps, set_set_same]
  · show ((v.opened c j).sp.queues[x]).notices = _
    rw [hsp, ← h.doneNotices]
    show (p.queues[x]).notices = _
    rw [hroom hlen, get_set_same]
  · show ((v.opened c j).sp.queues[x]).notices = _ ∧ (_ → ((v.opened c j).sp.queues[x]).overflow = true)
    rw [hsp]
    exact hfull hlen

end Sys2Proof.Machine
end

section
/-! PROOFS. START on END, NOTE, DRAW PLATES and too large a WAIT PLATES. -/

namespace Sys2Proof.Machine

open Sys2Proof

/-! ### The kinds' own work (R24, R25, R27, R28) -/

/-- An end of a record that was not begun again within the event is made at once (R19). -/
theorem Ev.endByKind_now {c : Chan} {e : Ev} (h : c ∉ e.again) (o : StepOutcome) : e.endByKind c o = e.endStep c o := by
  have hc : e.again.contains c = false := by
    rw [← Bool.not_eq_true, List.contains_iff_mem]; exact h
  unfold Ev.endByKind
  rw [if_neg (by rw [hc]; exact Bool.false_ne_true)]

theorem Ev.beginKind_finish {r : StepRec} (hk : r.kind = .finish) (c : Chan) (i : StepIx) (e : Ev) :
    e.beginKind c i r false = e.endByKind c .normal := by
  unfold Ev.beginKind; simp only [hk]

theorem Ev.beginKind_note {r : StepRec} (hk : r.kind = .note) (c : Chan) (i : StepIx) (e : Ev) :
    e.beginKind c i r false = e.postNote c i r := by
  unfold Ev.beginKind; simp only [hk]; rfl

theorem Ev.beginKind_drawPlates {r : StepRec} (hk : r.kind = .drawPlates) {c : Chan} {e : Ev}
    (hres : (e.s.fse.channels[c]).reservation = none) (i : StepIx) :
    e.beginKind c i r false = e.endByKind c .noReservation := by
  unfold Ev.beginKind; simp only [hk, hres, Option.isNone_none, if_true]

theorem Ev.beginKind_waitPlates {r : StepRec} (hk : r.kind = .waitPlates) {c : Chan} {e : Ev}
    (hres : (e.s.fse.channels[c]).reservation = none) (i : StepIx) : e.beginKind c i r false = e.askPlates c r := by
  unfold Ev.beginKind; simp only [hk, Ev.cancelHeld_free hres]

theorem Ev.beginKind_call {r : StepRec} (hk : r.kind = .call) (c : Chan) (i : StepIx) (e : Ev) :
    e.beginKind c i r false = e.askPage c r := by
  unfold Ev.beginKind; simp only [hk]

/-- A WAIT PLATES for more plates than the warmers of its kind can hold has no reservation (R24, R112). -/
theorem Ev.askPlates_overCapacity {r : StepRec} {k : Kind} {e : Ev} (hk : r.plateKind.toNat = k.val)
    (hcap : e.s.ppu.reserveCapacity k < r.count) (c : Chan) : e.askPlates c r = e.endByKind c .noReservation := by
  have hreq : e.requestPlates c r.plateKind r.count = (e, .overCapacity) := by
    unfold Ev.requestPlates
    simp only [index_eq_some k hk, hcap, if_true]
  unfold Ev.askPlates
  simp only [hreq]

theorem Ev.first_again (s : State) (x : Station) (c : Chan) (i : StepIx) : c ∉ (Ev.first s x c i).again := List.not_mem_nil

theorem Ev.first_begun (s : State) (x : Station) {c : Chan} {i j : StepIx} (h : j ≠ i) : (c, j) ∉ (Ev.first s x c i).begun := by
  show (c, j) ∉ [(c, i)]
  rw [List.mem_singleton]
  exact fun hp => h (Prod.ext_iff.mp hp).2

/-- The records that a chain cannot open with for want of a reservation end at once (R24, R25). -/
theorem Ev.beginKind_reserveless {s : State} {c : Chan} {i : StepIx} (x : Station)
    (h : (s.fse.steps[i]).kind = .drawPlates ∨ ((s.fse.steps[i]).kind = .waitPlates ∧
      ∃ k : Kind, (s.fse.steps[i]).plateKind.toNat = k.val ∧ s.ppu.reserveCapacity k < (s.fse.steps[i]).count)) :
    (Ev.first s x c i).beginKind c i s.fse.steps[i] false = (Ev.first s x c i).endStep c .noReservation := by
  obtain ⟨hres, -⟩ := State.first_holds s x c i
  rw [← Ev.endByKind_now (Ev.first_again s x c i)]
  rcases h with hk | ⟨hk, k, hkind, hcap⟩
  · exact Ev.beginKind_drawPlates hk hres i
  · obtain ⟨-, hppu, -⟩ := State.first_same s x c i
    rw [Ev.beginKind_waitPlates hk hres]
    exact Ev.askPlates_overCapacity hkind (by rw [hppu]; exact hcap) c

theorem State.ownerRoom_iff {s : State} {c : Chan} {x : Station} (h : (s.fse.channels[c]).owner = some x) :
    s.ownerRoom c = true ↔ (s.sp.queues[x]).notices.length < 16 := by
  unfold State.ownerRoom
  simp only [h]
  exact decide_eq_true_iff

theorem goesOn_normal {r : StepRec} (h : r.kind ≠ .finish) : r.goesOn .normal = true := by
  unfold StepRec.goesOn; rw [if_neg h]

theorem goesOn_notPosted {r : StepRec} (h : r.kind ≠ .finish) : r.goesOn .notPosted = true := by
  unfold StepRec.goesOn; rw [if_neg h]

theorem goesOn_noReservation {r : StepRec} (h : r.kind ≠ .finish) : r.goesOn .noReservation = r.flags.tolerate := by
  unfold StepRec.goesOn; rw [if_neg h]

theorem goesOn_finish {r : StepRec} (h : r.kind = .finish) (o : StepOutcome) : r.goesOn o = false := by
  unfold StepRec.goesOn; rw [if_pos h]

theorem State.AtFirst.withSp {s u : State} {x : Station} {c : Chan} {i : StepIx} (h : s.AtFirst x c i u) (p : Sp) :
    s.AtFirst x c i { u with sp := p } :=
  ⟨h.run, h.current, h.next, h.owner, h.elapsed, h.counted, h.extremes, h.fallback, h.steps,
    h.beside.trans (State.setSp_beside ..)⟩

/-- A NOTE posts its notice in its owner's queue, where that has room, and ends at once (R27). -/
theorem Ev.postNote_owned {c : Chan} {x : Station} {e : Ev} (h : (e.s.fse.channels[c]).owner = some x) (i : StepIx)
    (r : StepRec) :
    ∃ p : Sp, e.postNote c i r = (e.on fun s => { s with sp := p }).endStep c
        (if (e.s.sp.queues[x]).notices.length < 16 then .normal else .notPosted) ∧
      ((e.s.sp.queues[x]).notices.length < 16 → (p.queues[x]).notices = (e.s.sp.queues[x]).notices ++
        [e.s.notice .channel c.val .stepNote i.val r.noteCode 0]) ∧
      (16 ≤ (e.s.sp.queues[x]).notices.length → (p.queues[x]).notices = (e.s.sp.queues[x]).notices ∧
        (p.queues[x]).overflow = true) := by
  obtain ⟨p, hp, -, hq⟩ := State.chanNotice_writes c .stepNote i.val r.noteCode 0 e.s
  obtain ⟨hroom, hfull⟩ := hq x h
  refine ⟨p, ?_, fun hlen => ?_, fun hlen => ?_⟩
  · have hcond : (if e.s.ownerRoom c then StepOutcome.normal else .notPosted) =
        if (e.s.sp.queues[x]).notices.length < 16 then .normal else .notPosted :=
      if_congr (State.ownerRoom_iff h) rfl rfl
    exact (congrArg (fun t : State => (Ev.mk t e.work e.begun e.again).endStep c _) hp).trans
      (congrArg (fun o => Ev.endStep c o _) hcond)
  · rw [hroom hlen, get_set_same]
  · rw [hfull hlen, get_set_same]
    exact ⟨rfl, rfl⟩

/-! ### Closing a START -/

/-- A START whose first record ends its chain at once. -/
theorem exec_start_ends {x : Station} {chan : Byte} {first : BitVec 16} {c : Chan} {i : StepIx} {s : State} {o : StepOutcome}
    (hc : chan.toNat = c.val) (hi : first.toNat = i.val) (hmay : s.MayStart c i)
    (hbegin : (Ev.first s x c i).beginKind c i s.fse.steps[i] false = (Ev.first s x c i).endStep c o)
    (hgo : (s.fse.steps[i]).goesOn o = false) (hroom : (s.sp.queues[x]).notices.length < 15) :
    ∃ t, exec (.start x chan first) s = .next (t.setAnswer x ⟨0x12, ⟨.accepted, []⟩⟩) ∧
      s.EndedFirst (Ev.first s x c i).s x c i o (((Ev.first s x c i).s.fse.channels[c]).closed o
        ((s.fse.steps[i]).endsByEnd o) (s.fse.steps[i]).holdSetpoint) t := by
  obtain ⟨hres, hpage⟩ := State.first_holds s x c i
  obtain ⟨hsp, -⟩ := State.first_same s x c i
  obtain ⟨t, hend, ht⟩ := Ev.endStep_first_ends (State.first_atFirst s x c i) hgo hres hpage (by rw [hsp]; exact hroom)
  refine ⟨t, ?_, ht⟩
  rw [exec_start_first hc hi hmay, hbegin, hend]
  exact concluded_quiet x 0x12 _ _ rfl

/-- A command whose event has nothing to do but the end of a step, after which the chain goes on and waits. -/
theorem concluded_onward {c : Chan} {i j : StepIx} {o : StepOutcome} {e : Ev}
    (h : ∀ n, (e.endStep c o).drain (n + 1) = Ev.drain n ((e.on (State.closeStep c i o)).opened c j)) (hwork : e.work = [])
    (x : Station) (code : Byte) (r : Response) :
    concluded x code (e.endStep c o, r) = .next (((e.s.closeStep c i o).opened c j).setAnswer x ⟨code, r⟩) := by
  have hquiet : (e.endStep c o).finish = ((e.s.closeStep c i o).opened c j) := by
    have hfinish := h 131071
    rw [Ev.drain_quiet 131071 (e := (e.on (State.closeStep c i o)).opened c j) hwork] at hfinish
    exact congrArg Ev.s hfinish
  exact congrArg (fun t : State => Host.Outcome.next (t.setAnswer x ⟨code, r⟩)) hquiet

/-- What a chain that ended at its first record leaves of its channel, in view of `s`, with the answer of START. -/
theorem State.EndedFirst.accepted {s t : State} {x : Station} {c : Chan} {i : StepIx} {o : StepOutcome} {closed : ChanRec}
    {entered : ChanState} (h : s.EndedFirst (Ev.first s x c i).s x c i o closed t) (hst : closed.state = entered) (a : Answer) :
    (s.KeepsBeside (t.setAnswer x a) c ∧ (t.setAnswer x a).ppu = s.ppu ∧ (t.setAnswer x a).pgu = s.pgu ∧
      ((t.setAnswer x a).sp.ports[x]).answer = some a) ∧
    ((t.setAnswer x a).fse.channels[c]).state = entered ∧ ((t.setAnswer x a).fse.channels[c]).current = none ∧
    ((t.setAnswer x a).fse.channels[c]).lastEnding = some
      { channel := c, lastStep := i, outcome := o, entered := entered, endedAt := s.clock, superseded := false, owedTo := x } ∧
    ((t.setAnswer x a).sp.queues[x]).notices = (s.sp.queues[x]).notices ++
      (if (s.fse.steps[i]).flags.notify then [s.doneNotice c i o] else []) ++ [s.endedNotice c i o entered] := by
  obtain ⟨hsp, hppu, hpgu, -⟩ := State.first_same s x c i
  subst hst
  refine ⟨⟨h.beside.trans (State.setAnswer_beside ..), h.ppu.trans hppu, h.pgu.trans hpgu, State.setAnswer_get ..⟩, h.state,
    h.current, h.lastEnding, ?_⟩
  rw [State.setAnswer_sp_queues, h.notices, hsp]

/-- What has gone on from the first record of a chain, in view of `s`, with the answer of START. -/
theorem State.WentOn.accepted {s u t : State} {x : Station} {c : Chan} {i j : StepIx} {o : StepOutcome}
    (h : s.WentOn u x c i j o t) (hppu : u.ppu = s.ppu) (hpgu : u.pgu = s.pgu) (a : Answer) :
    (s.KeepsBeside (t.setAnswer x a) c ∧ (t.setAnswer x a).ppu = s.ppu ∧ (t.setAnswer x a).pgu = s.pgu ∧
      ((t.setAnswer x a).sp.ports[x]).answer = some a) ∧
    s.Begun (t.setAnswer x a) c j ∧ ((t.setAnswer x a).fse.channels[c]).owner = some x ∧
    (t.setAnswer x a).fse.steps = (s.fse.steps.set i { s.fse.steps[i] with
      owner := if (s.fse.steps[i]).flags.retain then .engine else .station
      claim := none, completion := s.finished c o }).set j { s.fse.steps[j] with claim := some c } :=
  ⟨⟨h.beside.trans (State.setAnswer_beside ..), h.ppu.trans hppu, h.pgu.trans hpgu, State.setAnswer_get ..⟩, h.begun, h.owner,
    h.steps⟩

/-- A chain ended by END enters HOLD at its HOLD SETPOINT, or IDLE; ended by NO RESERVATION it enters the fallback hold (R33). -/
theorem ChanRec.closed_hold (ch : ChanRec) (v : Int) :
    (ch.closed .normal true (some v)).state = .hold ∧ (ch.closed .normal true (some v)).holdSetpoint = v ∧
      ∀ p, (ch.closed .normal true (some v)).demand p = (v, true) := ⟨rfl, rfl, fun _ => rfl⟩

theorem ChanRec.closed_idle (ch : ChanRec) :
    (ch.closed .normal true none).state = .idle ∧ ∀ p, (ch.closed .normal true none).demand p = (p, false) :=
  ⟨rfl, fun _ => rfl⟩

theorem ChanRec.closed_fallback (ch : ChanRec) {o : StepOutcome} (hh : o ≠ .halted) (hf : o ≠ .fault) (v : Option Int) :
    ch.closed o false v = { ch with
      state := .hold, holdSetpoint := ch.fallback, current := none, prefetched := none, stepTimer := false
      repeated := false, delayedEnd := none } := by
  unfold ChanRec.closed ChanRec.entering
  rw [if_neg Bool.false_ne_true, if_neg hh, if_neg hf]

/-- Settles O5. -/
theorem endNoteAndNoReservationRules : Obligations.EndNoteAndNoReservationRules := by
  intro x chan first s c i hc hi hmay r q reserveless returned stepDone accepted ended onward
  obtain ⟨hsp, hppu, hpgu, -⟩ := State.first_same s x c i
  have hat := State.first_atFirst s x c i
  obtain ⟨-, -, -, -, -, hengine, -⟩ := id hmay
  refine ⟨fun hk hroom => ?_, fun hno htol hroom => ?_, fun j hj hji hw => ⟨fun hno htol hroom => ?_, fun hk hroom => ?_,
    fun hk hfull => ?_⟩⟩
  · obtain ⟨t, hexec, ht⟩ := exec_start_ends hc hi hmay (o := .normal)
      ((Ev.beginKind_finish hk ..).trans (Ev.endByKind_now (e := Ev.first s x c i) (Ev.first_again s x c i) _)) (goesOn_finish hk _) hroom
    have hby : (s.fse.steps[i]).endsByEnd .normal = true := decide_eq_true ⟨hk, rfl⟩
    rw [hby] at ht
    refine ⟨_, hexec, ?_, fun v hv => ?_, fun hv => ?_⟩
    · exact ht.steps.trans (by rw [hby]; rfl)
    · have hv' : (s.fse.steps[i]).holdSetpoint = some v := hv
      rw [hv'] at ht
      obtain ⟨hst, hset, hd⟩ := ChanRec.closed_hold ((Ev.first s x c i).s.fse.channels[c]) v
      obtain ⟨hlset, hlact, -⟩ := ht.load
      rw [hd] at hlset hlact
      exact ⟨ht.accepted hst _, ht.owner, ht.holdSetpoint, hlset, hlact⟩
    · have hv' : (s.fse.steps[i]).holdSetpoint = none := hv
      rw [hv'] at ht
      obtain ⟨hst, hd⟩ := ChanRec.closed_idle ((Ev.first s x c i).s.fse.channels[c])
      obtain ⟨-, hlact, -⟩ := ht.load
      rw [hd] at hlact
      exact ⟨ht.accepted hst _, ht.owner, hlact⟩
  · have hk : r.kind ≠ .finish := fun h => by
      rcases hno with hk | ⟨hk, -⟩ <;> rw [h] at hk <;> cases hk
    obtain ⟨t, hexec, ht⟩ := exec_start_ends hc hi hmay (o := .noReservation) (Ev.beginKind_reserveless x hno)
      ((goesOn_noReservation hk).trans htol) hroom
    have hby : (s.fse.steps[i]).endsByEnd .noReservation = false := StepRec.endsByEnd_of_ne (by decide)
    rw [hby, ChanRec.closed_fallback _ (by decide) (by decide)] at ht
    obtain ⟨hlset, hlact, -⟩ := ht.load
    refine ⟨_, hexec, ht.accepted rfl _, ht.steps.trans (by rw [hby]; rfl), ht.owner,
      ht.holdSetpoint.trans hat.fallback, hlset.trans hat.fallback, hlact⟩
  · have hk : r.kind ≠ .finish := fun h => by
      rcases hno with hk | ⟨hk, -⟩ <;> rw [h] at hk <;> cases hk
    obtain ⟨ht, hdrain⟩ := Ev.endStep_first_onward (o := .noReservation) hat ((goesOn_noReservation hk).trans htol) (by decide)
      hengine hj hji hw (Ev.first_begun s x hji)
    refine ⟨_, ?_, ht.accepted hppu hpgu ⟨0x12, ⟨.accepted, []⟩⟩, ?_⟩
    · rw [exec_start_first hc hi hmay, Ev.beginKind_reserveless x hno]
      exact concluded_onward hdrain rfl ..
    · have hnotices := ht.notices (by rw [hsp]; exact hroom)
      rw [hsp] at hnotices
      rw [State.setAnswer_sp_queues]
      exact hnotices
  · obtain ⟨p, hnote, hposted, -⟩ := Ev.postNote_owned hat.owner i s.fse.steps[i]
    simp only [hsp] at hnote hposted
    have hroom' : (s.sp.queues[x]).notices.length < 15 := hroom
    have hq := hposted (by omega)
    rw [if_pos (by omega)] at hnote
    have hkind : r.kind ≠ .finish := fun h => by rw [h] at hk; cases hk
    obtain ⟨ht, hdrain⟩ := Ev.endStep_first_onward (e := (Ev.first s x c i).on fun s => { s with sp := p }) (hat.withSp p)
      (goesOn_normal hkind) (by decide) hengine hj hji hw (Ev.first_begun s x hji)
    refine ⟨_, ?_, ht.accepted hppu hpgu ⟨0x12, ⟨.accepted, []⟩⟩, ?_⟩
    · rw [exec_start_first hc hi hmay, Ev.beginKind_note hk, hnote]
      exact concluded_onward hdrain rfl ..
    · have hnotices := ht.notices (by
        show (p.queues[x]).notices.length < 16
        rw [hq, List.length_append, List.length_singleton]; omega)
      have hu : (((Ev.first s x c i).on fun s => { s with sp := p }).s.sp.queues[x]).notices = _ := hq
      rw [hu, State.notice, hat.clock] at hnotices
      rw [State.setAnswer_sp_queues]
      exact hnotices
  · obtain ⟨p, hnote, -, hposted⟩ := Ev.postNote_owned hat.owner i s.fse.steps[i]
    simp only [hsp] at hnote hposted
    have hfull' : 16 ≤ (s.sp.queues[x]).notices.length := hfull
    obtain ⟨hq, hover⟩ := hposted hfull'
    rw [if_neg (by omega)] at hnote
    have hkind : r.kind ≠ .finish := fun h => by rw [h] at hk; cases hk
    obtain ⟨ht, hdrain⟩ := Ev.endStep_first_onward (e := (Ev.first s x c i).on fun s => { s with sp := p }) (hat.withSp p)
      (goesOn_notPosted hkind) (by decide) hengine hj hji hw (Ev.first_begun s x hji)
    obtain ⟨hnotices, hoverflow⟩ := ht.full (by
      show 16 ≤ (p.queues[x]).notices.length
      rw [hq]; exact hfull')
    refine ⟨_, ?_, ht.accepted hppu hpgu ⟨0x12, ⟨.accepted, []⟩⟩, ?_⟩
    · rw [exec_start_first hc hi hmay, Ev.beginKind_note hk, hnote]
      exact concluded_onward hdrain rfl ..
    · rw [State.setAnswer_sp_queues, hnotices]
      exact ⟨hq, hoverflow hover⟩

end Sys2Proof.Machine
end

section
/-! PROOFS. A chain that opens with WAIT PLATES or CALL (R24, R26, R111, R112, R114, R172). -/

namespace Sys2Proof.Machine

open Sys2Proof

/-! ### A channel that waits at its first record -/

/-- In state `t` channel `c` waits at record `i`, the first of its chain; its ports are as they were. -/
structure State.WaitsFirst (s : State) (x : Station) (c : Chan) (i : StepIx) (t : State) : Prop where
  atFirst : s.AtFirst x c i t
  begun : s.Begun t c i
  sp : t.sp = s.sp

theorem State.first_waits {s : State} {i : StepIx} (hk : (s.fse.steps[i]).kind.carriesSetpoint = true) (x : Station) (c : Chan) :
    s.WaitsFirst x c i (Ev.first s x c i).s := by
  obtain ⟨hsp, -⟩ := State.first_same s x c i
  have hrun : ((s.started c x).fse.channels[c]).state = .run := by rw [State.started, State.setChan_get]
  exact ⟨State.first_atFirst s x c i, State.opened_begun (s := s.started c x) hrun hk, hsp⟩

namespace State.WaitsFirst

variable {s t : State} {x : Station} {c : Chan} {i : StepIx}

/-- It may enter a waiting set. -/
theorem onFse (h : s.WaitsFirst x c i t) {g : Fse → Fse} (hsteps : (g t.fse).steps = t.fse.steps)
    (hchan : (g t.fse).channels = t.fse.channels) : s.WaitsFirst x c i (t.onFse g) := by
  obtain ⟨⟨h1, h2, h3, h4, h5, h6, h7, h8, h9, b1, b⟩, hbegun, hsp⟩ := h
  have hget : ∀ d : Chan, (t.onFse g).fse.channels[d] = t.fse.channels[d] := fun d => congrArg (·[d]) hchan
  unfold State.Begun at hbegun
  rw [← hget] at h1 h2 h3 h4 h5 h6 h7 h8 hbegun
  exact ⟨⟨h1, h2, h3, h4, h5, h6, h7, h8, hsteps.trans h9, fun d hd => (hget d).trans (b1 d hd), b⟩, hbegun, hsp⟩

/-- It may come to hold a reservation or a page. -/
theorem holds (h : s.WaitsFirst x c i t) {f : ChanRec → ChanRec}
    (hf : ∃ a b, f t.fse.channels[c] = { t.fse.channels[c] with reservation := a, page := b }) :
    s.WaitsFirst x c i (t.onChan c f) := by
  obtain ⟨⟨h1, h2, h3, h4, h5, h6, h7, h8, h9, hb⟩, ⟨g1, g2, g3, g4, g5, g6, g7, hload⟩, hsp⟩ := h
  obtain ⟨a, b, hf⟩ := hf
  have hget : (t.onChan c f).fse.channels[c] = { t.fse.channels[c] with reservation := a, page := b } :=
    (State.setChan_get ..).trans hf
  refine ⟨⟨?_, ?_, ?_, ?_, ?_, ?_, ?_, ?_, h9, hb.trans (State.setChan_beside ..)⟩, ?_, hsp⟩
  case refine_9 =>
    unfold State.Begun
    rw [hget]
    exact ⟨g1, g2, g3, g4, g5, g6, g7, hload⟩
  all_goals rw [hget]; assumption

theorem setPpu (h : s.WaitsFirst x c i t) {p : Ppu} (hpools : p.pools = t.ppu.pools) (hwarmers : p.warmers = t.ppu.warmers) :
    s.WaitsFirst x c i { t with ppu := p } := by
  obtain ⟨⟨h1, h2, h3, h4, h5, h6, h7, h8, h9, b1, b2, b3, b4, b5, b6, b7, b⟩, hbegun, hsp⟩ := h
  exact ⟨⟨h1, h2, h3, h4, h5, h6, h7, h8, h9, b1, b2, b3, b4, b5, hpools.trans b6, hwarmers.trans b7, b⟩, hbegun, hsp⟩

theorem setPgu (h : s.WaitsFirst x c i t) (g : Pgu) : s.WaitsFirst x c i (t.setPgu g) := by
  obtain ⟨⟨h1, h2, h3, h4, h5, h6, h7, h8, h9, b⟩, hbegun, hsp⟩ := h
  exact ⟨⟨h1, h2, h3, h4, h5, h6, h7, h8, h9, b⟩, hbegun, hsp⟩

end State.WaitsFirst

/-! ### A new entry (R111, R114) -/

/-- The reservation table with a new entry, its state as it is reached (R111). -/
def Ppu.withEntry (p : Ppu) (n : ResIx) (r : ResRec) : Ppu :=
  { p with entries := p.entries.set n (some r), ageList := p.ageList ++ [n], nextCreation := (p.nextCreation + 1) % 65536 }

theorem Ppu.entry_of_free {p : Ppu} {n : ResIx} (h : p.freeEntry = some n) : p.entries[n] = none := by
  unfold Ppu.freeEntry at h
  have hn := List.find?_some h
  exact Option.isNone_iff_eq_none.mp hn

theorem Ppu.not_mem_ageList {p : Ppu} {n : ResIx} (h : p.freeEntry = some n) (hage : p.AgeListRight) : n ∉ p.ageList := by
  rw [hage.2 n, Ppu.entry_of_free h]
  exact Bool.false_ne_true

/-- The new entry is the newest of its kind (R108, R111). -/
theorem Ppu.live_withEntry {p : Ppu} {n : ResIx} (hn : n ∉ p.ageList) (r : ResRec) (k : Kind) :
    (p.withEntry n r).live k = p.live k ++ if r.kind = k then [(n, r)] else [] := by
  have hnew : (p.withEntry n r).entries[n] = some r := get_set_same ..
  have hold : ∀ m ∈ p.ageList, (p.withEntry n r).entries[m] = p.entries[m] := fun m hm =>
    get_set_ne _ (fun h => by subst h; exact hn hm) _
  have hage : (p.withEntry n r).ageList = p.ageList ++ [n] := rfl
  unfold Ppu.live
  rw [hage, List.filterMap_append]
  congr 1
  · exact List.filterMap_congr fun m hm => by rw [hold m hm]
  · rw [List.filterMap_cons, hnew]
    by_cases hk : r.kind = k
    · simp only [if_pos hk, List.filterMap_nil]
    · simp only [if_neg hk, List.filterMap_nil]

/-- A new entry that waits adds nothing to what is outstanding (R109). -/
theorem Ppu.sumOutstanding_withEntry {p : Ppu} {n : ResIx} (hn : n ∉ p.ageList) {r : ResRec} (hr : r.state = .waiting)
    (k : Kind) : (p.withEntry n r).sumOutstanding k = p.sumOutstanding k := by
  have hout : r.outstanding = 0 := by unfold ResRec.outstanding; rw [hr]
  unfold Ppu.sumOutstanding
  rw [Ppu.live_withEntry hn, List.map_append, List.sum_append]
  split
  · rw [List.map_singleton, List.sum_singleton, hout, Nat.add_zero]
  · rfl

/-- Evaluation passes over the entries of other kinds and those that do not wait (R114). -/
theorem Ev.evaluateFrom_skip {k : Kind} {e : Ev} {l : List ResIx}
    (h : ∀ m ∈ l, ∀ r, e.s.ppu.entries[m] = some r → ¬ (r.kind = k ∧ r.state = .waiting)) (l' : List ResIx) :
    e.evaluateFrom k (l ++ l') = e.evaluateFrom k l' := by
  induction l with
  | nil => rfl
  | cons m l ih =>
    have hm := h m List.mem_cons_self
    have ih' := ih fun m' hm' => h m' (List.mem_cons_of_mem _ hm')
    rw [List.cons_append, Ev.evaluateFrom]
    cases hr : e.s.ppu.entries[m] with
    | none => exact ih'
    | some r => simp only [if_neg (hm r hr)]; exact ih'

theorem Ev.becomeReady_channel {n : ResIx} {r : ResRec} {c : Chan} (h : r.owner = .channel c) (e : Ev) :
    e.becomeReady n r = (e.on (State.setEntry n (some { r with state := .ready }))).hand (.entryReady c n r.creation) := by
  unfold Ev.becomeReady State.resNotice
  simp only [h]

/-- The entry that a channel asks for, not yet evaluated (R111). -/
def Ppu.asked (p : Ppu) (k : Kind) (count : Nat) (c : Chan) (now : Nat) : ResRec :=
  { kind := k, count := count, requested := count, drawn := 0, owner := .channel c, state := .waiting, shortened := false
    creation := p.nextCreation, createdAt := now }

/-- A new entry is evaluated alone where no older entry of its kind waits: it is READY where the ready plates cover it (R114). -/
theorem Ev.createEntry_alone {k : Kind} {n : ResIx} {e : Ev} (hn : n ∉ e.s.ppu.ageList)
    (hold : ∀ m ∈ e.s.ppu.ageList, ∀ r, e.s.ppu.entries[m] = some r → r.kind = k → r.state ≠ .waiting) (count : Nat) (c : Chan) :
    let r := e.s.ppu.asked k count c e.s.clock
    e.createEntry n k count (.channel c) =
      if count + e.s.ppu.sumOutstanding k ≤ e.s.ppu.readyWarm k then
        ((e.on fun s => { s with ppu := s.ppu.withEntry n { r with state := .ready } }).hand (.entryReady c n r.creation),
          (n, r.creation, .ready))
      else (e.on fun s => { s with ppu := s.ppu.withEntry n r }, (n, r.creation, .waiting)) := by
  intro r
  let e1 := e.on fun s => { s with ppu := s.ppu.withEntry n r }
  have hnew : e1.s.ppu.entries[n] = some r := get_set_same ..
  have hskip : e1.evaluate k = e1.evaluateFrom k [n] := by
    refine Ev.evaluateFrom_skip (l := e.s.ppu.ageList) (fun m hm r' hr' hw => ?_) [n]
    have hm' : e1.s.ppu.entries[m] = e.s.ppu.entries[m] := get_set_ne _ (fun h => by subst h; exact hn hm) _
    rw [hm'] at hr'
    exact hold m hm r' hr' hw.1 hw.2
  have hsum : e1.s.ppu.sumOutstanding k = e.s.ppu.sumOutstanding k := Ppu.sumOutstanding_withEntry hn rfl k
  have hwarm : e1.s.ppu.readyWarm k = e.s.ppu.readyWarm k := rfl
  have hcreate : e.createEntry n k count (.channel c) =
      (e1.evaluate k, (n, r.creation, (((e1.evaluate k).s.ppu.entries[n]).map ResRec.state).getD .waiting)) := rfl
  have hone : e1.evaluateFrom k [n] = if count + e.s.ppu.sumOutstanding k ≤ e.s.ppu.readyWarm k then e1.becomeReady n r else e1 := by
    rw [Ev.evaluateFrom]
    simp only [hnew, hsum, hwarm]
    exact if_pos ⟨rfl, rfl⟩
  rw [hcreate, hskip, hone]
  split
  · have hready : e1.becomeReady n r =
        (e.on fun s => { s with ppu := s.ppu.withEntry n { r with state := .ready } }).hand (.entryReady c n r.creation) := by
      rw [Ev.becomeReady_channel rfl]
      simp [e1, Ev.on, Ev.hand, State.setEntry, Ppu.withEntry]
    have hstate : ((e.on fun s => { s with ppu := s.ppu.withEntry n { r with state := .ready } }).hand
        (.entryReady c n r.creation)).s.ppu.entries[n] = some { r with state := .ready } := get_set_same ..
    rw [hready, hstate]
    rfl
  · rw [hnew]
    rfl

/-! ### The kinds' own work (R24, R26) -/

theorem Ev.askPlates_full {r : StepRec} {k : Kind} {e : Ev} (hk : r.plateKind.toNat = k.val)
    (hcap : r.count ≤ e.s.ppu.reserveCapacity k) (hfull : e.s.ppu.freeEntry = none) (c : Chan) :
    e.askPlates c r = e.on (State.onFse (fun f => f.waitEntry c)) := by
  have hreq : e.requestPlates c r.plateKind r.count = (e, .full) := by
    unfold Ev.requestPlates
    simp only [index_eq_some k hk, if_neg (Nat.not_lt.mpr hcap), hfull]
  unfold Ev.askPlates
  simp only [hreq]

/-- The channel holds the new entry; a READY one ends its step (R24). -/
theorem Ev.askPlates_created {r : StepRec} {k : Kind} {n : ResIx} {c : Chan} {e f : Ev} {a : Nat} {st : ResState}
    (hk : r.plateKind.toNat = k.val) (hcap : r.count ≤ e.s.ppu.reserveCapacity k) (hfree : e.s.ppu.freeEntry = some n)
    (hcreate : e.createEntry n k r.count (.channel c) = (f, (n, a, st))) :
    e.askPlates c r = if st = .ready then
        (f.on (State.onChan c (fun ch => { ch with reservation := some (n, a) }))).endByKind c .normal
      else f.on (State.onChan c (fun ch => { ch with reservation := some (n, a) })) := by
  have hreq : e.requestPlates c r.plateKind r.count = (f, .created n a st) := by
    unfold Ev.requestPlates
    simp only [index_eq_some k hk, if_neg (Nat.not_lt.mpr hcap), hfree, hcreate]
  unfold Ev.askPlates
  simp only [hreq]

theorem Ev.askPage_full {r : StepRec} {sub : Submission} {e : Ev} (hsub : submissionOf r.page = some sub)
    (hfull : 48 ≤ e.s.pgu.queue.length) (c : Chan) : e.askPage c r = e.on (State.onFse (fun f => f.waitPlace c)) := by
  have hroom : e.s.pgu.room = false := decide_eq_false (Nat.not_lt.mpr hfull)
  unfold Ev.askPage
  simp only [hsub, hroom, Bool.false_eq_true, if_false]

/-- A submission behind a link that is down or busy enters the queue, and nothing is transmitted (R170). -/
theorem Ev.submit_quiet {e : Ev} (h : e.s.pgu.linkUp = false ∨ e.s.pgu.inFlight.isSome = true) (sub : Submission)
    (o : Originator) (n : Option Station) (report : ReportTo) :
    e.submit sub o n report = e.on fun s => s.setPgu (s.pgu.enter (s.pgu.newPage sub o n report s.clock)) := by
  have hoff : ¬ (e.s.pgu.inFlight.isNone ∧ e.s.pgu.linkUp) := by
    rintro ⟨hnone, hup⟩
    rcases h with h | h
    · rw [h] at hup; cases hup
    · rw [Option.isNone_iff_eq_none.mp hnone] at h; cases h
  exact if_neg hoff

/-- With WAIT-ACK the channel waits with its page; without it the step ends (R26). -/
theorem Ev.askPage_room {r : StepRec} {sub : Submission} {e : Ev} (hsub : submissionOf r.page = some sub)
    (hroom : e.s.pgu.queue.length < 48) (c : Chan) :
    e.askPage c r = if r.flags.waitAck then
        (e.on (State.onChan c (fun ch => { ch with page := some e.s.pgu.comingNumber }))).submit sub (.channel c)
          (e.s.fse.channels[c]).owner .channel
      else (e.submit sub (.channel c) (e.s.fse.channels[c]).owner .station).endByKind c .normal := by
  have hr : e.s.pgu.room = true := decide_eq_true hroom
  unfold Ev.askPage
  simp only [hsub, hr, if_true]

/-- A READY report for a channel whose step is no WAIT PLATES is passed over (R24). -/
theorem Ev.entryReady_passed {c : Chan} {i : StepIx} {e : Ev} (hrun : (e.s.fse.channels[c]).state = .run)
    (hcur : (e.s.fse.channels[c]).current = some i) (hk : (e.s.fse.steps[i]).kind ≠ .waitPlates) (n : ResIx) (a : Nat) :
    e.entryReady c n a = e := by
  unfold Ev.entryReady
  simp only [State.running_eq hrun hcur]
  exact if_neg fun h => hk h.1

/-! ### Closing a START that waits -/

theorem State.WaitsFirst.answered {s t : State} {x : Station} {c : Chan} {i : StepIx} (h : s.WaitsFirst x c i t) (a : Answer) :
    ((s.KeepsBeside (t.setAnswer x a) c ∧ ((t.setAnswer x a).fse.channels[c]).owner = some x ∧
        ((t.setAnswer x a).sp.ports[x]).answer = some a) ∧ s.Begun (t.setAnswer x a) c i ∧
      (t.setAnswer x a).fse.steps = s.fse.steps.set i { s.fse.steps[i] with claim := some c } ∧
      (t.setAnswer x a).sp.queues = s.sp.queues) :=
  ⟨⟨h.atFirst.beside.trans (State.setAnswer_beside ..), h.atFirst.owner, State.setAnswer_get ..⟩, h.begun, h.atFirst.steps,
    (State.setAnswer_sp_queues ..).trans (congrArg Sp.queues h.sp)⟩

theorem Fse.mem_waitEntry (f : Fse) (c : Chan) : c ∈ (f.waitEntry c).entryWaiters := by
  show c ∈ if f.entryWaiters.contains c then _ else _
  split
  next h => exact List.contains_iff_mem.mp h
  next => exact List.mem_append_right _ (List.mem_singleton.mpr rfl)

theorem Fse.mem_waitPlace (f : Fse) (c : Chan) : c ∈ (f.waitPlace c).placeWaiters := by
  show c ∈ if f.placeWaiters.contains c then _ else _
  split
  next h => exact List.contains_iff_mem.mp h
  next => exact List.mem_append_right _ (List.mem_singleton.mpr rfl)

/-- The record gone on to, of a kind that waits for a reading, is no WAIT PLATES. -/
theorem State.WentOn.kind_ne {s u t : State} {x : Station} {c : Chan} {i j : StepIx} {o : StepOutcome}
    (h : s.WentOn u x c i j o t) (hw : s.Awaits c j) : (t.fse.steps[j]).kind ≠ .waitPlates := by
  obtain ⟨-, -, hk, -⟩ := hw
  rw [h.steps, get_set_same]
  intro h
  have h' : (s.fse.steps[j]).kind = .waitPlates := h
  rw [h'] at hk
  exact absurd hk (by decide)

/-- The rest of an event in which the chain has gone on after a READY that its own request brought: the report is passed over. -/
theorem concluded_onward_ready {c : Chan} {i j : StepIx} {o : StepOutcome} {e : Ev} {n : ResIx} {a : Nat}
    (h : ∀ m, (e.endStep c o).drain (m + 1) = Ev.drain m ((e.on (State.closeStep c i o)).opened c j))
    (hwork : e.work = [.entryReady c n a])
    (hrun : (((e.s.closeStep c i o).opened c j).fse.channels[c]).state = .run)
    (hcur : (((e.s.closeStep c i o).opened c j).fse.channels[c]).current = some j)
    (hk : (((e.s.closeStep c i o).opened c j).fse.steps[j]).kind ≠ .waitPlates) (x : Station) (code : Byte) (r : Response) :
    concluded x code (e.endStep c o, r) = .next (((e.s.closeStep c i o).opened c j).setAnswer x ⟨code, r⟩) := by
  let f : Ev := { (e.on (State.closeStep c i o)).opened c j with work := [] }
  have hpass : Ev.take (.entryReady c n a) f = f := Ev.entryReady_passed (e := f) hrun hcur hk n a
  have hfinish := h 131071
  rw [Ev.drain_cons 131070 (e := (e.on (State.closeStep c i o)).opened c j) hwork, hpass, Ev.drain_quiet _ (e := f) rfl] at hfinish
  exact congrArg (fun t : Ev => Host.Outcome.next (t.s.setAnswer x ⟨code, r⟩)) hfinish

section StartOnWaitPlatesOrCall

variable {x : Station} {chan : Byte} {first : BitVec 16} {s : State} {c : Chan} {i : StepIx}

/-- START on a WAIT PLATES where the table is full: the channel waits for an entry (R24). -/
theorem exec_start_waitPlates_full {k : Kind} (hc : chan.toNat = c.val) (hi : first.toNat = i.val) (hmay : s.MayStart c i)
    (hk : (s.fse.steps[i]).kind = .waitPlates) (hkind : (s.fse.steps[i]).plateKind.toNat = k.val)
    (hcap : (s.fse.steps[i]).count ≤ s.ppu.reserveCapacity k) (hfull : s.ppu.freeEntry = none) :
    ∃ t, exec (.start x chan first) s = .next (t.setAnswer x ⟨0x12, ⟨.accepted, []⟩⟩) ∧ s.WaitsFirst x c i t ∧
      t.ppu = s.ppu ∧ t.pgu = s.pgu ∧ (t.fse.channels[c]).reservation = none ∧ c ∈ t.fse.entryWaiters := by
  obtain ⟨-, hppu, hpgu, -⟩ := State.first_same s x c i
  obtain ⟨hres, -⟩ := State.first_holds s x c i
  refine ⟨(Ev.first s x c i).s.onFse (fun f => f.waitEntry c), ?_,
    (State.first_waits (by rw [hk]; rfl) x c).onFse rfl rfl, hppu, hpgu, hres, Fse.mem_waitEntry ..⟩
  rw [exec_start_first hc hi hmay, Ev.beginKind_waitPlates hk hres, Ev.askPlates_full hkind (by rw [hppu]; exact hcap)
    (by rw [hppu]; exact hfull)]
  exact concluded_quiet x 0x12 _ _ rfl

/-- The new entry of a channel's request at its first record, where none of its kind waits (R111, R114). -/
theorem Ev.first_createEntry {k : Kind} {n : ResIx} (hfree : s.ppu.freeEntry = some n) (hage : s.ppu.AgeListRight)
    (hold : ∀ (m : ResIx) (e : ResRec), s.ppu.entries[m] = some e → e.kind = k → e.state ≠ .waiting) (count : Nat) :
    let r := s.ppu.asked k count c s.clock
    (Ev.first s x c i).createEntry n k count (.channel c) =
      if count + s.ppu.sumOutstanding k ≤ s.ppu.readyWarm k then
        (((Ev.first s x c i).on fun t => { t with ppu := s.ppu.withEntry n { r with state := .ready } }).hand
          (.entryReady c n r.creation), (n, r.creation, .ready))
      else ((Ev.first s x c i).on fun t => { t with ppu := s.ppu.withEntry n r }, (n, r.creation, .waiting)) := by
  intro r
  obtain ⟨-, hppu, -⟩ := State.first_same s x c i
  have hclock := (State.first_atFirst s x c i).clock
  have hcreate := Ev.createEntry_alone (k := k) (n := n) (e := Ev.first s x c i)
    (by rw [hppu]; exact Ppu.not_mem_ageList hfree hage) (fun m _ e he => hold m e (by rw [← hppu]; exact he)) count c
  simp only [hppu, hclock] at hcreate
  refine hcreate.trans ?_
  have hset : ∀ r', (Ev.first s x c i).on (fun t => { t with ppu := t.ppu.withEntry n r' }) =
      (Ev.first s x c i).on (fun t => { t with ppu := s.ppu.withEntry n r' }) := fun r' =>
    congrArg (fun p : Ppu => (Ev.first s x c i).on fun t => { t with ppu := p.withEntry n r' }) hppu
  rw [hset, hset]

/-- START on a WAIT PLATES whose plates are not ready: the channel waits with its new entry (R24, R111). -/
theorem exec_start_waitPlates_waiting {k : Kind} {n : ResIx} (hc : chan.toNat = c.val) (hi : first.toNat = i.val)
    (hmay : s.MayStart c i) (hk : (s.fse.steps[i]).kind = .waitPlates) (hkind : (s.fse.steps[i]).plateKind.toNat = k.val)
    (hcap : (s.fse.steps[i]).count ≤ s.ppu.reserveCapacity k) (hfree : s.ppu.freeEntry = some n) (hage : s.ppu.AgeListRight)
    (hold : ∀ (m : ResIx) (e : ResRec), s.ppu.entries[m] = some e → e.kind = k → e.state ≠ .waiting)
    (hlow : s.ppu.readyWarm k < (s.fse.steps[i]).count + s.ppu.sumOutstanding k) :
    ∃ t, exec (.start x chan first) s = .next (t.setAnswer x ⟨0x12, ⟨.accepted, []⟩⟩) ∧ s.WaitsFirst x c i t ∧
      t.ppu = s.ppu.withEntry n (s.ppu.asked k (s.fse.steps[i]).count c s.clock) ∧ t.pgu = s.pgu ∧
      (t.fse.channels[c]).reservation = some (n, s.ppu.nextCreation) := by
  obtain ⟨-, hppu, hpgu, -⟩ := State.first_same s x c i
  obtain ⟨hres, -⟩ := State.first_holds s x c i
  have hcreate := Ev.first_createEntry (x := x) (c := c) (i := i) hfree hage hold (s.fse.steps[i]).count
  simp only [if_neg (Nat.not_le.mpr hlow)] at hcreate
  have hw := (State.first_waits (by rw [hk]; rfl) x c).setPpu
    (p := s.ppu.withEntry n (s.ppu.asked k (s.fse.steps[i]).count c s.clock)) (by rw [hppu]; rfl) (by rw [hppu]; rfl)
  refine ⟨_, ?_, hw.holds (f := fun ch => { ch with reservation := some (n, s.ppu.nextCreation) }) ⟨_, _, rfl⟩, rfl, hpgu,
    congrArg ChanRec.reservation (State.setChan_get ..)⟩
  rw [exec_start_first hc hi hmay, Ev.beginKind_waitPlates hk hres,
    Ev.askPlates_created hkind (by rw [hppu]; exact hcap) (by rw [hppu]; exact hfree) hcreate, if_neg (by decide)]
  exact concluded_quiet x 0x12 _ _ rfl

/-- START on a WAIT PLATES whose plates are ready: the chain goes on with its reservation (R24, R114). -/
theorem exec_start_waitPlates_ready {k : Kind} {n : ResIx} {j : StepIx} (hc : chan.toNat = c.val) (hi : first.toNat = i.val)
    (hmay : s.MayStart c i) (hk : (s.fse.steps[i]).kind = .waitPlates) (hkind : (s.fse.steps[i]).plateKind.toNat = k.val)
    (hcap : (s.fse.steps[i]).count ≤ s.ppu.reserveCapacity k) (hfree : s.ppu.freeEntry = some n) (hage : s.ppu.AgeListRight)
    (hold : ∀ (m : ResIx) (e : ResRec), s.ppu.entries[m] = some e → e.kind = k → e.state ≠ .waiting)
    (hcover : (s.fse.steps[i]).count + s.ppu.sumOutstanding k ≤ s.ppu.readyWarm k)
    (hj : (s.fse.steps[i]).next i = some j) (hji : j ≠ i) (hawait : s.Awaits c j) :
    ∃ u t, exec (.start x chan first) s = .next (t.setAnswer x ⟨0x12, ⟨.accepted, []⟩⟩) ∧ s.WentOn u x c i j .normal t ∧
      u.ppu = s.ppu.withEntry n { s.ppu.asked k (s.fse.steps[i]).count c s.clock with state := .ready } ∧ u.pgu = s.pgu ∧
      (u.fse.channels[c]).reservation = some (n, s.ppu.nextCreation) := by
  obtain ⟨-, hppu, hpgu, -⟩ := State.first_same s x c i
  obtain ⟨hres, -⟩ := State.first_holds s x c i
  obtain ⟨-, -, -, -, -, hengine, -⟩ := id hmay
  have hcreate := Ev.first_createEntry (x := x) (c := c) (i := i) hfree hage hold (s.fse.steps[i]).count
  simp only [if_pos hcover] at hcreate
  let entry : ResRec := { s.ppu.asked k (s.fse.steps[i]).count c s.clock with state := .ready }
  have hw := (State.first_waits (by rw [hk]; rfl) x c).setPpu
    (p := s.ppu.withEntry n entry) (by rw [hppu]; rfl) (by rw [hppu]; rfl)
  have hf := hw.holds (f := fun ch => { ch with reservation := some (n, s.ppu.nextCreation) }) ⟨_, _, rfl⟩
  obtain ⟨ht, hdrain⟩ := Ev.endStep_first_onward (e := (((Ev.first s x c i).on fun t =>
      { t with ppu := s.ppu.withEntry n entry }).hand (.entryReady c n s.ppu.nextCreation)).on
        (State.onChan c (fun ch => { ch with reservation := some (n, s.ppu.nextCreation) })))
    hf.atFirst (goesOn_normal (by rw [hk]; decide)) (by decide) hengine hj hji hawait (Ev.first_begun s x hji)
  obtain ⟨hrun, hcur, -⟩ := id ht.begun
  refine ⟨_, _, ?_, ht, rfl, hpgu, congrArg ChanRec.reservation (State.setChan_get ..)⟩
  rw [exec_start_first hc hi hmay, Ev.beginKind_waitPlates hk hres,
    Ev.askPlates_created hkind (by rw [hppu]; exact hcap) (by rw [hppu]; exact hfree) hcreate, if_pos rfl,
    Ev.endByKind_now List.not_mem_nil]
  exact concluded_onward_ready hdrain rfl hrun hcur (ht.kind_ne hawait) ..

/-- START on a CALL where the page queue is full: the channel waits for a place (R26). -/
theorem exec_start_call_full {sub : Submission} (hc : chan.toNat = c.val) (hi : first.toNat = i.val) (hmay : s.MayStart c i)
    (hk : (s.fse.steps[i]).kind = .call) (hsub : submissionOf (s.fse.steps[i]).page = some sub)
    (hfull : 48 ≤ s.pgu.queue.length) :
    ∃ t, exec (.start x chan first) s = .next (t.setAnswer x ⟨0x12, ⟨.accepted, []⟩⟩) ∧ s.WaitsFirst x c i t ∧
      t.ppu = s.ppu ∧ t.pgu = s.pgu ∧ (t.fse.channels[c]).page = none ∧ c ∈ t.fse.placeWaiters := by
  obtain ⟨-, hppu, hpgu, -⟩ := State.first_same s x c i
  obtain ⟨-, hpage⟩ := State.first_holds s x c i
  refine ⟨(Ev.first s x c i).s.onFse (fun f => f.waitPlace c), ?_,
    (State.first_waits (by rw [hk]; rfl) x c).onFse rfl rfl, hppu, hpgu, hpage, Fse.mem_waitPlace ..⟩
  rw [exec_start_first hc hi hmay, Ev.beginKind_call hk, Ev.askPage_full hsub (by rw [hpgu]; exact hfull)]
  exact concluded_quiet x 0x12 _ _ rfl

/-- START on a CALL with WAIT-ACK: the channel waits with its page (R26). -/
theorem exec_start_call_waits {sub : Submission} (hc : chan.toNat = c.val) (hi : first.toNat = i.val) (hmay : s.MayStart c i)
    (hk : (s.fse.steps[i]).kind = .call) (hsub : submissionOf (s.fse.steps[i]).page = some sub)
    (hroom : s.pgu.queue.length < 48) (hquiet : s.pgu.linkUp = false ∨ s.pgu.inFlight.isSome = true)
    (hack : (s.fse.steps[i]).flags.waitAck = true) :
    ∃ t, exec (.start x chan first) s = .next (t.setAnswer x ⟨0x12, ⟨.accepted, []⟩⟩) ∧ s.WaitsFirst x c i t ∧
      t.ppu = s.ppu ∧ t.pgu = s.pgu.enter (s.pgu.newPage sub (.channel c) (some x) .channel s.clock) ∧
      (t.fse.channels[c]).page = some s.pgu.comingNumber := by
  obtain ⟨-, hppu, hpgu, -⟩ := State.first_same s x c i
  have hw := State.first_waits (i := i) (by rw [hk]; rfl) x c
  have hexec := exec_start_first hc hi hmay x
  rw [Ev.beginKind_call hk, Ev.askPage_room hsub (by rw [hpgu]; exact hroom), if_pos hack, Ev.submit_quiet (by
    rw [Ev.on_s, State.onChan_pgu, hpgu]; exact hquiet), hw.atFirst.owner, hpgu] at hexec
  have ht := (hw.holds (f := fun ch => { ch with page := some s.pgu.comingNumber }) ⟨_, _, rfl⟩).setPgu
    (s.pgu.enter (s.pgu.newPage sub (.channel c) (some x) .channel s.clock))
  refine ⟨_, ?_, ht, hppu, rfl, congrArg ChanRec.page (State.setChan_get ..)⟩
  refine hexec.trans ((concluded_quiet x 0x12 _ _ rfl).trans ?_)
  rw [Ev.on_s, Ev.on_s, State.onChan_pgu, State.onChan_clock, hpgu, hw.atFirst.clock]

/-- START on a CALL without WAIT-ACK: the chain goes on (R26). -/
theorem exec_start_call_onward {sub : Submission} {j : StepIx} (hc : chan.toNat = c.val) (hi : first.toNat = i.val)
    (hmay : s.MayStart c i) (hk : (s.fse.steps[i]).kind = .call) (hsub : submissionOf (s.fse.steps[i]).page = some sub)
    (hroom : s.pgu.queue.length < 48) (hquiet : s.pgu.linkUp = false ∨ s.pgu.inFlight.isSome = true)
    (hack : (s.fse.steps[i]).flags.waitAck = false) (hj : (s.fse.steps[i]).next i = some j) (hji : j ≠ i)
    (hawait : s.Awaits c j) :
    ∃ u t, exec (.start x chan first) s = .next (t.setAnswer x ⟨0x12, ⟨.accepted, []⟩⟩) ∧ s.WentOn u x c i j .normal t ∧
      u.ppu = s.ppu ∧ u.pgu = s.pgu.enter (s.pgu.newPage sub (.channel c) (some x) .station s.clock) ∧
      (u.fse.channels[c]).page = none := by
  obtain ⟨-, hppu, hpgu, -⟩ := State.first_same s x c i
  obtain ⟨-, hpage⟩ := State.first_holds s x c i
  obtain ⟨-, -, -, -, -, hengine, -⟩ := id hmay
  have hw := State.first_waits (i := i) (by rw [hk]; rfl) x c
  have hf := hw.setPgu (s.pgu.enter (s.pgu.newPage sub (.channel c) (some x) .station s.clock))
  obtain ⟨ht, hdrain⟩ := Ev.endStep_first_onward (e := (Ev.first s x c i).on fun t =>
      t.setPgu (s.pgu.enter (s.pgu.newPage sub (.channel c) (some x) .station s.clock)))
    hf.atFirst (goesOn_normal (by rw [hk]; decide)) (by decide) hengine hj hji hawait (Ev.first_begun s x hji)
  refine ⟨_, _, ?_, ht, hppu, rfl, hpage⟩
  have hsubmit : (Ev.first s x c i).on (fun t => t.setPgu (t.pgu.enter (t.pgu.newPage sub (.channel c) (some x) .station t.clock))) =
      (Ev.first s x c i).on fun t => t.setPgu (s.pgu.enter (s.pgu.newPage sub (.channel c) (some x) .station s.clock)) := by
    refine congrArg (fun g : Pgu => (Ev.first s x c i).on fun t => t.setPgu g) ?_
    rw [hpgu, hw.atFirst.clock]
  rw [exec_start_first hc hi hmay, Ev.beginKind_call hk, Ev.askPage_room hsub (by rw [hpgu]; exact hroom),
    if_neg (by rw [hack]; decide), Ev.submit_quiet (by rw [hpgu]; exact hquiet), hw.atFirst.owner, hsubmit,
    Ev.endByKind_now List.not_mem_nil]
  exact concluded_onward hdrain rfl ..

end StartOnWaitPlatesOrCall

/-- What has gone on from the first record, with the answer of START. -/
theorem State.WentOn.answered {s u t : State} {x : Station} {c : Chan} {i j : StepIx} {o : StepOutcome}
    (h : s.WentOn u x c i j o t) (a : Answer) :
    (s.KeepsBeside (t.setAnswer x a) c ∧ ((t.setAnswer x a).fse.channels[c]).owner = some x ∧
      ((t.setAnswer x a).sp.ports[x]).answer = some a) ∧ s.Begun (t.setAnswer x a) c j ∧
    (t.setAnswer x a).fse.steps = (s.fse.steps.set i { s.fse.steps[i] with
      owner := if (s.fse.steps[i]).flags.retain then .engine else .station
      claim := none, completion := s.finished c o }).set j { s.fse.steps[j] with claim := some c } :=
  ⟨⟨h.beside.trans (State.setAnswer_beside ..), h.owner, State.setAnswer_get ..⟩, h.begun, h.steps⟩

/-- Settles O6. -/
theorem waitPlatesAndCallRules : Obligations.WaitPlatesAndCallRules := by
  intro x chan first s c i hc hi hmay r accepted waits onward
  refine ⟨fun k hk hkind hcap => ⟨fun hfull => ?_, fun n hfree hage hold => ?_⟩, fun sub hk hsub => ?_⟩
  · obtain ⟨t, hexec, ht, hppu, hpgu, hres, hmem⟩ := exec_start_waitPlates_full hc hi hmay hk hkind hcap hfull
    exact ⟨_, hexec, ht.answered _, hppu, hpgu, hres, hmem⟩
  · refine ⟨fun hlow => ?_, fun hcover j hj hji hawait => ?_⟩
    · obtain ⟨t, hexec, ht, hppu, hpgu, hres⟩ :=
        exec_start_waitPlates_waiting hc hi hmay hk hkind hcap hfree hage hold hlow
      exact ⟨_, hexec, ht.answered _, hppu, hpgu, hres⟩
    · obtain ⟨u, t, hexec, ht, hppu, hpgu, hres⟩ :=
        exec_start_waitPlates_ready hc hi hmay hk hkind hcap hfree hage hold hcover hj hji hawait
      exact ⟨_, hexec, ht.answered _, ht.ppu.trans hppu, ht.pgu.trans hpgu, ht.reservation.trans hres⟩
  · refine ⟨fun hfull => ?_, fun hroom hquiet => ⟨fun hack => ?_, fun hack j hj hji hawait => ?_⟩⟩
    · obtain ⟨t, hexec, ht, hppu, hpgu, hpage, hmem⟩ := exec_start_call_full hc hi hmay hk hsub hfull
      exact ⟨_, hexec, ht.answered _, hppu, hpgu, hpage, hmem⟩
    · obtain ⟨t, hexec, ht, hppu, hpgu, hpage⟩ := exec_start_call_waits hc hi hmay hk hsub hroom hquiet hack
      exact ⟨_, hexec, ht.answered _, hppu, hpgu, hpage⟩
    · obtain ⟨u, t, hexec, ht, hppu, hpgu, hpage⟩ :=
        exec_start_call_onward hc hi hmay hk hsub hroom hquiet hack hj hji hawait
      exact ⟨_, hexec, ht.answered _, ht.ppu.trans hppu, ht.pgu.trans hpgu, ht.page.trans hpage⟩

end Sys2Proof.Machine
end

section
/-! PROOFS. The step timer (R19, R20, R22, R24 to R26). -/

namespace Sys2Proof.Machine

open Sys2Proof

/-! ### An expiry (R20, R22) -/

/-- The channel record with STEP ELAPSED risen (R20). -/
def ChanRec.ticked (ch : ChanRec) : ChanRec :=
  { ch with elapsed := min 65535 (ch.elapsed + 1), repeated := false, delayedEnd := none }

/-- COUNTED after an expiry: a SOAK counts a second within its band (R22). -/
def State.countedNext (s : State) (c : Chan) (r : StepRec) : Nat :=
  if r.kind = .soak ∧ (s.hlu.probes[cavityProbe c]).settled = true ∧
      r.setpoint - r.band ≤ (s.hlu.probes[cavityProbe c]).reading ∧
      (s.hlu.probes[cavityProbe c]).reading ≤ r.setpoint + r.band then
    min 65535 ((s.fse.channels[c]).counted + 1)
  else (s.fse.channels[c]).counted

/-- The channel record with STEP ELAPSED risen and COUNTED judged (R20, R22). -/
def State.timedChan (s : State) (c : Chan) (r : StepRec) : ChanRec :=
  { (s.fse.channels[c]).ticked with counted := s.countedNext c r }

theorem State.countSoak_eq (c : Chan) (r : StepRec) (s : State) :
    s.countSoak c r = s.setChan c { s.fse.channels[c] with counted := s.countedNext c r } := by
  have hkeep : s = s.setChan c { s.fse.channels[c] with counted := (s.fse.channels[c]).counted } := (s.setChan_self c).symm
  unfold State.countSoak State.countedNext State.cavityNow ProbeRec.now
  by_cases hk : r.kind = .soak
  · cases hs : (s.hlu.probes[cavityProbe c]).settled with
    | false => simp only [hk, if_true, Bool.false_eq_true, if_false, false_and, and_false]; exact hkeep
    | true =>
      simp only [hk, if_true, true_and]
      split
      · rfl
      · exact hkeep
  · simp only [hk, if_false, false_and]
    exact hkeep

theorem Ev.timed_eq (c : Chan) (r : StepRec) (e : Ev) :
    (e.on (State.onChan c ChanRec.ticked)).on (State.countSoak c r) = e.on fun s => s.setChan c (s.timedChan c r) := by
  refine congrArg (fun t : State => Ev.mk t e.work e.begun e.again) ?_
  have hget : (e.s.onChan c ChanRec.ticked).fse.channels[c] = (e.s.fse.channels[c]).ticked := State.setChan_get ..
  have hcount : (e.s.onChan c ChanRec.ticked).countedNext c r = e.s.countedNext c r := by
    unfold State.countedNext
    rw [hget]
    rfl
  rw [Ev.on_s, State.countSoak_eq, hget, hcount]
  exact State.setChan_setChan ..

section Expiry

variable {c : Chan} {i : StepIx} {e : Ev}

theorem Ev.stepSecond_running (hrun : (e.s.fse.channels[c]).state = .run) (hcur : (e.s.fse.channels[c]).current = some i)
    (htimer : (e.s.fse.channels[c]).stepTimer = true) :
    e.stepSecond c =
      if (e.s.fse.channels[c]).repeated then
        if (e.s.fse.steps[i]).kind = .note then (e.on (State.onChan c ChanRec.ticked)).postNote c i e.s.fse.steps[i]
        else ((e.s.firstExpiry c e.s.fse.steps[i]).map fun o => (e.on (State.onChan c ChanRec.ticked)).endStep c o).getD
          ((e.on (State.onChan c ChanRec.ticked)).timeSteps c e.s.fse.steps[i])
      else (e.on (State.onChan c ChanRec.ticked)).timeSteps c e.s.fse.steps[i] := by
  unfold Ev.stepSecond
  simp only [State.running_eq hrun hcur, htimer, if_true]
  cases (e.s.firstExpiry c e.s.fse.steps[i]) <;> rfl

/-- Steps 1 and 2 of R20 on an expiry. -/
theorem Ev.timeSteps_ticked (r : StepRec) :
    (e.on (State.onChan c ChanRec.ticked)).timeSteps c r =
      if r.kind = .soak ∧ r.duration ≤ e.s.countedNext c r then
        (e.on fun s => s.setChan c (s.timedChan c r)).endStep c .normal
      else if r.limit ≠ 0 ∧ r.limit ≤ min 65535 ((e.s.fse.channels[c]).elapsed + 1) ∧ r.kind ≠ .note ∧ r.kind ≠ .finish then
        (e.on fun s => s.setChan c (s.timedChan c r)).timeout c r
      else e.on fun s => s.setChan c (s.timedChan c r) := by
  have hget : ((e.on fun s => s.setChan c (s.timedChan c r)).s.fse.channels[c]) = e.s.timedChan c r := State.setChan_get ..
  have hk : r.kind.carriesSetpoint = true ↔ r.kind ≠ .note ∧ r.kind ≠ .finish := by
    rw [← StepKind.timed_eq, Bool.and_eq_true, decide_eq_true_iff, decide_eq_true_iff]
  unfold Ev.timeSteps
  simp only [Ev.timed_eq, hget, hk]
  rfl

/-- An expiry of a record that was not begun again within its event. -/
theorem Ev.stepSecond_ordinary (hrun : (e.s.fse.channels[c]).state = .run) (hcur : (e.s.fse.channels[c]).current = some i)
    (htimer : (e.s.fse.channels[c]).stepTimer = true) (hrep : (e.s.fse.channels[c]).repeated = false) :
    e.stepSecond c = (e.on (State.onChan c ChanRec.ticked)).timeSteps c e.s.fse.steps[i] := by
  rw [Ev.stepSecond_running hrun hcur htimer, hrep]
  rfl

/-- The first expiry of a record begun again within its event, where its kind's rule kept or finds an end (R19). -/
theorem Ev.stepSecond_owed (hrun : (e.s.fse.channels[c]).state = .run) (hcur : (e.s.fse.channels[c]).current = some i)
    (htimer : (e.s.fse.channels[c]).stepTimer = true) (hrep : (e.s.fse.channels[c]).repeated = true)
    (hk : (e.s.fse.steps[i]).kind ≠ .note) {o : StepOutcome} (ho : e.s.firstExpiry c e.s.fse.steps[i] = some o) :
    e.stepSecond c = (e.on (State.onChan c ChanRec.ticked)).endStep c o := by
  rw [Ev.stepSecond_running hrun hcur htimer, hrep, ho, if_pos rfl, if_neg hk]
  rfl

/-- The first expiry of a record begun again within its event that makes no end is as any other. -/
theorem Ev.stepSecond_unowed (hrun : (e.s.fse.channels[c]).state = .run) (hcur : (e.s.fse.channels[c]).current = some i)
    (htimer : (e.s.fse.channels[c]).stepTimer = true) (hrep : (e.s.fse.channels[c]).repeated = true)
    (hk : (e.s.fse.steps[i]).kind ≠ .note) (ho : e.s.firstExpiry c e.s.fse.steps[i] = none) :
    e.stepSecond c = (e.on (State.onChan c ChanRec.ticked)).timeSteps c e.s.fse.steps[i] := by
  rw [Ev.stepSecond_running hrun hcur htimer, hrep, ho, if_pos rfl, if_neg hk]
  rfl

theorem Ev.stepSecond_note (hrun : (e.s.fse.channels[c]).state = .run) (hcur : (e.s.fse.channels[c]).current = some i)
    (htimer : (e.s.fse.channels[c]).stepTimer = true) (hrep : (e.s.fse.channels[c]).repeated = true)
    (hk : (e.s.fse.steps[i]).kind = .note) :
    e.stepSecond c = (e.on (State.onChan c ChanRec.ticked)).postNote c i e.s.fse.steps[i] := by
  rw [Ev.stepSecond_running hrun hcur htimer, hrep, if_pos rfl, if_pos hk]

/-- A channel whose step timer does not run passes an expiry over. -/
theorem Ev.stepSecond_idle (h : (e.s.fse.channels[c]).state ≠ .run ∨ (e.s.fse.channels[c]).stepTimer = false) :
    e.stepSecond c = e := by
  unfold Ev.stepSecond
  rcases h with h | h
  · simp only [State.running_none (.inl h)]
  · cases e.s.running c with
    | none => rfl
    | some p => simp only [h]; rfl

end Expiry

/-! ### What a step gives back at LIMIT (R24 to R26) -/

theorem Ev.timeout_reading {r : StepRec} (hk : r.kind = .heat ∨ r.kind = .soak ∨ r.kind = .core) (c : Chan) (e : Ev) :
    e.timeout c r = e.endStep c .timeout := by
  unfold Ev.timeout
  rcases hk with hk | hk | hk <;> simp only [hk]

theorem Ev.timeout_waitPlates {r : StepRec} (hk : r.kind = .waitPlates) (c : Chan) (e : Ev) :
    e.timeout c r = ((e.cancelHeld c).on (State.onFse (fun f => f.leaveEntry c))).endStep c .timeout := by
  unfold Ev.timeout; simp only [hk]

theorem Ev.timeout_drawPlates {r : StepRec} (hk : r.kind = .drawPlates) (c : Chan) (e : Ev) :
    e.timeout c r = (e.closeHeld c).endStep c .timeout := by
  unfold Ev.timeout; simp only [hk]

theorem Ev.timeout_call {r : StepRec} (hk : r.kind = .call) (c : Chan) (e : Ev) :
    e.timeout c r = ((e.on (State.onFse (fun f => f.leavePlace c))).releaseHeld c).endStep c .timeout := by
  unfold Ev.timeout; simp only [hk]

theorem Ppu.named_eq_some {p : Ppu} {n : ResIx} {a : Nat} {q : ResRec} :
    p.named n a = some q ↔ p.entries[n] = some q ∧ q.creation = a := by
  unfold Ppu.named
  cases p.entries[n] with
  | none => simp
  | some r =>
    by_cases ha : r.creation = a
    · simp only [ha, if_true, Option.some.injEq]
      exact ⟨fun h => ⟨h, h ▸ ha⟩, fun h => h.1⟩
    · simp only [ha, if_false, Option.some.injEq]
      exact ⟨fun h => (by cases h), fun h => absurd (h.1 ▸ h.2) ha⟩

/-- The end of an entry whose owner asked for it (R120, R121). -/
def Ev.entryGone (n : ResIx) (k : Kind) (e : Ev) : Ev :=
  ((e.on fun s => { s with ppu := s.ppu.freed n }).evaluate k).hand .entryFree

theorem Ev.finishEntry_untold (n : ResIx) (q : ResRec) (o : ResEnd) (e : Ev) :
    e.finishEntry n q o false = e.entryGone n q.kind := rfl

theorem Ev.cancelHeld_live {c : Chan} {n : ResIx} {a : Nat} {q : ResRec} {e : Ev}
    (hres : (e.s.fse.channels[c]).reservation = some (n, a)) (hq : e.s.ppu.named n a = some q) :
    e.cancelHeld c = (e.on (State.onChan c fun ch => { ch with reservation := none })).entryGone n q.kind := by
  unfold Ev.cancelHeld Ev.cancelEntry
  simp only [hres, Ev.on_s, State.onChan_ppu, hq, Ev.finishEntry_untold]

theorem Ev.closeHeld_live {c : Chan} {n : ResIx} {a : Nat} {q : ResRec} {e : Ev}
    (hres : (e.s.fse.channels[c]).reservation = some (n, a)) (hq : e.s.ppu.named n a = some q) :
    e.closeHeld c = (e.on (State.onChan c fun ch => { ch with reservation := none })).entryGone n q.kind := by
  unfold Ev.closeHeld Ev.closeEntry
  simp only [hres, Ev.on_s, State.onChan_ppu, hq, Ev.finishEntry_untold]

/-- A channel that holds no live entry gives none back. -/
theorem Ev.held_gone {c : Chan} {e : Ev}
    (h : ∀ n a, (e.s.fse.channels[c]).reservation = some (n, a) → e.s.ppu.named n a = none) :
    e.cancelHeld c = e.on (State.onChan c fun ch => { ch with reservation := none }) ∧
      e.closeHeld c = e.on (State.onChan c fun ch => { ch with reservation := none }) := by
  cases hres : (e.s.fse.channels[c]).reservation with
  | none =>
    have hself := Ev.on_self _ e (State.onChan_self (f := fun ch => { ch with reservation := none })
      (ChanRec.reservation_free hres))
    rw [Ev.cancelHeld_free hres, Ev.closeHeld_free hres, hself]
    exact ⟨rfl, rfl⟩
  | some p =>
    obtain ⟨n, a⟩ := p
    have hnone := h n a hres
    unfold Ev.cancelHeld Ev.closeHeld Ev.cancelEntry Ev.closeEntry
    simp only [hres, Ev.on_s, State.onChan_ppu, hnone, and_self]

theorem Ev.on_setChan_onChan (c : Chan) (ch : ChanRec) (f : ChanRec → ChanRec) (e : Ev) :
    (e.on fun s => s.setChan c ch).on (State.onChan c f) = e.on fun s => s.setChan c (f ch) := by
  refine congrArg (fun t : State => Ev.mk t e.work e.begun e.again) ?_
  show (e.s.setChan c ch).setChan c (f (e.s.setChan c ch).fse.channels[c]) = _
  rw [State.setChan_get, State.setChan_setChan]

/-! What the channel's page becomes when it is given back (R26, R172). -/

theorem Ev.releasePage_cancelled {c : Chan} {p : PageRec} {e : Ev}
    (hfind : e.s.pgu.find p.number = some p) (ho : p.originator = .channel c) (hr : p.reportTo = .channel)
    (hs : p.state ≠ .sent) :
    e.releasePage c p.number = (e.on fun s => s.setPgu (s.pgu.leftBy p.number)).hand .placeFree := by
  unfold Ev.releasePage
  simp only [hfind, ho, hr, hs, and_self, if_true, if_false]
  rfl

theorem Ev.releasePage_detached {c : Chan} {p : PageRec} {e : Ev}
    (hfind : e.s.pgu.find p.number = some p) (ho : p.originator = .channel c) (hr : p.reportTo = .channel)
    (hs : p.state = .sent) :
    e.releasePage c p.number =
      e.on fun s => s.setPgu (s.pgu.change p.number fun q => { q with reportTo := .station }) := by
  unfold Ev.releasePage
  simp only [hfind, ho, hr, hs, and_self, if_true]

theorem Ev.releasePage_foreign {c : Chan} {n : Nat} {e : Ev}
    (h : ∀ p ∈ e.s.pgu.queue, p.number = n → ¬ (p.originator = .channel c ∧ p.reportTo = .channel)) :
    e.releasePage c n = e := by
  unfold Ev.releasePage
  cases hfind : e.s.pgu.find n with
  | none => rfl
  | some p =>
    have hnum : p.number = n := by
      have := List.find?_some hfind
      exact of_decide_eq_true this
    simp only [if_neg (h p (List.mem_of_find?_eq_some hfind) hnum)]

theorem Ev.releaseHeld_some {c : Chan} {n : Nat} {e : Ev} (h : (e.s.fse.channels[c]).page = some n) :
    e.releaseHeld c = (e.on (State.onChan c fun ch => { ch with page := none })).releasePage c n := by
  unfold Ev.releaseHeld
  simp only [h]

/-! ### The first expiry of a record begun again (R19) -/

theorem State.heldWaiting_iff (s : State) (c : Chan) :
    s.heldWaiting c = true ↔ ∃ (n : ResIx) (q : ResRec), (s.fse.channels[c]).reservation = some (n, q.creation) ∧
      s.ppu.entries[n] = some q ∧ q.state = .waiting := by
  unfold State.heldWaiting
  constructor
  · intro h
    cases hres : (s.fse.channels[c]).reservation with
    | none => simp only [hres] at h; cases h
    | some p =>
      obtain ⟨n, a⟩ := p
      simp only [hres] at h
      cases hq : s.ppu.named n a with
      | none => simp only [hq] at h; cases h
      | some q =>
        simp only [hq] at h
        obtain ⟨hentry, ha⟩ := Ppu.named_eq_some.mp hq
        exact ⟨n, q, by rw [ha], hentry, of_decide_eq_true h⟩
  · rintro ⟨n, q, hres, hentry, hst⟩
    simp only [hres, Ppu.named_eq_some.mpr ⟨hentry, rfl⟩]
    exact decide_eq_true hst

theorem State.firstExpiry_iff {s : State} {c : Chan} {r : StepRec} (o : StepOutcome) :
    s.firstExpiry c r = some o ↔
      ((r.kind = .heat ∨ r.kind = .soak ∨ r.kind = .core) ∧ s.readingEnd c r = some o) ∨
      ((r.kind = .drawPlates ∨ r.kind = .call ∨ r.kind = .finish ∨ (r.kind = .waitPlates ∧ ¬ s.heldWaiting c = true)) ∧
        (s.fse.channels[c]).delayedEnd = some o) := by
  unfold State.firstExpiry
  cases hk : r.kind
  case waitPlates => cases hw : s.heldWaiting c <;> simp
  all_goals simp

end Sys2Proof.Machine
end

section
/-! PROOFS. The statement on the step timer (R19, R20, R22, R24 to R26, R29, R33). -/

namespace Sys2Proof.Machine

open Sys2Proof

theorem exec_stepTimerExpiry (c : Chan) (s : State) :
    exec (.stepTimerExpiry c) s = happened ((Ev.start s).stepSecond c) := rfl

/-- The event once STEP ELAPSED has risen and COUNTED is judged (R20, R22). -/
def Ev.timed (e : Ev) (c : Chan) (r : StepRec) : Ev := e.on fun s => s.setChan c (s.timedChan c r)

theorem Ev.timed_channel (e : Ev) (c : Chan) (r : StepRec) : (e.timed c r).s.fse.channels[c] = e.s.timedChan c r :=
  State.setChan_get ..

/-- Whether a step is at its LIMIT (R20). -/
def ChanRec.AtLimit (ch : ChanRec) (r : StepRec) : Prop :=
  r.limit ≠ 0 ∧ r.limit ≤ min 65535 (ch.elapsed + 1) ∧ r.kind ≠ .note ∧ r.kind ≠ .finish

/-! ### An end that puts a channel which holds nothing into the fallback hold (R33) -/

/-- From `s` to `t` the chain of channel `c` has ended at record `i` with an outcome, into HOLD at the FALLBACK HOLD SETPOINT. -/
structure State.FellBack (s : State) (c : Chan) (i : StepIx) (o : StepOutcome) (t : State) : Prop where
  state : (t.fse.channels[c]).state = .hold
  holdSetpoint : (t.fse.channels[c]).holdSetpoint = (s.fse.channels[c]).fallback
  current : (t.fse.channels[c]).current = none
  owner : (t.fse.channels[c]).owner = (s.fse.channels[c]).owner
  record : t.fse.steps[i] = { s.fse.steps[i] with
    completion := (s.fse.channels[c]).completion s.fse.steps[i] o s.clock c, claim := none, owner := .station }
  setpoint : (t.hlu.loads[ovenLoad c]).setpoint = (s.fse.channels[c]).fallback
  active : (t.hlu.loads[ovenLoad c]).active = true
  beside : s.KeepsBeside t c
  ppu : t.ppu = s.ppu
  pgu : t.pgu = s.pgu
  ports : t.sp.ports = s.sp.ports
  queues : ∀ y : Station, (s.fse.channels[c]).owner = some y →
    (s.sp.queues[y]).notices.length + (s.doneNotices c i o).length < 16 →
    t.sp.queues = s.sp.queues.set y { s.sp.queues[y] with
      notices := (s.sp.queues[y]).notices ++ s.doneNotices c i o ++ [s.endedNotice c i o .hold] }
  lastEnding : ∀ y : Station, (s.fse.channels[c]).owner = some y →
    (s.sp.queues[y]).notices.length + (s.doneNotices c i o).length < 16 →
    (t.fse.channels[c]).lastEnding = some { channel := c, lastStep := i, outcome := o, entered := .hold, endedAt := s.clock
                                            superseded := false, owedTo := y }

theorem Ev.endStep_fallsBack {c : Chan} {i : StepIx} {o : StepOutcome} {e : Ev}
    (hrun : (e.s.fse.channels[c]).state = .run) (hcur : (e.s.fse.channels[c]).current = some i)
    (hgo : (e.s.fse.steps[i]).goesOn o = false) (hn : o ≠ .normal) (hh : o ≠ .halted) (hf : o ≠ .fault)
    (hres : (e.s.fse.channels[c]).reservation = none) (hpage : (e.s.fse.channels[c]).page = none) :
    ∃ t, e.endStep c o = e.on (fun _ => t) ∧ e.s.FellBack c i o t := by
  obtain ⟨l, p, owner, stacked, last, hend, ⟨hset, hact, -⟩, hposted⟩ := Ev.endStep_ends_free hrun hcur hgo hres hpage
  have hby : (e.s.fse.steps[i]).endsByEnd o = false := StepRec.endsByEnd_of_ne hn
  rw [hby, ChanRec.closed_fallback _ hh hf] at hend hset hact hposted
  refine ⟨_, hend, ?_, ?_, ?_, ?_, ?_, ?_, ?_, State.afterChain_beside .., rfl, rfl, hposted.ports,
    fun y hy hroom => (hposted.room y hy hroom).1, fun y hy hroom => ?_⟩
  · rw [State.afterChain_channel]
  · rw [State.afterChain_channel]
  · rw [State.afterChain_channel]
  · rw [State.afterChain_channel]
    exact hposted.kept fun h => (by cases h)
  · refine (State.releaseWalk_spared _ _ _ _ _ (.inl ?_)).trans ((State.setStep_get ..).trans (StepRec.ended_of_ends hgo ..))
    rw [State.setStep_get, StepRec.ended_of_ends hgo]
  · rw [State.afterChain_load]; exact hset
  · rw [State.afterChain_load]; exact hact
  · obtain ⟨-, -, -, hlast⟩ := hposted.room y hy hroom
    rw [State.afterChain_channel]
    exact hlast

section Expiry

variable {c : Chan} {i : StepIx} {e : Ev}

theorem Ev.stepSecond_complete (hrun : (e.s.fse.channels[c]).state = .run) (hcur : (e.s.fse.channels[c]).current = some i)
    (htimer : (e.s.fse.channels[c]).stepTimer = true) (hrep : (e.s.fse.channels[c]).repeated = false)
    (h : (e.s.fse.steps[i]).kind = .soak ∧ (e.s.fse.steps[i]).duration ≤ e.s.countedNext c e.s.fse.steps[i]) :
    e.stepSecond c = (e.timed c e.s.fse.steps[i]).endStep c .normal := by
  rw [Ev.stepSecond_ordinary hrun hcur htimer hrep, Ev.timeSteps_ticked, if_pos h]
  rfl

theorem Ev.stepSecond_late (hrun : (e.s.fse.channels[c]).state = .run) (hcur : (e.s.fse.channels[c]).current = some i)
    (htimer : (e.s.fse.channels[c]).stepTimer = true) (hrep : (e.s.fse.channels[c]).repeated = false)
    (h : ¬ ((e.s.fse.steps[i]).kind = .soak ∧ (e.s.fse.steps[i]).duration ≤ e.s.countedNext c e.s.fse.steps[i]))
    (hl : (e.s.fse.channels[c]).AtLimit e.s.fse.steps[i]) :
    e.stepSecond c = (e.timed c e.s.fse.steps[i]).timeout c e.s.fse.steps[i] := by
  rw [Ev.stepSecond_ordinary hrun hcur htimer hrep, Ev.timeSteps_ticked, if_neg h]
  exact if_pos hl

theorem Ev.stepSecond_goesOn (hrun : (e.s.fse.channels[c]).state = .run) (hcur : (e.s.fse.channels[c]).current = some i)
    (htimer : (e.s.fse.channels[c]).stepTimer = true) (hrep : (e.s.fse.channels[c]).repeated = false)
    (h : ¬ ((e.s.fse.steps[i]).kind = .soak ∧ (e.s.fse.steps[i]).duration ≤ e.s.countedNext c e.s.fse.steps[i]))
    (hl : ¬ (e.s.fse.channels[c]).AtLimit e.s.fse.steps[i]) : e.stepSecond c = e.timed c e.s.fse.steps[i] := by
  rw [Ev.stepSecond_ordinary hrun hcur htimer hrep, Ev.timeSteps_ticked, if_neg h]
  exact if_neg hl

end Expiry

/-- COUNTED rises by one at most. -/
theorem State.countedNext_le (s : State) (c : Chan) (r : StepRec) : s.countedNext c r ≤ (s.fse.channels[c]).counted + 1 := by
  unfold State.countedNext
  split <;> omega

/-! What the step gives back, on the event of the expiry. -/

theorem Ev.timed_holds (e : Ev) (c : Chan) (r : StepRec) :
    ((e.timed c r).s.fse.channels[c]).reservation = (e.s.fse.channels[c]).reservation ∧
      ((e.timed c r).s.fse.channels[c]).page = (e.s.fse.channels[c]).page := by
  rw [Ev.timed_channel]
  exact ⟨rfl, rfl⟩

/-- The event of the expiry, the channel's reservation none. -/
def Ev.bared (e : Ev) (c : Chan) (r : StepRec) : Ev := e.on fun s => s.setChan c { s.timedChan c r with reservation := none }

theorem Ev.timed_bared (e : Ev) (c : Chan) (r : StepRec) :
    (e.timed c r).on (State.onChan c fun ch => { ch with reservation := none }) = e.bared c r :=
  Ev.on_setChan_onChan c (e.s.timedChan c r) (fun ch => { ch with reservation := none }) e

theorem Ev.timed_gives_live {e : Ev} {c : Chan} {n : ResIx} {a : Nat} {q : ResRec}
    (h : (e.s.fse.channels[c]).reservation = some (n, a) ∧ e.s.ppu.entries[n] = some q ∧ q.creation = a) (r : StepRec) :
    (e.timed c r).cancelHeld c = (e.bared c r).entryGone n q.kind ∧
      (e.timed c r).closeHeld c = (e.bared c r).entryGone n q.kind := by
  obtain ⟨hres, hq, ha⟩ := h
  have hres' : ((e.timed c r).s.fse.channels[c]).reservation = some (n, a) := (e.timed_holds c r).1.trans hres
  have hq' : (e.timed c r).s.ppu.named n a = some q := Ppu.named_eq_some.mpr ⟨hq, ha⟩
  rw [Ev.cancelHeld_live hres' hq', Ev.closeHeld_live hres' hq', Ev.timed_bared]
  exact ⟨rfl, rfl⟩

theorem Ev.timed_gives_none {e : Ev} {c : Chan}
    (h : ∀ (n : ResIx) (a : Nat) (q : ResRec),
      ¬ ((e.s.fse.channels[c]).reservation = some (n, a) ∧ e.s.ppu.entries[n] = some q ∧ q.creation = a)) (r : StepRec) :
    (e.timed c r).cancelHeld c = e.bared c r ∧ (e.timed c r).closeHeld c = e.bared c r := by
  have hgone : ∀ n a, ((e.timed c r).s.fse.channels[c]).reservation = some (n, a) →
      (e.timed c r).s.ppu.named n a = none := fun n a hres => by
    rw [(e.timed_holds c r).1] at hres
    cases hq : (e.timed c r).s.ppu.named n a with
    | none => rfl
    | some q => exact absurd ⟨hres, Ppu.named_eq_some.mp hq⟩ (h n a q)
  rw [← Ev.timed_bared]
  exact Ev.held_gone hgone

/-- The event of the expiry, the channel's page none and the channel in no waiting set for a place. -/
def Ev.pageless (e : Ev) (c : Chan) (r : StepRec) : Ev :=
  e.on fun s => { s.setChan c { s.timedChan c r with page := none } with fse :=
    { (s.setChan c { s.timedChan c r with page := none }).fse with
      placeWaiters := s.fse.placeWaiters.filter (fun d => decide (d ≠ c)) } }

theorem Ev.timed_pageless (e : Ev) (c : Chan) (r : StepRec) :
    (((e.timed c r).on (State.onFse fun f => f.leavePlace c)).on (State.onChan c fun ch => { ch with page := none })) =
      e.pageless c r :=
  congrArg (fun f : Ev => f.on (State.onFse fun f => f.leavePlace c))
    (Ev.on_setChan_onChan c (e.s.timedChan c r) (fun ch => { ch with page := none }) e)

theorem Ev.timed_releases {e : Ev} {c : Chan} {n : Nat} (h : (e.s.fse.channels[c]).page = some n) (r : StepRec) :
    ((e.timed c r).on (State.onFse fun f => f.leavePlace c)).releaseHeld c = (e.pageless c r).releasePage c n := by
  have hpage : (((e.timed c r).on (State.onFse fun f => f.leavePlace c)).s.fse.channels[c]).page = some n :=
    (e.timed_holds c r).2.trans h
  rw [Ev.releaseHeld_some hpage, Ev.timed_pageless]

theorem Ev.timed_releases_none {e : Ev} {c : Chan} (h : (e.s.fse.channels[c]).page = none) (r : StepRec) :
    ((e.timed c r).on (State.onFse fun f => f.leavePlace c)).releaseHeld c = e.pageless c r := by
  have hpage : (((e.timed c r).on (State.onFse fun f => f.leavePlace c)).s.fse.channels[c]).page = none :=
    (e.timed_holds c r).2.trans h
  rw [Ev.releaseHeld_free hpage, ← Ev.timed_pageless]
  exact (Ev.on_self _ _ (State.onChan_self (f := fun ch => { ch with page := none }) (ChanRec.page_free hpage))).symm

theorem State.firstExpiry_note {r : StepRec} (hk : r.kind = .note) (c : Chan) (s : State) : s.firstExpiry c r = none := by
  unfold State.firstExpiry; simp only [hk]

/-- A NOTE of an owned channel posts its notice to the owner and ends (R27). -/
theorem Ev.postNote_posts {c : Chan} {x : Station} {e : Ev} (h : (e.s.fse.channels[c]).owner = some x) (i : StepIx)
    (r : StepRec) :
    e.postNote c i r = (e.on (State.postNotice x
        { source := .channel, index := c.val, code := .stepNote, p1 := i.val, p2 := r.noteCode, p3 := 0
          time := e.s.clock })).endStep c
      (if (e.s.sp.queues[x]).notices.length < 16 then .normal else .notPosted) := by
  have hnotice : e.s.chanNotice c .stepNote i.val r.noteCode 0 =
      e.s.postNotice x (e.s.notice .channel c.val .stepNote i.val r.noteCode 0) := by
    unfold State.chanNotice
    simp only [h]
  have hcond : (if e.s.ownerRoom c then StepOutcome.normal else .notPosted) =
      if (e.s.sp.queues[x]).notices.length < 16 then .normal else .notPosted :=
    if_congr (State.ownerRoom_iff h) rfl rfl
  exact (congrArg (fun t : State => (Ev.mk t e.work e.begun e.again).endStep c _) hnotice).trans
    (congrArg (fun o => Ev.endStep c o _) hcond)

/-- Settles O10. -/
theorem stepTimerRule : Obligations.StepTimerRule := by
  refine ⟨fun s c i hrun hcur htimer hrep hdel hk hsoak hlimit => ?_,
    fun s c i hrun hcur htimer hrep hres hpage hk htol hlim0 hlim => ?_,
    fun s c => ⟨rfl, fun h => ?_⟩,
    fun c i e hrun hcur htimer => ?_⟩
  · have hnot : ¬ ((s.fse.steps[i]).kind = .soak ∧ (s.fse.steps[i]).duration ≤ s.countedNext c s.fse.steps[i]) := fun h => by
      have h1 := hsoak h.1
      have h2 := s.countedNext_le c s.fse.steps[i]
      omega
    have hearly : ¬ (s.fse.channels[c]).AtLimit s.fse.steps[i] := fun h => by
      obtain ⟨h0, hle, -⟩ := h
      omega
    rw [exec_stepTimerExpiry, Ev.stepSecond_goesOn (e := Ev.start s) hrun hcur htimer hrep hnot hearly,
      happened_quiet _ rfl]
    have hch : s.timedChan c s.fse.steps[i] = { s.fse.channels[c] with
        elapsed := min 65535 ((s.fse.channels[c]).elapsed + 1), counted := s.countedNext c s.fse.steps[i] } := by
      unfold State.timedChan ChanRec.ticked
      rw [← hrep, ← hdel]
    exact congrArg (fun ch => Host.Outcome.next (s.setChan c ch)) hch
  · have hsoak : ¬ ((s.fse.steps[i]).kind = .soak ∧ (s.fse.steps[i]).duration ≤ s.countedNext c s.fse.steps[i]) := fun h => by
      rw [hk] at h; cases h.1
    have hlate := Ev.stepSecond_late (e := Ev.start s) hrun hcur htimer hrep hsoak
      ⟨hlim0, hlim, by rw [Ev.start_s, hk]; decide, by rw [Ev.start_s, hk]; decide⟩
    rw [Ev.start_s, Ev.timeout_reading (.inl hk)] at hlate
    let e := (Ev.start s).timed c s.fse.steps[i]
    have hch : e.s.fse.channels[c] = s.timedChan c s.fse.steps[i] := Ev.timed_channel ..
    have hgo : (e.s.fse.steps[i]).goesOn .timeout = false := by
      have hkind : (e.s.fse.steps[i]).kind ≠ .finish := fun h => by
        have h' : (s.fse.steps[i]).kind = .finish := h
        rw [hk] at h'; cases h'
      unfold StepRec.goesOn
      rw [if_neg hkind]
      exact htol
    obtain ⟨t, hend, ht⟩ := Ev.endStep_fallsBack (e := e) (c := c) (i := i) (by rw [hch]; exact hrun) (by rw [hch]; exact hcur)
      hgo (by decide) (by decide) (by decide) (by rw [hch]; exact hres) (by rw [hch]; exact hpage)
    obtain ⟨hchan, -, hprobes, -, hpba, -, -, hdlu, hfm, hclock, hpins, hpending⟩ :=
      (State.setChan_beside c (s.timedChan c s.fse.steps[i]) s).trans ht.beside
    obtain ⟨hstate, hhold, hcurrent, howner, hrec, hset, hact, -, hppu, hpgu, -, -, -⟩ := ht
    rw [hch] at hhold howner hrec hset
    refine ⟨t, by rw [exec_stepTimerExpiry, hlate, hend]; exact happened_quiet _ rfl, ?_⟩
    rw [hrec]
    exact ⟨hstate, hhold, hcurrent, howner, rfl, rfl, rfl, rfl, rfl, hset, hact, hchan, hclock, hprobes, hpba, hppu,
      hdlu, hpgu, hfm, hpins, hpending⟩
  · rw [exec_stepTimerExpiry, Ev.stepSecond_idle (e := Ev.start s) h]
    exact happened_quiet _ rfl
  · intro ch r cavity ticked now timed complete late
    refine ⟨fun hrep => ⟨fun h => Ev.stepSecond_complete hrun hcur htimer hrep h,
      fun h hl => Ev.stepSecond_goesOn hrun hcur htimer hrep h hl, fun h hl => ?_⟩, fun hrep => ?_⟩
    · have hlate := Ev.stepSecond_late hrun hcur htimer hrep h hl
      intro bare ended quit lives
      refine ⟨fun hk => ?_, fun hk => ⟨fun n a q hq => ?_, fun hnone => ?_⟩, fun hk => ⟨fun n a q hq => ?_, fun hnone => ?_⟩,
        fun hk => ⟨fun p hp hfind ho hr => ⟨fun hs => ?_, fun hs => ?_⟩, fun hnone => ?_⟩⟩
      · rw [hlate, Ev.timeout_reading hk]
        rfl
      · rw [hlate, Ev.timeout_waitPlates hk, (Ev.timed_gives_live hq _).1]
        rfl
      · rw [hlate, Ev.timeout_waitPlates hk, (Ev.timed_gives_none hnone _).1]
        rfl
      · rw [hlate, Ev.timeout_drawPlates hk, (Ev.timed_gives_live hq _).2]
        rfl
      · rw [hlate, Ev.timeout_drawPlates hk, (Ev.timed_gives_none hnone _).2]
        rfl
      · rw [hlate, Ev.timeout_call hk, Ev.timed_releases hp,
          Ev.releasePage_cancelled (e := e.pageless c e.s.fse.steps[i]) hfind ho hr hs]
        rfl
      · rw [hlate, Ev.timeout_call hk, Ev.timed_releases hp,
          Ev.releasePage_detached (e := e.pageless c e.s.fse.steps[i]) hfind ho hr hs]
        rfl
      · rcases hnone with hnone | ⟨n, hn, hforeign⟩
        · rw [hlate, Ev.timeout_call hk, Ev.timed_releases_none hnone]
          rfl
        · rw [hlate, Ev.timeout_call hk, Ev.timed_releases hn,
            Ev.releasePage_foreign (e := e.pageless c e.s.fse.steps[i]) hforeign]
          rfl
    · intro first waits owes
      have howes : ∀ o, e.s.firstExpiry c e.s.fse.steps[i] = some o ↔ owes o := fun o => by
        rw [State.firstExpiry_iff, State.heldWaiting_iff]
      refine ⟨fun o ho => ?_, fun hk hno => ?_, fun hk x hx => ?_⟩
      · have hexp := (howes o).mpr ho
        have hk : (e.s.fse.steps[i]).kind ≠ .note := fun hk => by
          rw [State.firstExpiry_note hk] at hexp
          cases hexp
        exact Ev.stepSecond_owed hrun hcur htimer hrep hk hexp
      · have hexp : e.s.firstExpiry c e.s.fse.steps[i] = none :=
          Option.eq_none_iff_forall_ne_some.mpr fun o ho => hno o ((howes o).mp ho)
        let e' := e.on fun s => s.setChan c { ch with repeated := false }
        have hget : e'.s.fse.channels[c] = { ch with repeated := false } := State.setChan_get ..
        have htick : e'.on (State.onChan c ChanRec.ticked) = e.on (State.onChan c ChanRec.ticked) :=
          Ev.on_setChan_onChan c { ch with repeated := false } ChanRec.ticked e
        rw [Ev.stepSecond_unowed hrun hcur htimer hrep hk hexp, Ev.stepSecond_ordinary (e := e') (i := i) (by rw [hget]; exact hrun)
          (by rw [hget]; exact hcur) (by rw [hget]; exact htimer) (by rw [hget]), htick]
        rfl
      · rw [Ev.stepSecond_note hrun hcur htimer hrep hk]
        exact Ev.postNote_posts (e := first) ((congrArg ChanRec.owner (State.setChan_get ..)).trans hx) i r

end Sys2Proof.Machine
end

section
/-! PROOFS. The end of a step and what follows it; readings and reports (R21 to R26, R29 to R36). -/

namespace Sys2Proof.Machine

open Sys2Proof

/-! ### Which outcomes let a chain go on (R29) -/

theorem StepRec.goesOn_iff (r : StepRec) (o : StepOutcome) :
    r.goesOn o = true ↔ r.kind ≠ .finish ∧ (o = .normal ∨ o = .early ∨ o = .notPosted ∨
      (r.flags.tolerate = true ∧ (o = .timeout ∨ o = .unanswered ∨ o = .short ∨ o = .noReservation))) := by
  unfold StepRec.goesOn
  by_cases hk : r.kind = .finish
  · simp [hk]
  · cases o <;> simp [hk]

/-! ### The end of a chain, whatever the channel holds (R33 to R36) -/

theorem ChanRec.closed_state (ch : ChanRec) (r : StepRec) (o : StepOutcome) :
    (ch.closed o (r.endsByEnd o) r.holdSetpoint).state =
      (if r.kind = .finish ∧ o = .normal then if r.holdSetpoint.isSome then .hold else .idle
       else if o = .halted then .idle else if o = .fault then .stopped else .hold) ∧
    (ch.closed o (r.endsByEnd o) r.holdSetpoint).holdSetpoint =
      (if r.kind = .finish ∧ o = .normal then r.holdSetpoint.getD ch.holdSetpoint
       else if o = .halted ∨ o = .fault then ch.holdSetpoint else ch.fallback) := by
  unfold ChanRec.closed ChanRec.entering StepRec.endsByEnd
  by_cases hend : r.kind = .finish ∧ o = .normal
  · cases r.holdSetpoint <;> simp [hend]
  · by_cases hh : o = .halted
    · simp [hh]
    · by_cases hf : o = .fault
      · simp [hf]
      · simp [hend, hh, hf]

/-- The end of a step that ends its chain, in the engine's records: the record is returned, the channel closed with nothing
held, and its ending kept. -/
theorem Ev.endStep_ends_engine {c : Chan} {i : StepIx} {o : StepOutcome} {e : Ev}
    (hrun : (e.s.fse.channels[c]).state = .run) (hcur : (e.s.fse.channels[c]).current = some i)
    (hgo : (e.s.fse.steps[i]).goesOn o = false) :
    let ch := e.s.fse.channels[c]
    let r := e.s.fse.steps[i]
    let t := e.endStep c o
    t.s.fse.steps[i] = { r with completion := ch.completion r o e.s.clock c, claim := none, owner := .station } ∧
    (∃ (owner : Option Station) (stacked last : Option Ending),
      t.s.fse.channels[c] = { ch.closed o (r.endsByEnd o) r.holdSetpoint with
        reservation := none, page := none, owner := owner, stacked := stacked, lastEnding := last }) ∧
    (t.s.hlu.loads[ovenLoad c]).Takes (ch.closed o (r.endsByEnd o) r.holdSetpoint) e.s.hlu.loads[ovenLoad c] ∧
    (∀ (d : Chan) (j : Option StepIx), Report.moveOn d j ∈ t.work → Report.moveOn d j ∈ e.work) ∧
    c ∉ t.s.fse.entryWaiters ∧ c ∉ t.s.fse.placeWaiters ∧
    ∀ x : Station, ch.owner = some x → ∃ n, (t.s.fse.channels[c]).lastEnding = some n ∧ n.lastStep = i ∧ n.outcome = o ∧
      n.entered = (t.s.fse.channels[c]).state ∧ n.owedTo = x := by
  intro ch r t
  obtain ⟨p, hclose, -⟩ := State.closeStep_writes c i o e.s
  let u : State := { (e.s.setStep i (r.ended ch o e.s.clock c)).setChan c ch.rested with sp := p }
  have hu : u.fse.channels[c] = ch.rested := State.setChan_get ..
  have hui : u.fse.steps[i] = { r with completion := ch.completion r o e.s.clock c, claim := none, owner := .station } :=
    (State.setStep_get ..).trans (StepRec.ended_of_ends hgo ..)
  have ht : t = (e.on fun _ => u).endChain c o (r.endsByEnd o) r.holdSetpoint ch.prefetched := by
    refine (Ev.endStep_ends hrun hcur hgo).trans ?_
    exact congrArg (fun s : State => (Ev.mk s e.work e.begun e.again).endChain c o (r.endsByEnd o) r.holdSetpoint
      ch.prefetched) hclose
  obtain ⟨owner, stacked, last, l, hfse, hlast, hhlu, htakes, -, hmoves⟩ := Ev.endChain_engine c o (r.endsByEnd o) r.holdSetpoint
    ch.prefetched (e.on fun _ => u)
  rw [← ht] at hfse hhlu hmoves
  rw [Ev.on_s, hu, ChanRec.rested_closed] at hfse hlast htakes
  have hch : t.s.fse.channels[c] = { ch.closed o (r.endsByEnd o) r.holdSetpoint with
      reservation := none, page := none, owner := owner, stacked := stacked, lastEnding := last } := by
    rw [hfse]; exact get_set_same ..
  refine ⟨?_, ⟨owner, stacked, last, hch⟩, ?_, hmoves, ?_, ?_, fun x hx => ?_⟩
  · have hsteps : t.s.fse.steps = u.walked c (r.endsByEnd o) ch.prefetched := by rw [hfse]
    rw [hsteps, ← hui]
    unfold State.walked
    split
    · rfl
    · exact State.releaseWalk_spared _ _ _ _ _ (.inl (by rw [hui]))
  · have hl : t.s.hlu.loads[ovenLoad c] = l := (congrArg (fun h : Hlu => h.loads[ovenLoad c]) hhlu).trans (get_set_same ..)
    rw [hl]
    exact htakes
  · rw [hfse]
    exact fun h => of_decide_eq_true (List.mem_filter.mp h).2 rfl
  · rw [hfse]
    exact fun h => of_decide_eq_true (List.mem_filter.mp h).2 rfl
  · obtain ⟨n, hn, hstep, hout, hent, howed⟩ := hlast x i hx hcur
    rw [hch]
    exact ⟨n, hn, hstep, hout, hent, howed⟩

/-- A chain that ends without END, HALT or fault leaves its channel in the fallback hold, its ending kept (R32, R33, R36). -/
theorem Ev.endChain_fallback (c : Chan) {o : StepOutcome} (hh : o ≠ .halted) (hf : o ≠ .fault) (w : Option StepIx) (e : Ev) :
    ((e.endChain c o false none w).s.fse.channels[c]).state = .hold ∧
    ((e.endChain c o false none w).s.fse.channels[c]).holdSetpoint = (e.s.fse.channels[c]).fallback ∧
    ∀ (x : Station) (i : StepIx), (e.s.fse.channels[c]).owner = some x → (e.s.fse.channels[c]).current = some i →
      ∃ n, ((e.endChain c o false none w).s.fse.channels[c]).lastEnding = some n ∧ n.lastStep = i ∧ n.outcome = o ∧
        n.entered = .hold := by
  obtain ⟨owner, stacked, last, l, hfse, hlast, -⟩ := Ev.endChain_engine c o false none w e
  rw [ChanRec.closed_fallback _ hh hf] at hfse hlast
  have hch : (e.endChain c o false none w).s.fse.channels[c] = _ := (congrArg (fun f : Fse => f.channels[c]) hfse).trans
    (get_set_same ..)
  rw [hch]
  refine ⟨rfl, rfl, fun x i hx hi => ?_⟩
  obtain ⟨n, hn, hstep, hout, hent, -⟩ := hlast x i hx hi
  exact ⟨n, hn, hstep, hout, hent⟩

/-! ### Going on, and SKIP (R30, R31) -/

section GoingOn

variable {c : Chan} {i : StepIx} {e : Ev}

theorem StepRec.ended_of_goesOn {r : StepRec} {o : StepOutcome} (h : r.goesOn o = true) (ch : ChanRec) (now : Nat) (c : Chan) :
    r.ended ch o now c = { r with
      claim := none, completion := ch.completion r o now c, owner := if r.flags.retain then r.owner else .station } := by
  unfold StepRec.ended
  rw [h]
  rfl

/-- The step store after a step has ended. -/
theorem State.closeStep_steps (c : Chan) (i : StepIx) (o : StepOutcome) (s : State) :
    (s.closeStep c i o).fse.steps = s.fse.steps.set i ((s.fse.steps[i]).ended s.fse.channels[c] o s.clock c) ∧
      (s.closeStep c i o).fse.channels[c] = (s.fse.channels[c]).rested ∧ (s.closeStep c i o).clock = s.clock := by
  obtain ⟨p, hclose, -⟩ := State.closeStep_writes c i o s
  rw [hclose]
  exact ⟨rfl, State.setChan_get .., rfl⟩

/-- SKIP on a record that the chain may take: it is returned SKIPPED, or kept by RETAIN, and the chain goes on behind it. -/
theorem Ev.skipStep_taken {j : StepIx} {e : Ev} (ho : (e.s.fse.steps[j]).owner = .engine)
    (hc : (e.s.fse.steps[j]).claim = none) (c : Chan) :
    e.skipStep c (some j) = (e.on (State.setStep j { e.s.fse.steps[j] with
      completion := Completion.unrun .skipped e.s.clock c
      owner := if (e.s.fse.steps[j]).flags.retain then (e.s.fse.steps[j]).owner else .station })).handFirst
        (.moveOn c ((e.s.fse.steps[j]).next j)) := by
  have hne : ¬ (e.s.fse.steps[j]).owner ≠ .engine := fun hn => hn ho
  have hfree : ¬ (e.s.fse.steps[j]).claim.isSome = true := by rw [hc]; decide
  unfold Ev.skipStep
  simp only [hne, hfree, if_false]
  rfl

/-- SKIP on a record that the chain may not take ends it (R31, R32). -/
theorem Ev.skipStep_refused {j : StepIx} {e : Ev}
    (h : (e.s.fse.steps[j]).owner = .station ∨ (e.s.fse.steps[j]).claim ≠ none) (c : Chan) :
    e.skipStep c (some j) = e.endChain c (if (e.s.fse.steps[j]).owner = .station then .starved else .conflict) false none
      (some j) := by
  unfold Ev.skipStep
  cases ho : (e.s.fse.steps[j]).owner with
  | station => exact if_pos (by rw [ho]; decide)
  | engine =>
    have hclaim : (e.s.fse.steps[j]).claim.isSome = true :=
      Option.isSome_iff_ne_none.mpr (h.resolve_left fun hs => by rw [ho] at hs; cases hs)
    exact (if_neg fun hn => hn ho).trans (if_pos hclaim)

end GoingOn

/-- A channel that may not take its next record ends its chain (R32). -/
theorem Ev.moveOn_refused {j : StepIx} {e : Ev}
    (h : (e.s.fse.steps[j]).owner = .station ∨ (e.s.fse.steps[j]).claim ≠ none) (c : Chan) :
    e.moveOn c (some j) = e.endChain c (if (e.s.fse.steps[j]).owner = .station then .starved else .conflict) false none
      (some j) := by
  unfold Ev.moveOn
  cases ho : (e.s.fse.steps[j]).owner with
  | station => exact if_pos (by rw [ho]; decide)
  | engine =>
    have hclaim : (e.s.fse.steps[j]).claim.isSome = true :=
      Option.isSome_iff_ne_none.mpr (h.resolve_left fun hs => by rw [ho] at hs; cases hs)
    exact (if_neg fun hn => hn ho).trans (if_pos hclaim)

/-! ### Reports (R24 to R26, R124, R169) -/

section Reports

variable {c : Chan} {i : StepIx} {e : Ev}

theorem Ev.entryReady_taken (hrun : (e.s.fse.channels[c]).state = .run) (hcur : (e.s.fse.channels[c]).current = some i)
    (hag : c ∉ e.again) (n : ResIx) (a : Nat) :
    e.entryReady c n a =
      if (e.s.fse.steps[i]).kind = .waitPlates ∧ (e.s.fse.channels[c]).reservation = some (n, a) then e.endStep c .normal
      else e := by
  unfold Ev.entryReady
  simp only [State.running_eq hrun hcur, Ev.endByKind_now hag]

theorem Ev.entryEnded_taken (hrun : (e.s.fse.channels[c]).state = .run) (hcur : (e.s.fse.channels[c]).current = some i)
    (hag : c ∉ e.again) {n : ResIx} {a : Nat} (hres : (e.s.fse.channels[c]).reservation = some (n, a)) (short : Bool) :
    e.entryEnded c n a short =
      if (e.s.fse.steps[i]).kind = .drawPlates then
        (e.on fun s => s.setChan c { e.s.fse.channels[c] with reservation := none }).endStep c
          (if short then .short else .normal)
      else e.on fun s => s.setChan c { e.s.fse.channels[c] with reservation := none } := by
  let f := e.on fun s => s.setChan c { e.s.fse.channels[c] with reservation := none }
  have hget : f.s.fse.channels[c] = { e.s.fse.channels[c] with reservation := none } := State.setChan_get ..
  have hf : f.s.running c = some (i, e.s.fse.steps[i]) := State.running_eq (by rw [hget]; exact hrun) (by rw [hget]; exact hcur)
  have hon : e.on (State.onChan c fun ch => { ch with reservation := none }) = f := rfl
  unfold Ev.entryEnded
  simp only [hres, if_true, hon, hf, Ev.endByKind_now (e := f) hag]
  rfl

theorem Ev.pageEnded_taken (hrun : (e.s.fse.channels[c]).state = .run) (hcur : (e.s.fse.channels[c]).current = some i)
    (hag : c ∉ e.again) {n : Nat} (hpage : (e.s.fse.channels[c]).page = some n) (outcome : PageOutcome) :
    e.pageEnded c n outcome =
      if (e.s.fse.steps[i]).kind = .call then
        (e.on fun s => s.setChan c { e.s.fse.channels[c] with page := none }).endStep c
          (if outcome = .done then .normal else .unanswered)
      else e.on fun s => s.setChan c { e.s.fse.channels[c] with page := none } := by
  let f := e.on fun s => s.setChan c { e.s.fse.channels[c] with page := none }
  have hget : f.s.fse.channels[c] = { e.s.fse.channels[c] with page := none } := State.setChan_get ..
  have hf : f.s.running c = some (i, e.s.fse.steps[i]) := State.running_eq (by rw [hget]; exact hrun) (by rw [hget]; exact hcur)
  have hon : e.on (State.onChan c fun ch => { ch with page := none }) = f := rfl
  unfold Ev.pageEnded
  simp only [hpage, if_true, hon, hf, Ev.endByKind_now (e := f) hag]
  rfl

theorem Ev.entryEnded_passed {n : ResIx} {a : Nat} (h : (e.s.fse.channels[c]).reservation ≠ some (n, a)) (short : Bool) :
    e.entryEnded c n a short = e := by
  unfold Ev.entryEnded
  rw [if_neg h]

theorem Ev.pageEnded_passed {n : Nat} (h : (e.s.fse.channels[c]).page ≠ some n) (o : PageOutcome) : e.pageEnded c n o = e := by
  unfold Ev.pageEnded
  rw [if_neg h]

end Reports

/-! ### Readings (R21 to R23) -/

theorem ProbeRec.now_eq_some {p : ProbeRec} {v : Int} : p.now = some v ↔ p.settled = true ∧ p.reading = v := by
  unfold ProbeRec.now
  cases p.settled <;> simp

theorem State.readingEnd_heat {r : StepRec} (hk : r.kind = .heat) (s : State) (c : Chan) (o : StepOutcome) :
    s.readingEnd c r = some o ↔ o = .normal ∧ (s.hlu.probes[cavityProbe c]).settled = true ∧
      r.setpoint - r.band ≤ (s.hlu.probes[cavityProbe c]).reading := by
  unfold State.readingEnd State.cavityNow ProbeRec.now
  simp only [hk]
  cases (s.hlu.probes[cavityProbe c]).settled with
  | false => simp
  | true =>
    simp only [if_true, true_and]
    split
    next h => simp only [h, and_true, Option.some.injEq]; exact eq_comm
    next h => simp only [h, and_false, reduceCtorEq]

/-- The core probe's test: a settled core reading at or above CORE TARGET (R22, R23). -/
theorem State.coreTest_iff (s : State) (c : Chan) (r : StepRec) :
    (∃ v t, s.coreNow c = some v ∧ r.coreTarget = some t ∧ t ≤ v) ↔ (s.hlu.probes[coreProbe c]).settled = true ∧
      ∃ target : Int, r.coreTarget = some target ∧ target ≤ (s.hlu.probes[coreProbe c]).reading := by
  unfold State.coreNow
  constructor
  · rintro ⟨v, t, hv, ht, hle⟩
    obtain ⟨hs, hr⟩ := ProbeRec.now_eq_some.mp hv
    exact ⟨hs, t, ht, by rw [hr]; exact hle⟩
  · rintro ⟨hs, t, ht, hle⟩
    exact ⟨_, t, ProbeRec.now_eq_some.mpr ⟨hs, rfl⟩, ht, hle⟩

theorem State.readingEnd_core {r : StepRec} {o' : StepOutcome} (hk : (r.kind = .soak ∧ o' = .early) ∨ (r.kind = .core ∧ o' = .normal))
    (s : State) (c : Chan) (o : StepOutcome) :
    s.readingEnd c r = some o ↔ o = o' ∧ (s.hlu.probes[coreProbe c]).settled = true ∧
      ∃ target : Int, r.coreTarget = some target ∧ target ≤ (s.hlu.probes[coreProbe c]).reading := by
  rw [← State.coreTest_iff]
  unfold State.readingEnd
  rcases hk with ⟨hk, rfl⟩ | ⟨hk, rfl⟩ <;> simp only [hk]
  all_goals
    cases s.coreNow c with
    | none => cases r.coreTarget <;> simp
    | some v =>
      cases r.coreTarget with
      | none => simp
      | some t =>
        simp only [Option.some.injEq, exists_and_left, exists_eq_left']
        split
        next h => simp only [h, and_true, Option.some.injEq]; exact eq_comm
        next h => simp only [h, and_false, reduceCtorEq]

theorem State.readingEnd_none {r : StepRec} (hh : r.kind ≠ .heat) (hs : r.kind ≠ .soak) (hc : r.kind ≠ .core) (s : State)
    (c : Chan) : s.readingEnd c r = none := by
  unfold State.readingEnd
  cases hk : r.kind
  case heat => exact absurd hk hh
  case soak => exact absurd hk hs
  case core => exact absurd hk hc
  all_goals rfl

theorem State.readingEnd_iff (s : State) (c : Chan) (r : StepRec) (o : StepOutcome) :
    s.readingEnd c r = some o ↔
      (r.kind = .heat ∧ o = .normal ∧ (s.hlu.probes[cavityProbe c]).settled = true ∧
        r.setpoint - r.band ≤ (s.hlu.probes[cavityProbe c]).reading) ∨
      (((r.kind = .soak ∧ o = .early) ∨ (r.kind = .core ∧ o = .normal)) ∧ (s.hlu.probes[coreProbe c]).settled = true ∧
        ∃ target : Int, r.coreTarget = some target ∧ target ≤ (s.hlu.probes[coreProbe c]).reading) := by
  by_cases hh : r.kind = .heat
  · rw [State.readingEnd_heat hh]
    simp only [hh, true_and, reduceCtorEq, false_and, or_self, or_false]
  by_cases hs : r.kind = .soak
  · rw [State.readingEnd_core (.inl ⟨hs, rfl⟩)]
    simp only [hs, reduceCtorEq, false_and, true_and, or_false, false_or]
  by_cases hc : r.kind = .core
  · rw [State.readingEnd_core (.inr ⟨hc, rfl⟩)]
    simp only [hc, reduceCtorEq, false_and, true_and, false_or]
  rw [State.readingEnd_none hh hs hc]
  simp only [hh, hs, hc, false_and, or_self, reduceCtorEq]

/-- An end that a reading makes: kept for the first expiry of a record begun again within the event, else made at once. -/
theorem Ev.endByKind_eq (c : Chan) (o : StepOutcome) (e : Ev) :
    e.endByKind c o = if c ∈ e.again then
        e.on fun s => s.setChan c { s.fse.channels[c] with delayedEnd := some ((e.s.fse.channels[c]).delayedEnd.getD o) }
      else e.endStep c o := by
  by_cases h : c ∈ e.again
  · have hc : e.again.contains c = true := List.contains_iff_mem.mpr h
    rw [if_pos h]
    unfold Ev.endByKind
    rw [if_pos hc]
    refine congrArg (fun d => e.on fun s => s.setChan c { s.fse.channels[c] with delayedEnd := d }) ?_
    cases (e.s.fse.channels[c]).delayedEnd <;> rfl
  · rw [if_neg h, Ev.endByKind_now h]

theorem Ev.testReading_some {c : Chan} {r : StepRec} {o : StepOutcome} {e : Ev} (h : e.s.readingEnd c r = some o) :
    e.testReading c r = e.endByKind c o := by
  unfold Ev.testReading; simp only [h]

theorem Ev.testReading_none {c : Chan} {r : StepRec} {e : Ev} (h : e.s.readingEnd c r = none) : e.testReading c r = e := by
  unfold Ev.testReading; simp only [h]

/-- The channel record with its extremes widened by a cavity reading (R19). -/
def ChanRec.widened (ch : ChanRec) (v : Int) : ChanRec :=
  { ch with extremes := some (min (ch.extremes.getD (v, v)).1 v, max (ch.extremes.getD (v, v)).2 v) }

/-- A settled cavity reading widens the extremes of the running step, and is tested for a HEAT (R19, R21). -/
theorem Ev.cavityReading_settled {c : Chan} {i : StepIx} {e : Ev} (hrun : (e.s.fse.channels[c]).state = .run)
    (hcur : (e.s.fse.channels[c]).current = some i) (hs : (e.s.hlu.probes[cavityProbe c]).settled = true) :
    let w := e.on fun s => s.setChan c ((e.s.fse.channels[c]).widened (e.s.hlu.probes[cavityProbe c]).reading)
    e.cavityReading c = if (e.s.fse.steps[i]).kind = .heat then w.testReading c e.s.fse.steps[i] else w := by
  intro w
  have hv : e.s.cavityNow c = some (e.s.hlu.probes[cavityProbe c]).reading := ProbeRec.now_eq_some.mpr ⟨hs, rfl⟩
  have hon : ∀ f : ChanRec → ChanRec,
      f e.s.fse.channels[c] = (e.s.fse.channels[c]).widened (e.s.hlu.probes[cavityProbe c]).reading →
      e.on (State.onChan c f) = w := fun f hf => congrArg (fun ch => e.on fun s => s.setChan c ch) hf
  unfold Ev.cavityReading
  simp only [State.running_eq hrun hcur, hv]
  rw [hon]
  unfold ChanRec.widened
  cases (e.s.fse.channels[c]).extremes with
  | none => simp
  | some p => rfl

theorem Ev.cavityReading_unsettled {c : Chan} {e : Ev} (h : e.s.running c = none ∨ e.s.cavityNow c = none) :
    e.cavityReading c = e := by
  unfold Ev.cavityReading
  rcases h with h | h
  · simp only [h]
    cases e.s.cavityNow c <;> rfl
  · simp only [h]
    cases e.s.running c <;> rfl

theorem Ev.coreReading_running {c : Chan} {i : StepIx} {e : Ev} (hrun : (e.s.fse.channels[c]).state = .run)
    (hcur : (e.s.fse.channels[c]).current = some i) :
    e.coreReading c = if (e.s.fse.steps[i]).kind = .soak ∨ (e.s.fse.steps[i]).kind = .core then
      e.testReading c e.s.fse.steps[i] else e := by
  unfold Ev.coreReading
  simp only [State.running_eq hrun hcur]

theorem Ev.coreReading_idle {c : Chan} {e : Ev} (h : e.s.running c = none) : e.coreReading c = e := by
  unfold Ev.coreReading
  simp only [h]

end Sys2Proof.Machine
end

section
/-! PROOFS. The statement on the end of a step and what follows it (R21 to R26, R29 to R36). -/

namespace Sys2Proof.Machine

open Sys2Proof

/-- The completion record of a record that ends as it is begun (R6, R19). -/
theorem ChanRec.completion_begun (ch : ChanRec) (i : StepIx) (q r : StepRec) (o : StepOutcome) (s : State) (c : Chan) :
    (ch.begun i q (s.cavityNow c)).completion r o s.clock c = s.finished c o := by
  unfold ChanRec.completion ChanRec.begun State.finished State.cavityNow ProbeRec.now
  rw [ite_self]
  cases (s.hlu.probes[cavityProbe c]).settled <;> rfl

theorem State.opened_clock (s : State) (c : Chan) (i : StepIx) : (s.opened c i).clock = s.clock := by
  obtain ⟨-, -, -, hclock, -⟩ := s.opened_same c i
  exact hclock

section Ending

variable {c : Chan} {i : StepIx} {o : StepOutcome} {e : Ev}

/-- A step ends and its chain goes on: the move to PREFETCHED NEXT is handed on before what waits (R30). -/
theorem Ev.endStep_onward_writes (hrun : (e.s.fse.channels[c]).state = .run) (hcur : (e.s.fse.channels[c]).current = some i)
    (hgo : (e.s.fse.steps[i]).goesOn o = true) (hskip : ¬ ((e.s.fse.steps[i]).flags.skip = true ∧ o = .early)) :
    (e.endStep c o).work = .moveOn c (e.s.fse.channels[c]).prefetched :: e.work ∧
    (e.endStep c o).s.fse.steps = e.s.fse.steps.set i { e.s.fse.steps[i] with
      claim := none, completion := (e.s.fse.channels[c]).completion e.s.fse.steps[i] o e.s.clock c
      owner := if (e.s.fse.steps[i]).flags.retain then (e.s.fse.steps[i]).owner else .station } ∧
    ((e.s.fse.steps[i]).flags.notify = false → (e.endStep c o).s.sp = e.s.sp) ∧
    (∀ x : Station, (e.s.fse.steps[i]).flags.notify = true → (e.s.fse.channels[c]).owner = some x →
      (e.s.sp.queues[x]).notices.length < 16 → ((e.endStep c o).s.sp.queues[x]).notices = (e.s.sp.queues[x]).notices ++
        [{ source := .channel, index := c.val, code := .stepDone, p1 := i.val, p2 := o.code
           p3 := (e.s.fse.channels[c]).elapsed, time := e.s.clock }]) := by
  obtain ⟨p, hclose, -, hquiet, hq⟩ := State.closeStep_writes c i o e.s
  rw [Ev.endStep_onward hrun hcur hgo hskip]
  refine ⟨rfl, ?_, fun hn => ?_, fun x hn hx hroom => ?_⟩
  · refine (State.closeStep_steps c i o e.s).1.trans ?_
    rw [StepRec.ended_of_goesOn hgo]
  · show (e.s.closeStep c i o).sp = _
    rw [hclose]
    exact hquiet hn
  · show ((e.s.closeStep c i o).sp.queues[x]).notices = _
    rw [hclose]
    refine (congrArg (fun v => (v[x]).notices) ((hq x hx).1 hroom)).trans ?_
    rw [get_set_same, State.doneNotices, if_pos hn]

/-- SKIP on a record the chain may take (R31). -/
theorem Ev.endStep_skips {j : StepIx} (hrun : (e.s.fse.channels[c]).state = .run)
    (hcur : (e.s.fse.channels[c]).current = some i) (hgo : (e.s.fse.steps[i]).goesOn .early = true)
    (hskip : (e.s.fse.steps[i]).flags.skip = true) (hnext : (e.s.fse.channels[c]).prefetched = some j) (hji : j ≠ i)
    (ho : (e.s.fse.steps[j]).owner = .engine) (hc : (e.s.fse.steps[j]).claim = none) :
    (e.endStep c .early).work = .moveOn c ((e.s.fse.steps[j]).next j) :: e.work ∧
    (e.endStep c .early).s.fse.steps = (e.s.fse.steps.set i { e.s.fse.steps[i] with
      claim := none, completion := (e.s.fse.channels[c]).completion e.s.fse.steps[i] .early e.s.clock c
      owner := if (e.s.fse.steps[i]).flags.retain then (e.s.fse.steps[i]).owner else .station }).set j { e.s.fse.steps[j] with
        owner := if (e.s.fse.steps[j]).flags.retain then .engine else .station
        completion := ⟨.skipped, e.s.clock, 0, 0, 0, 0, some c⟩ } := by
  obtain ⟨hsteps, -, hclock⟩ := State.closeStep_steps c i .early e.s
  have hj : (e.s.closeStep c i .early).fse.steps[j] = e.s.fse.steps[j] := by rw [hsteps]; exact get_set_ne _ hji _
  rw [StepRec.ended_of_goesOn hgo] at hsteps
  rw [Ev.endStep_skip hrun hcur hgo hskip, hnext,
    Ev.skipStep_taken (e := e.on (State.closeStep c i .early)) (by rw [Ev.on_s, hj]; exact ho) (by rw [Ev.on_s, hj]; exact hc),
    Ev.on_s, hj, hclock, ho]
  refine ⟨rfl, ?_⟩
  show (e.s.closeStep c i .early).fse.steps.set j _ = _
  rw [hsteps]
  rfl

/-- SKIP on a record the chain may not take ends it (R31, R32). -/
theorem Ev.endStep_skip_refused {j : StepIx} (hrun : (e.s.fse.channels[c]).state = .run)
    (hcur : (e.s.fse.channels[c]).current = some i) (hgo : (e.s.fse.steps[i]).goesOn .early = true)
    (hskip : (e.s.fse.steps[i]).flags.skip = true) (hnext : (e.s.fse.channels[c]).prefetched = some j) (hji : j ≠ i)
    (hno : (e.s.fse.steps[j]).owner = .station ∨ (e.s.fse.steps[j]).claim ≠ none) :
    ((e.endStep c .early).s.fse.channels[c]).state = .hold ∧
    ((e.endStep c .early).s.fse.channels[c]).holdSetpoint = (e.s.fse.channels[c]).fallback ∧
    ∀ x : Station, (e.s.fse.channels[c]).owner = some x → ∃ n, ((e.endStep c .early).s.fse.channels[c]).lastEnding = some n ∧
      n.lastStep = i ∧ n.outcome = if (e.s.fse.steps[j]).owner = .station then .starved else .conflict := by
  obtain ⟨hsteps, hchan, -⟩ := State.closeStep_steps c i .early e.s
  have hj : (e.s.closeStep c i .early).fse.steps[j] = e.s.fse.steps[j] := by rw [hsteps]; exact get_set_ne _ hji _
  rw [Ev.endStep_skip hrun hcur hgo hskip, hnext,
    Ev.skipStep_refused (e := e.on (State.closeStep c i .early)) (by rw [Ev.on_s, hj]; exact hno), Ev.on_s, hj]
  obtain ⟨hstate, hhold, hlast⟩ := Ev.endChain_fallback c (o := if (e.s.fse.steps[j]).owner = .station then .starved else .conflict)
    (by split <;> decide) (by split <;> decide) (some j) (e.on (State.closeStep c i .early))
  rw [Ev.on_s, hchan] at hhold hlast
  refine ⟨hstate, hhold, fun x hx => ?_⟩
  obtain ⟨n, hn, hstep, hout, -⟩ := hlast x i hx hcur
  exact ⟨n, hn, hstep, hout⟩

end Ending

/-- A record begun that finds its ending condition met ends at once, and the chain goes on behind it (R19, R21 to R23). -/
theorem Ev.moveOn_ends_at_once {c : Chan} {j : StepIx} {o : StepOutcome} {e : Ev}
    (ho : (e.s.fse.steps[j]).owner = .engine)
    (hc : (e.s.fse.steps[j]).claim = none) (hb : (c, j) ∉ e.begun) (hread : e.s.readingEnd c e.s.fse.steps[j] = some o) :
    e.moveOn c (some j) = (e.opened c j).endStep c o := by
  have hne : ¬ (e.s.fse.steps[j]).owner ≠ .engine := fun hn => hn ho
  have hfree : ¬ (e.s.fse.steps[j]).claim.isSome = true := by rw [hc]; decide
  have hread' : (e.opened c j).s.readingEnd c e.s.fse.steps[j] = some o :=
    (State.readingEnd_congr (State.opened_probes ..) ..).trans hread
  have hag : c ∉ (e.opened c j).again := fun h => of_decide_eq_true (List.mem_filter.mp h).2 rfl
  have hkind : (e.opened c j).beginKind c j e.s.fse.steps[j] false = (e.opened c j).testReading c e.s.fse.steps[j] := by
    unfold Ev.beginKind
    rcases (State.readingEnd_iff ..).mp hread with ⟨hk, -⟩ | ⟨⟨hk, -⟩ | ⟨hk, -⟩, -⟩ <;> simp only [hk]
  unfold Ev.moveOn
  simp only [hne, hfree, if_false]
  rw [Ev.beginStep_first hb, hkind, Ev.testReading_some hread', Ev.endByKind_now hag]
  exact if_neg Bool.false_ne_true

/-- Settles O11. -/
theorem stepEndAndReportRules : Obligations.StepEndAndReportRules := by
  refine ⟨StepRec.goesOn_iff, fun c o i e hrun hcur => ?_, fun c next e => ?_,
    fun c i n a short number outcome e hrun hcur hag => ?_, fun c i e hrun hcur => ?_, fun c e hidle => ?_,
    State.readingEnd_iff, fun c j o e => ?_⟩
  · intro ch r t completed kept
    refine ⟨fun hgo hskip => Ev.endStep_onward_writes hrun hcur hgo hskip, fun hgo hskip ho j hj hji => ?_, fun hgo => ?_⟩
    · subst ho
      exact ⟨fun ho hc => Ev.endStep_skips hrun hcur hgo hskip hj hji ho hc,
        fun hno => Ev.endStep_skip_refused hrun hcur hgo hskip hj hji hno⟩
    · obtain ⟨hrec, ⟨owner, stacked, last, hch⟩, -, -, hew, hpw, hlast⟩ := Ev.endStep_ends_engine hrun hcur hgo
      obtain ⟨hstate, hhold⟩ := ChanRec.closed_state ch r o
      have hchan : t.s.fse.channels[c] = _ := hch
      refine ⟨hrec, ?_, ?_, ?_, ?_, ?_, ?_, hew, hpw, hlast⟩ <;> rw [hchan]
      · exact hstate
      · exact hhold
      · rfl
      · rfl
  · intro ch t endedAs
    refine ⟨fun hnext => ?_, fun j hnext => ⟨fun ho => ?_, fun ho hc => ?_, fun hw hb hrun => ?_⟩⟩
    · subst hnext
      exact Ev.endChain_fallback c (by decide) (by decide) none e
    · subst hnext
      have ht : t = e.endChain c .starved false none (some j) := by
        refine (Ev.moveOn_refused (.inl ho) c).trans ?_
        rw [if_pos ho]
      show endedAs .starved
      simp only [endedAs, ht]
      exact Ev.endChain_fallback c (by decide) (by decide) (some j) e
    · subst hnext
      have ht : t = e.endChain c .conflict false none (some j) := by
        refine (Ev.moveOn_refused (.inr hc) c).trans ?_
        rw [if_neg (by rw [ho]; decide)]
      simp only [endedAs, ht]
      exact Ev.endChain_fallback c (by decide) (by decide) (some j) e
    · subst hnext
      have ht : t = e.opened c j := Ev.moveOn_awaits hw hb
      obtain ⟨-, -, hk, -⟩ := hw
      obtain ⟨hsp, hppu, hpgu, -⟩ := State.opened_same e.s c j
      rw [ht]
      exact ⟨State.opened_begun hrun (StepKind.carriesSetpoint_of_reading hk), State.opened_steps .., rfl, hsp, hppu, hpgu⟩
  · intro ch r freed answered
    refine ⟨fun hres => ⟨fun hk => ?_, fun hk => ?_, fun hk => ?_, fun hk => ?_⟩, fun hres => ⟨?_, ?_⟩,
      fun hpage => ⟨fun hk => ?_, fun hk => ?_⟩, fun hpage => Ev.pageEnded_passed hpage _⟩
    · exact (Ev.entryReady_taken hrun hcur hag n a).trans (if_pos ⟨hk, hres⟩)
    · exact (Ev.entryEnded_taken hrun hcur hag hres short).trans (if_pos hk)
    · exact (Ev.entryReady_taken hrun hcur hag n a).trans (if_neg fun h => hk h.1)
    · exact (Ev.entryEnded_taken hrun hcur hag hres short).trans (if_neg hk)
    · exact (Ev.entryReady_taken hrun hcur hag n a).trans (if_neg fun h => hres h.2)
    · exact Ev.entryEnded_passed hres short
    · exact (Ev.pageEnded_taken hrun hcur hag hpage outcome).trans (if_pos hk)
    · exact (Ev.pageEnded_taken hrun hcur hag hpage outcome).trans (if_neg hk)
  · intro ch r cavity core widened ends
    refine ⟨fun hs => ?_, fun hs => ⟨fun hk hv => ?_, fun hno => ?_⟩, fun target hs ht hle => ⟨fun hk => ?_, fun hk => ?_⟩,
      fun hno => ?_⟩
    · exact Ev.cavityReading_unsettled (.inr (if_neg (by rw [hs]; decide)))
    · have hend : (e.on fun s => s.setChan c (ch.widened cavity.reading)).s.readingEnd c r = some .normal :=
        (State.readingEnd_heat hk ..).mpr ⟨rfl, hs, hv⟩
      have hch : (e.on fun s => s.setChan c (ch.widened cavity.reading)).s.fse.channels[c] = ch.widened cavity.reading :=
        State.setChan_get ..
      refine (Ev.cavityReading_settled hrun hcur hs).trans ((if_pos hk).trans ((Ev.testReading_some hend).trans ?_))
      rw [Ev.endByKind_eq, hch]
      rfl
    · refine (Ev.cavityReading_settled hrun hcur hs).trans ?_
      split
      next hk =>
        refine Ev.testReading_none (Option.eq_none_iff_forall_ne_some.mpr fun o ho => ?_)
        obtain ⟨-, -, hv⟩ := (State.readingEnd_heat hk ..).mp ho
        exact absurd hv (Int.not_le.mpr (hno.resolve_left fun hne => hne hk))
      next => rfl
    · have hend : e.s.readingEnd c r = some .early :=
        (State.readingEnd_core (.inl ⟨hk, rfl⟩) ..).mpr ⟨rfl, hs, target, ht, hle⟩
      exact (Ev.coreReading_running hrun hcur).trans ((if_pos (.inl hk)).trans ((Ev.testReading_some hend).trans
        (Ev.endByKind_eq ..)))
    · have hend : e.s.readingEnd c r = some .normal :=
        (State.readingEnd_core (.inr ⟨hk, rfl⟩) ..).mpr ⟨rfl, hs, target, ht, hle⟩
      exact (Ev.coreReading_running hrun hcur).trans ((if_pos (.inr hk)).trans ((Ev.testReading_some hend).trans
        (Ev.endByKind_eq ..)))
    · refine (Ev.coreReading_running hrun hcur).trans ?_
      split
      next hk =>
        refine Ev.testReading_none (Option.eq_none_iff_forall_ne_some.mpr fun o ho => ?_)
        rcases (State.readingEnd_iff ..).mp ho with ⟨hheat, -⟩ | ⟨-, hs, target, ht, hle⟩
        · rw [hheat] at hk
          exact absurd hk (by decide)
        · rcases hno with hno | ⟨hsoak, hcore⟩ | hno
          · have hs' : core.settled = true := hs
            rw [hno] at hs'; cases hs'
          · exact absurd hk (not_or.mpr ⟨hsoak, hcore⟩)
          · exact absurd hle (Int.not_le.mpr (hno target ht))
      next => rfl
  · have hnone : e.s.running c = none := State.running_none hidle
    exact ⟨Ev.cavityReading_unsettled (.inl hnone), Ev.coreReading_idle hnone⟩
  · intro q t hrun ho hc hb hread hskip
    have ht : t = (e.opened c j).endStep c o := Ev.moveOn_ends_at_once ho hc hb hread
    have hch : (e.opened c j).s.fse.channels[c] = (e.s.fse.channels[c]).begun j q (e.s.cavityNow c) := State.opened_channel ..
    have hrec : (e.opened c j).s.fse.steps[j] = { q with claim := some c } := by
      rw [Ev.opened_s, State.opened_steps]; exact get_set_same ..
    have hgo : q.goesOn o = true := by
      rw [StepRec.goesOn_iff]
      rcases (State.readingEnd_iff ..).mp hread with ⟨hk, ho, -⟩ | ⟨⟨hk, ho⟩ | ⟨hk, ho⟩, -⟩
      · exact ⟨by rw [hk]; decide, .inl ho⟩
      · exact ⟨by rw [hk]; decide, .inr (.inl ho)⟩
      · exact ⟨by rw [hk]; decide, .inl ho⟩
    obtain ⟨hwork, hsteps, -⟩ := Ev.endStep_onward_writes (o := o) (i := j) (c := c) (e := e.opened c j) (by rw [hch]; exact hrun)
      (by rw [hch]; rfl) (by rw [hrec]; exact hgo) (by rw [hrec]; exact hskip)
    rw [hch] at hwork
    rw [hch, hrec, Ev.opened_s, State.opened_clock, ChanRec.completion_begun, State.opened_steps, set_set_same] at hsteps
    rw [ht, hwork, hsteps]
    refine ⟨rfl, congrArg (fun r => e.s.fse.steps.set j r) ?_⟩
    simp only [ho, hc]

end Sys2Proof.Machine
end

section
/-! PROOFS. What one report can touch: the channel it is about, and no other channel's record or moves, nor the fault monitor. -/

namespace Sys2Proof.Machine

open Sys2Proof

/-! ### A fault of the oven, by the state of its channel (R17) -/

theorem Ev.ovenFault_run {c : Chan} {e : Ev} (h : (e.s.fse.channels[c]).state = .run) : e.ovenFault c = e.endStep c .fault := by
  unfold Ev.ovenFault; simp only [h]

theorem Ev.ovenFault_rest {c : Chan} {e : Ev}
    (h : (e.s.fse.channels[c]).state = .idle ∨ (e.s.fse.channels[c]).state = .stopped) : e.ovenFault c = e := by
  unfold Ev.ovenFault
  rcases h with h | h <;> simp only [h]

/-- In HOLD the channel is STOPPED, its oven load idle, and the ending posted that names the LAST STEP of the ending before. -/
theorem Ev.ovenFault_hold {c : Chan} {e : Ev} (h : (e.s.fse.channels[c]).state = .hold) :
    ∃ (l : LoadRec) (p : Sp) (owner : Option Station) (stacked last : Option Ending),
      e.ovenFault c = e.on (fun s => { (s.setLoad (ovenLoad c) l).setChan c { e.s.fse.channels[c] with
        state := .stopped, owner := owner, stacked := stacked, lastEnding := last } with sp := p }) ∧
      l.active = false ∧
      ∀ (n : Ending) (x : Station), (e.s.fse.channels[c]).lastEnding = some n → (e.s.fse.channels[c]).owner = some x →
        (e.s.sp.queues[x]).notices.length < 16 →
        (p.queues[x]).notices = (e.s.sp.queues[x]).notices ++ [e.s.endedNotice c n.lastStep .fault .stopped] := by
  let ch := e.s.fse.channels[c]
  let stop : ChanRec := { ch with state := .stopped }
  obtain ⟨l, hl, -, hact, -⟩ := State.handOven_eq c (e.s.setChan c stop)
  rw [State.setChan_get] at hact
  let u := (e.s.setLoad (ovenLoad c) l).setChan c stop
  have hu : (e.s.onChan c (fun h => { h with state := .stopped })).handOven c = u := hl
  have huc : u.fse.channels[c] = stop := State.setChan_get ..
  cases hlast : ch.lastEnding with
  | none =>
    refine ⟨l, e.s.sp, ch.owner, ch.stacked, ch.lastEnding, ?_, hact, fun n x hn => (by cases hn)⟩
    · unfold Ev.ovenFault
      simp only [h, show (e.s.fse.channels[c]).lastEnding = none from hlast]
      exact congrArg (fun t : State => Ev.mk t e.work e.begun e.again) hu
  | some n =>
    obtain ⟨p, owner, stacked, last, hpost, hposted⟩ := State.postEnding_writes c n.lastStep .fault u
    rw [huc] at hpost hposted
    refine ⟨l, p, owner, stacked, last, ?_, hact, fun m x hm hx hroom => ?_⟩
    · have hshape : u.postEnding c n.lastStep .fault = { (e.s.setLoad (ovenLoad c) l).setChan c
          { stop with owner := owner, stacked := stacked, lastEnding := last } with sp := p } := by
        rw [hpost]
        simp [u, State.setChan]
      unfold Ev.ovenFault
      simp only [h, show (e.s.fse.channels[c]).lastEnding = some n from hlast]
      exact (congrArg (fun t : State => Ev.mk (t.postEnding c n.lastStep .fault) e.work e.begun e.again) hu).trans
        (congrArg (fun t : State => Ev.mk t e.work e.begun e.again) hshape)
    · cases hm
      obtain ⟨hq, -⟩ := hposted.room x hx hroom
      rw [hq, get_set_same, List.append_nil]
      rfl

/-! ### One report, one channel -/

/-- From `e` to `f` nothing happened to the fault monitor, and to the engine's records of channels and their moves at most at
channel `d`. -/
structure Ev.Only (d : Chan) (e f : Ev) : Prop where
  fm : f.s.fm = e.s.fm
  others : ∀ c : Chan, c ≠ d → f.s.fse.channels[c] = e.s.fse.channels[c]
  moves : ∀ (c : Chan) (j : Option StepIx), c ≠ d → Report.moveOn c j ∈ f.work → Report.moveOn c j ∈ e.work

theorem Ev.Aside.only {e f : Ev} (h : e.Aside f) (d : Chan) : e.Only d f :=
  ⟨h.fm, fun c _ => congrArg (fun g : Fse => g.channels[c]) h.fse, fun c j _ hm => h.moves c j hm⟩

namespace Ev.Only

variable {d : Chan} {e f g : Ev}

theorem refl (d : Chan) (e : Ev) : e.Only d e := (Ev.Aside.refl e).only d

theorem trans (h : e.Only d f) (k : f.Only d g) : e.Only d g :=
  ⟨k.fm.trans h.fm, fun c hc => (k.others c hc).trans (h.others c hc), fun c j hc hm => h.moves c j hc (k.moves c j hc hm)⟩

/-- A change of the state that leaves the channels' records and the fault monitor alone. -/
theorem on (g : State → State) (hch : (g e.s).fse.channels = e.s.fse.channels) (hfm : (g e.s).fm = e.s.fm) :
    e.Only d (e.on g) := ⟨hfm, fun c _ => congrArg (·[c]) hch, fun _ _ _ hm => hm⟩

theorem onChan (f : ChanRec → ChanRec) : e.Only d (e.on (State.onChan d f)) :=
  ⟨rfl, fun _ hc => State.setChan_get_ne hc .., fun _ _ _ hm => hm⟩

theorem handFirst (j : Option StepIx) : e.Only d (e.handFirst (.moveOn d j)) := by
  refine ⟨rfl, fun _ _ => rfl, fun c j' hc hm => ?_⟩
  rcases List.mem_cons.mp hm with h | h
  · cases h
    exact absurd rfl hc
  · exact h

theorem endChain (c : Chan) (o : StepOutcome) (byEnd : Bool) (holdAt : Option Int) (w : Option StepIx) (e : Ev) :
    e.Only c (e.endChain c o byEnd holdAt w) := by
  obtain ⟨owner, stacked, last, l, hfse, -, -, -, hfm, hmoves⟩ := Ev.endChain_engine c o byEnd holdAt w e
  exact ⟨hfm, fun d hd => (congrArg (fun f : Fse => f.channels[d]) hfse).trans (get_set_ne _ hd _),
    fun d j _ hm => hmoves d j hm⟩

theorem closeStep (c : Chan) (i : StepIx) (o : StepOutcome) (e : Ev) : e.Only c (e.on (State.closeStep c i o)) := by
  obtain ⟨p, hclose, -⟩ := State.closeStep_writes c i o e.s
  refine ⟨?_, fun d hd => ?_, fun _ _ _ hm => hm⟩
  · rw [Ev.on_s, hclose]; rfl
  · rw [Ev.on_s, hclose]; exact get_set_ne _ hd _

theorem skipStep (c : Chan) (j : Option StepIx) (e : Ev) : e.Only c (e.skipStep c j) := by
  unfold Ev.skipStep
  split
  · exact endChain ..
  · simp only
    split
    · exact endChain ..
    · split
      · exact endChain ..
      · exact (on _ rfl rfl).trans (handFirst _)

theorem endStep (c : Chan) (o : StepOutcome) (e : Ev) : e.Only c (e.endStep c o) := by
  unfold Ev.endStep
  split
  · exact refl c e
  · simp only
    split
    · split
      · exact (closeStep ..).trans (skipStep ..)
      · exact (closeStep ..).trans (handFirst _)
    · exact (closeStep ..).trans (endChain ..)

theorem endByKind (c : Chan) (o : StepOutcome) (e : Ev) : e.Only c (e.endByKind c o) := by
  rw [Ev.endByKind_eq]
  split
  · exact onChan fun ch => { ch with delayedEnd := some ((e.s.fse.channels[c]).delayedEnd.getD o) }
  · exact endStep ..

theorem testReading (c : Chan) (r : StepRec) (e : Ev) : e.Only c (e.testReading c r) := by
  unfold Ev.testReading
  split
  · exact endByKind ..
  · exact refl c e

theorem askPlates (c : Chan) (r : StepRec) (e : Ev) : e.Only c (e.askPlates c r) := by
  have hask := (Ev.requestPlates_aside c r.plateKind r.count e).only c
  unfold Ev.askPlates
  simp only
  split
  · exact hask.trans (endByKind ..)
  · exact hask.trans (on _ rfl rfl)
  · split
    · exact (hask.trans (onChan _)).trans (endByKind ..)
    · exact hask.trans (onChan _)

theorem askPage (c : Chan) (r : StepRec) (e : Ev) : e.Only c (e.askPage c r) := by
  unfold Ev.askPage
  split
  · exact refl c e
  · simp only
    split
    · split
      · exact (onChan _).trans ((Ev.submit_aside ..).only c)
      · exact ((Ev.submit_aside ..).only c).trans (endByKind ..)
    · exact on _ rfl rfl

theorem cancelHeld (c : Chan) (e : Ev) : e.Only c (e.cancelHeld c) :=
  (onChan _).trans ((Ev.cancelHeld_aside c e).only c)

theorem postNote (c : Chan) (i : StepIx) (r : StepRec) (e : Ev) : e.Only c (e.postNote c i r) := by
  obtain ⟨p, hp, -⟩ := State.chanNotice_writes c .stepNote i.val r.noteCode 0 e.s
  unfold Ev.postNote
  refine Only.trans (on _ ?_ ?_) (endStep ..) <;> rw [hp]

theorem beginKind (c : Chan) (i : StepIx) (r : StepRec) (again : Bool) (e : Ev) : e.Only c (e.beginKind c i r again) := by
  unfold Ev.beginKind
  split
  · exact testReading ..
  · exact testReading ..
  · exact testReading ..
  · exact (cancelHeld ..).trans (askPlates ..)
  · split
    · exact endByKind ..
    · exact refl c e
  · exact askPage ..
  · split
    · exact refl c e
    · exact postNote ..
  · exact endByKind ..

/-- What the begin of a record writes before its kind's own work stays at its channel. -/
theorem opening {c : Chan} {i : StepIx} {r : StepRec} {f : ChanRec → ChanRec} {begun : List (Chan × StepIx)} {again : List Chan} :
    e.Only c (({ e with begun := begun, again := again } : Ev).on fun s => ((s.setStep i r).onChan c f).handOven c) := by
  obtain ⟨l, hl, -⟩ := State.handOven_eq c ((e.s.setStep i r).onChan c f)
  refine ⟨?_, fun d hd => ?_, fun _ _ _ hm => hm⟩
  · show (((e.s.setStep i r).onChan c f).handOven c).fm = _
    rw [hl]; rfl
  · show (((e.s.setStep i r).onChan c f).handOven c).fse.channels[d] = _
    rw [hl]; exact get_set_ne _ hd _

theorem beginStep (c : Chan) (i : StepIx) (e : Ev) : e.Only c (e.beginStep c i) := by
  unfold Ev.beginStep
  exact opening.trans (beginKind ..)

theorem moveOn (c : Chan) (j : Option StepIx) (e : Ev) : e.Only c (e.moveOn c j) := by
  unfold Ev.moveOn
  split
  · exact endChain ..
  · simp only
    split
    · exact endChain ..
    · split
      · exact endChain ..
      · exact beginStep ..

theorem ovenFault (c : Chan) (e : Ev) : e.Only c (e.ovenFault c) := by
  cases hs : (e.s.fse.channels[c]).state with
  | run => rw [Ev.ovenFault_run hs]; exact endStep ..
  | hold =>
    obtain ⟨l, p, owner, stacked, last, hfault, -⟩ := Ev.ovenFault_hold hs
    rw [hfault]
    exact ⟨rfl, fun d hd => get_set_ne _ hd _, fun _ _ _ hm => hm⟩
  | idle => rw [Ev.ovenFault_rest (.inl hs)]; exact refl c e
  | stopped => rw [Ev.ovenFault_rest (.inr hs)]; exact refl c e

theorem coreFault (c : Chan) (e : Ev) : e.Only c (e.coreFault c) := by
  unfold Ev.coreFault
  split
  · split
    · exact endStep ..
    · exact refl c e
  · exact refl c e

theorem cavityReading (c : Chan) (e : Ev) : e.Only c (e.cavityReading c) := by
  unfold Ev.cavityReading
  split
  · simp only
    split
    · exact (onChan _).trans (testReading ..)
    · exact onChan _
  all_goals exact refl c e

theorem coreReading (c : Chan) (e : Ev) : e.Only c (e.coreReading c) := by
  unfold Ev.coreReading
  split
  · split
    · exact testReading ..
    · exact refl c e
  · exact refl c e

theorem entryReady (c : Chan) (i : ResIx) (n : Nat) (e : Ev) : e.Only c (e.entryReady c i n) := by
  unfold Ev.entryReady
  split
  · split
    · exact endByKind ..
    · exact refl c e
  · exact refl c e

theorem entryEnded (c : Chan) (i : ResIx) (n : Nat) (short : Bool) (e : Ev) : e.Only c (e.entryEnded c i n short) := by
  unfold Ev.entryEnded
  split
  · simp only
    split
    · split
      · exact (onChan _).trans (endByKind ..)
      · exact onChan _
    · exact onChan _
  · exact refl c e

theorem pageEnded (c : Chan) (n : Nat) (o : PageOutcome) (e : Ev) : e.Only c (e.pageEnded c n o) := by
  unfold Ev.pageEnded
  split
  · simp only
    split
    · split
      · exact (onChan _).trans (endByKind ..)
      · exact onChan _
    · exact onChan _
  · exact refl c e

theorem linkLost (c : Chan) (x : Station) (e : Ev) : e.Only c (e.linkLost c x) := by
  unfold Ev.linkLost
  split
  · split
    · exact endStep ..
    · exact refl c e
  · exact refl c e

end Ev.Only

/-- A channel that is served when an entry or a place has become free leaves the waiting set, and asks again where it runs. -/
theorem Ev.entryFree_only (e : Ev) : ∃ c, e.Only c e.entryFree := by
  unfold Ev.entryFree
  split
  · exact ⟨0, .refl 0 e⟩
  next c _ =>
    refine ⟨c, ?_⟩
    simp only
    split
    · split
      · exact Ev.Only.trans (.on _ rfl rfl) (.askPlates ..)
      · exact .on _ rfl rfl
    · exact .on _ rfl rfl

theorem Ev.placeFree_only (e : Ev) : ∃ c, e.Only c e.placeFree := by
  unfold Ev.placeFree
  split
  · exact ⟨0, .refl 0 e⟩
  next c _ =>
    refine ⟨c, ?_⟩
    simp only
    split
    · split
      · exact Ev.Only.trans (.on _ rfl rfl) (.askPage ..)
      · exact .on _ rfl rfl
    · exact .on _ rfl rfl

/-- A report touches one channel at most. -/
theorem Ev.take_only (r : Report) (e : Ev) : ∃ c, e.Only c (e.take r) := by
  cases r with
  | moveOn c j => exact ⟨c, .moveOn ..⟩
  | cavityReading c => exact ⟨c, .cavityReading ..⟩
  | coreReading c => exact ⟨c, .coreReading ..⟩
  | ovenFault c => exact ⟨c, .ovenFault ..⟩
  | coreFault c => exact ⟨c, .coreFault ..⟩
  | entryReady c i n => exact ⟨c, .entryReady ..⟩
  | entryEnded c i n b => exact ⟨c, .entryEnded ..⟩
  | entryFree => exact Ev.entryFree_only e
  | pageEnded c n o => exact ⟨c, .pageEnded ..⟩
  | placeFree => exact Ev.placeFree_only e
  | linkLost c x => exact ⟨c, .linkLost ..⟩

/-- No report that the engine takes reaches the fault monitor. -/
theorem Ev.drain_fm (n : Nat) (e : Ev) : (e.drain n).s.fm = e.s.fm := by
  induction n generalizing e with
  | zero => rfl
  | succ n ih =>
    unfold Ev.drain
    split
    · rfl
    next r w _ =>
      obtain ⟨c, hc⟩ := Ev.take_only r { e with work := w }
      exact (ih _).trans hc.fm

theorem Ev.finish_fm (e : Ev) : e.finish.fm = e.s.fm := Ev.drain_fm _ e

end Sys2Proof.Machine
end

section
/-! PROOFS. Fault reports: for which sources a condition holds, and reports of a group that is not paged (R189 to R193). -/

namespace Sys2Proof.Machine

open Sys2Proof

/-! ### For which sources a condition holds (R189) -/

/-- A notice lengthens its own station's queue, by one record at most (R210). -/
theorem State.postNotice_length (x : Station) (n : Notice) (s : State) :
    ∃ p : Sp, s.postNotice x n = { s with sp := p } ∧ p.ports = s.sp.ports ∧
      ∀ y : Station, (p.queues[y]).notices.length ≤ (s.sp.queues[y]).notices.length + if y = x then 1 else 0 := by
  have hset : ∀ q : NoticeQueue, q.notices.length ≤ (s.sp.queues[x]).notices.length + 1 → ∀ y : Station,
      ((s.setQueue x q).sp.queues[y]).notices.length ≤ (s.sp.queues[y]).notices.length + if y = x then 1 else 0 := by
    intro q hq y
    by_cases hy : y = x
    · subst hy
      rw [State.setQueue_get, if_pos rfl]
      exact hq
    · rw [State.setQueue_get_ne hy]
      exact Nat.le_add_right _ _
  rcases s.queue_room_or_full x with h | h
  · refine ⟨_, State.postNotice_room h n, rfl, hset _ ?_⟩
    rw [List.length_append, List.length_singleton]
  · exact ⟨_, State.postNotice_full h n, rfl, hset _ (Nat.le_succ _)⟩

theorem State.tellSubscribers_writes (c : Cond) (source : Nat) (s : State) :
    ∃ p : Sp, s.tellSubscribers c source = { s with sp := p } ∧ p.ports = s.sp.ports ∧
      ∀ x : Station, (p.queues[x]).notices.length ≤ (s.sp.queues[x]).notices.length + 1 := by
  have key : ∀ (l : List Station) (t : State), ∃ p : Sp, l.foldl (fun (t : State) (x : Station) =>
      if (s.fm.subs[x])[c.group] then t.postNotice x (Fm.faultNotice c source s.clock) else t) t = { t with sp := p } ∧
      p.ports = t.sp.ports ∧
      ∀ x : Station, (p.queues[x]).notices.length ≤ (t.sp.queues[x]).notices.length + l.count x := by
    intro l
    induction l with
    | nil => exact fun t => ⟨t.sp, rfl, rfl, fun x => Nat.le_refl _⟩
    | cons y l ih =>
      intro t
      rw [List.foldl_cons]
      split
      next =>
        obtain ⟨q, hq, hports, hlen⟩ := State.postNotice_length y (Fm.faultNotice c source s.clock) t
        rw [hq]
        obtain ⟨p, hp, hpports, hplen⟩ := ih { t with sp := q }
        refine ⟨p, hp, hpports.trans hports, fun x => (hplen x).trans ?_⟩
        have hx := hlen x
        rw [List.count_cons]
        by_cases hxy : y = x
        · rw [if_pos (beq_iff_eq.mpr hxy)]
          rw [if_pos hxy.symm] at hx
          exact (Nat.add_le_add_right hx _).trans (by omega)
        · rw [if_neg (fun h => hxy (beq_iff_eq.mp h))]
          rw [if_neg (Ne.symm hxy)] at hx
          exact Nat.add_le_add_right hx _
      next =>
        obtain ⟨p, hp, hpports, hplen⟩ := ih t
        exact ⟨p, hp, hpports, fun x => (hplen x).trans (Nat.add_le_add_left List.count_le_count_cons _)⟩
  obtain ⟨p, hp, hports, hlen⟩ := key (List.finRange 4) s
  refine ⟨p, hp, hports, fun x => (hlen x).trans (Nat.add_le_add_left ?_ _)⟩
  exact List.nodup_iff_count_le_one.mp (List.nodup_finRange 4) x

/-- A report latches a condition or counts: the sources for which a condition holds stay. -/
theorem State.latch_writes (c : Cond) (source : Nat) (s : State) :
    ∃ (f : Fm) (p : Sp), (s.latch c source).1 = { s with fm := f, sp := p } ∧ p.ports = s.sp.ports ∧ f.groups = s.fm.groups ∧
      (∀ x : Station, (p.queues[x]).notices.length ≤ (s.sp.queues[x]).notices.length + 1) ∧
      ∀ d : Fin 23, (f.conds[d]).active = (s.fm.conds[d]).active := by
  have hset : ∀ (r : CondRec), r.active = (s.fm.conds[c.index]).active → ∀ d : Fin 23,
      ((s.fm.setCond c r).conds[d]).active = (s.fm.conds[d]).active := by
    intro r hr d
    by_cases hd : d = c.index
    · subst hd
      exact (congrArg CondRec.active (get_set_same ..)).trans hr
    · exact congrArg CondRec.active (get_set_ne _ hd _)
  simp only [State.latch]
  split
  · exact ⟨_, s.sp, rfl, rfl, rfl, fun x => Nat.le_succ _, hset _ rfl⟩
  · obtain ⟨p, hp, hports, hlen⟩ := State.tellSubscribers_writes c source (s.setFm (s.fm.setCond c
      { s.fm.conds[c.index] with latched := true, firstSource := some source, firstAt := s.clock, occurrences := 1 }).judgeAlert)
    exact ⟨_, p, hp, hports, rfl, hlen, hset _ rfl⟩

theorem Ev.raiseIn_active (n : Nat) (c : Cond) (source : Nat) (e : Ev) (d : Fin 23) :
    ((e.raiseIn n c source).s.fm.conds[d]).active = (e.s.fm.conds[d]).active := by
  have hlatch : ∀ (c : Cond) (source : Nat) (s : State),
      ((s.latch c source).1.fm.conds[d]).active = (s.fm.conds[d]).active := fun c source s => by
    obtain ⟨f, p, h, -, -, -, hact⟩ := State.latch_writes c source s
    rw [h]
    exact hact d
  induction n generalizing c source e with
  | zero =>
    simp only [Ev.raiseIn]
    split <;> exact hlatch ..
  | succ n ih =>
    have hsub : ∀ sub, ((({ e with s := (e.s.latch c source).1 } : Ev).submitFault sub).1.s.fm.conds[d]).active =
        (e.s.fm.conds[d]).active := fun sub =>
      (congrArg (fun f : Fm => (f.conds[d]).active) (Ev.submitFault_aside ..).fm).trans (hlatch ..)
    simp only [Ev.raiseIn]
    split
    · split
      · exact hsub _
      · exact (ih ..).trans (hsub _)
    · exact hlatch ..

/-- A condition reported to hold for a source holds for it; the others hold for what they held for. -/
theorem Ev.condHolds_active (c : Cond) (source : Nat) (e : Ev) :
    source ∈ ((e.condHolds c source).s.fm.conds[c.index]).active := by
  unfold Ev.condHolds
  simp only
  split
  next h => exact List.contains_iff_mem.mp h
  next =>
    rw [Ev.raise, Ev.raiseIn_active]
    show source ∈ ((e.s.fm.setCond c _).conds[c.index]).active
    rw [show (e.s.fm.setCond c _).conds[c.index] = _ from get_set_same ..]
    exact (mem_insertBy ..).mpr (.inl rfl)

/-! ### Reports of a group that is not paged (R191) -/

theorem Ev.raise_unpaged {c : Cond} {e : Ev} (h : (e.s.fm.groups[c.group]).paging = false) (source : Nat) :
    e.raise c source = e.on fun s => (s.latch c source).1 := by
  have hno : (e.s.latch c source).2 = false := by
    simp only [State.latch]
    split
    · rfl
    · simp only [h, Bool.and_false]
  unfold Ev.raise Ev.raiseIn
  simp only [hno]
  rfl

/-- A condition of a group that is not paged: the report stays with the fault monitor and the subscribers. -/
theorem Ev.condHolds_unpaged {c : Cond} {e : Ev} (h : (e.s.fm.groups[c.group]).paging = false) (source : Nat) :
    ∃ (f : Fm) (p : Sp), e.condHolds c source = e.on (fun s => { s with fm := f, sp := p }) ∧ p.ports = e.s.sp.ports ∧
      ∀ x : Station, (p.queues[x]).notices.length ≤ (e.s.sp.queues[x]).notices.length + 1 := by
  unfold Ev.condHolds
  simp only
  split
  · exact ⟨e.s.fm, e.s.sp, rfl, rfl, fun x => Nat.le_succ _⟩
  · rw [Ev.raise_unpaged ?paging]
    case paging => exact h
    obtain ⟨f, p, hlatch, hports, -, hlen, -⟩ := State.latch_writes c source (e.s.setFm (e.s.fm.setCond c
      { e.s.fm.conds[c.index] with
        active := insertBy (fun a b => decide (a < b)) source (e.s.fm.conds[c.index]).active }))
    exact ⟨f, p, congrArg (fun t : State => Ev.mk t e.work e.begun e.again) hlatch, hports, hlen⟩

end Sys2Proof.Machine
end

section
/-! PROOFS. A fault of an oven through the rest of its event, and a tripped load (R17, R41, R45, R56). -/

namespace Sys2Proof.Machine

open Sys2Proof

/-! ### A STOPPED channel stays so through an event (R17) -/

/-- Channel `c` is STOPPED, and no move of it waits. -/
structure Ev.Parked (c : Chan) (e : Ev) : Prop where
  stopped : (e.s.fse.channels[c]).state = .stopped
  still : ∀ j : Option StepIx, Report.moveOn c j ∉ e.work

namespace Ev.Parked

variable {c : Chan} {e f : Ev}

theorem running (h : Parked c e) : e.s.running c = none := State.running_none (.inl (by rw [h.stopped]; decide))

theorem of_eq (h : Parked c e) (he : f = e) : Parked c f := he ▸ h

/-- A report about another channel. -/
theorem of_only {d : Chan} (h : Parked c e) (k : e.Only d f) (hd : c ≠ d) : Parked c f :=
  ⟨by rw [k.others c hd]; exact h.stopped, fun j hj => h.still j (k.moves c j hd hj)⟩

/-- A change that leaves STATE alone. -/
theorem on (h : Parked c e) (g : State → State) (hg : ((g e.s).fse.channels[c]).state = (e.s.fse.channels[c]).state) :
    Parked c (e.on g) := ⟨hg.trans h.stopped, h.still⟩

theorem onChan (h : Parked c e) (g : ChanRec → ChanRec) (hg : (g e.s.fse.channels[c]).state = (e.s.fse.channels[c]).state) :
    Parked c (e.on (State.onChan c g)) := h.on _ ((congrArg ChanRec.state (State.setChan_get ..)).trans hg)

theorem entryEnded (h : Parked c e) (i : ResIx) (n : Nat) (short : Bool) : Parked c (e.entryEnded c i n short) := by
  have hon := h.onChan (fun ch => { ch with reservation := none }) rfl
  unfold Ev.entryEnded
  split
  · simp only [hon.running]
    exact hon
  · exact h

theorem pageEnded (h : Parked c e) (n : Nat) (o : PageOutcome) : Parked c (e.pageEnded c n o) := by
  have hon := h.onChan (fun ch => { ch with page := none }) rfl
  unfold Ev.pageEnded
  split
  · simp only [hon.running]
    exact hon
  · exact h

theorem entryReady (h : Parked c e) (i : ResIx) (n : Nat) : Parked c (e.entryReady c i n) := by
  unfold Ev.entryReady
  simp only [h.running]
  exact h

theorem coreFault (h : Parked c e) : Parked c (e.coreFault c) := by
  unfold Ev.coreFault
  simp only [h.running]
  exact h

theorem linkLost (h : Parked c e) (x : Station) : Parked c (e.linkLost c x) := by
  unfold Ev.linkLost
  simp only [h.running, ite_self]
  exact h

theorem entryFree (h : Parked c e) : Parked c e.entryFree := by
  unfold Ev.entryFree
  split
  · exact h
  next d _ =>
    have hon := h.on (State.onFse (fun f => { f.leaveEntry d with entryServed := d })) rfl
    simp only
    by_cases hd : c = d
    · subst hd
      simp only [hon.running]
      exact hon
    · split
      · split
        · exact hon.of_only (.askPlates ..) hd
        · exact hon
      · exact hon

theorem placeFree (h : Parked c e) : Parked c e.placeFree := by
  unfold Ev.placeFree
  split
  · exact h
  next d _ =>
    have hon := h.on (State.onFse (fun f => { f.leavePlace d with placeServed := d })) rfl
    simp only
    by_cases hd : c = d
    · subst hd
      simp only [hon.running]
      exact hon
    · split
      · split
        · exact hon.of_only (.askPage ..) hd
        · exact hon
      · exact hon

/-- Any report but a move of the channel itself leaves it STOPPED. -/
theorem take (h : Parked c e) {r : Report} (hr : ∀ j, r ≠ .moveOn c j) : Parked c (e.take r) := by
  have own : ∀ (d : Chan) (f : Ev), e.Only d f → (c = d → Parked c f) → Parked c f := fun d f k hf =>
    (eq_or_ne c d).elim hf (h.of_only k)
  cases r with
  | moveOn d j => exact own d _ (.moveOn ..) fun hd => absurd rfl (hd ▸ hr j)
  | cavityReading d =>
    exact own d _ (.cavityReading ..) fun hd => by
      subst hd; exact h.of_eq (Ev.cavityReading_unsettled (.inl h.running))
  | coreReading d =>
    exact own d _ (.coreReading ..) fun hd => by subst hd; exact h.of_eq (Ev.coreReading_idle h.running)
  | ovenFault d => exact own d _ (.ovenFault ..) fun hd => by subst hd; exact h.of_eq (Ev.ovenFault_rest (.inr h.stopped))
  | coreFault d => exact own d _ (.coreFault ..) fun hd => by subst hd; exact h.coreFault
  | entryReady d i n => exact own d _ (.entryReady ..) fun hd => by subst hd; exact h.entryReady i n
  | entryEnded d i n b => exact own d _ (.entryEnded ..) fun hd => by subst hd; exact h.entryEnded i n b
  | entryFree => exact h.entryFree
  | pageEnded d n o => exact own d _ (.pageEnded ..) fun hd => by subst hd; exact h.pageEnded n o
  | placeFree => exact h.placeFree
  | linkLost d x => exact own d _ (.linkLost ..) fun hd => by subst hd; exact h.linkLost x

theorem drain (n : Nat) (h : Parked c e) : Parked c (e.drain n) := by
  induction n generalizing e with
  | zero => exact h
  | succ n ih =>
    unfold Ev.drain
    split
    · exact h
    next r w hw =>
      have hrest : Parked c { e with work := w } :=
        ⟨h.stopped, fun j hj => h.still j (by rw [hw]; exact List.mem_cons_of_mem _ hj)⟩
      refine ih (hrest.take fun j hj => h.still j ?_)
      rw [hw, hj]
      exact List.mem_cons_self

end Ev.Parked

theorem goesOn_fault (r : StepRec) : r.goesOn .fault = false := by
  unfold StepRec.goesOn; split <;> rfl

theorem goesOn_probeFault (r : StepRec) : r.goesOn .probeFault = false := by
  unfold StepRec.goesOn; split <;> rfl

/-- A fault of its oven in RUN or HOLD parks the channel. -/
theorem Ev.ovenFault_parks {c : Chan} {e : Ev}
    (h : ((e.s.fse.channels[c]).state = .run ∧ (e.s.fse.channels[c]).current.isSome = true) ∨ (e.s.fse.channels[c]).state = .hold)
    (hno : ∀ j, Report.moveOn c j ∉ e.work) : (e.ovenFault c).Parked c := by
  rcases h with ⟨hrun, hcur⟩ | hhold
  · obtain ⟨i, hi⟩ := Option.isSome_iff_exists.mp hcur
    obtain ⟨-, ⟨owner, stacked, last, hch⟩, -, hmoves, -⟩ := Ev.endStep_ends_engine hrun hi (goesOn_fault e.s.fse.steps[i])
    rw [Ev.ovenFault_run hrun]
    refine ⟨?_, fun j hj => hno j (hmoves c j hj)⟩
    rw [hch]
    refine (ChanRec.closed_state ..).1.trans ?_
    rw [if_neg fun h => (by cases h.2), if_neg (by decide), if_pos rfl]
  · obtain ⟨l, p, owner, stacked, last, hfault, -⟩ := Ev.ovenFault_hold hhold
    rw [hfault]
    exact ⟨congrArg ChanRec.state (State.setChan_get ..), hno⟩

/-- An event that begins with a fault of an oven in RUN or HOLD leaves its channel STOPPED. -/
theorem Ev.finish_stops {c : Chan} {w : List Report} {e : Ev}
    (h : ((e.s.fse.channels[c]).state = .run ∧ (e.s.fse.channels[c]).current.isSome = true) ∨ (e.s.fse.channels[c]).state = .hold)
    (hwork : e.work = .ovenFault c :: w) (hno : ∀ j, Report.moveOn c j ∉ w) :
    (e.finish.fse.channels[c]).state = .stopped := by
  have hfinish : e.finish = (Ev.drain 131071 (Ev.ovenFault c { e with work := w })).s :=
    congrArg Ev.s (Ev.drain_cons 131071 hwork)
  rw [hfinish]
  exact (Ev.Parked.drain 131071 (Ev.ovenFault_parks (e := { e with work := w }) h hno)).stopped

/-! ### A tripped load with its output off (R56) -/

/-- The load is tripped, asks for nothing, and its output is off. -/
structure LoadRec.Dead (r : LoadRec) : Prop where
  trip : r.trip = true
  request : r.request = 0
  preload : r.preload = 0
  shadow : r.shadow = 0
  output : r.output = false

/-- From `a` to `b` TRIP has not changed, and a dead load is dead. -/
structure LoadRec.Keeps (a b : LoadRec) : Prop where
  trip : b.trip = a.trip
  dead : a.Dead → b.Dead

theorem LoadRec.Keeps.refl (a : LoadRec) : a.Keeps a := ⟨rfl, id⟩
theorem LoadRec.Keeps.trans {a b c : LoadRec} (h : a.Keeps b) (k : b.Keeps c) : a.Keeps c :=
  ⟨k.trip.trans h.trip, fun d => k.dead (h.dead d)⟩

/-- Every load keeps its TRIP, and a dead one is dead. -/
def State.LoadsKept (s t : State) : Prop := ∀ l : LoadIx, (s.hlu.loads[l]).Keeps t.hlu.loads[l]

theorem State.LoadsKept.refl (s : State) : s.LoadsKept s := fun _ => .refl _
theorem State.LoadsKept.trans {s t u : State} (h : s.LoadsKept t) (k : t.LoadsKept u) : s.LoadsKept u :=
  fun l => (h l).trans (k l)
theorem State.LoadsKept.of_loads {s t : State} (h : t.hlu.loads = s.hlu.loads) : s.LoadsKept t := fun l => by
  rw [h]; exact .refl _

theorem State.setLoad_kept {l : LoadIx} {r : LoadRec} {s : State} (h : (s.hlu.loads[l]).Keeps r) : s.LoadsKept (s.setLoad l r) :=
  fun m => by
    by_cases hm : m = l
    · subst hm
      rw [State.setLoad_get]
      exact h
    · rw [State.setLoad_get_ne hm]
      exact .refl _

/-- A load that is tripped is not ENABLED. -/
theorem LoadRec.state_of_trip {r : LoadRec} (h : r.trip = true) : r.state ≠ .enabled := by
  unfold LoadRec.state
  rw [h]
  split
  · decide
  · split <;> decide

theorem LoadRec.requestOf_tripped {r : LoadRec} (h : r.trip = true) (p : ProbeRec) : r.requestOf p = 0 := by
  unfold LoadRec.requestOf
  rw [decide_eq_true (LoadRec.state_of_trip h), Bool.or_true, Bool.true_or]
  rfl

/-- The preload fraction of a load with no request. -/
theorem LoadRec.settlePreload_zero {r : LoadRec} (h : r.request = 0) :
    (r.settlePreload).preload = 0 ∧ (r.settlePreload).request = 0 ∧ (r.settlePreload).trip = r.trip := by
  unfold LoadRec.settlePreload
  simp only [h, Nat.min_zero]
  split <;> exact ⟨rfl, rfl, rfl⟩

theorem LoadRec.settlePreload_dead {r : LoadRec} (h : r.Dead) : r.settlePreload.Dead := by
  have hf : ¬ min r.grant r.request < r.preload := by rw [h.preload]; exact Nat.not_lt_zero _
  have hz : min r.grant r.request = 0 := by rw [h.request]; exact Nat.min_zero _
  unfold LoadRec.settlePreload
  simp only [hf, if_false]
  exact ⟨h.trip, h.request, hz, h.shadow, h.output⟩

theorem State.recompute_kept (l : LoadIx) (s : State) : s.LoadsKept (s.recompute l) := by
  refine State.setLoad_kept ⟨?_, fun h => LoadRec.settlePreload_dead ?_⟩
  · obtain ⟨preload, shadow, output, h⟩ := LoadRec.settlePreload_eq
      { s.hlu.loads[l] with request := (s.hlu.loads[l]).requestOf s.hlu.probes[controlProbe l] }
    rw [h]
  · exact ⟨h.trip, LoadRec.requestOf_tripped h.trip _, h.preload, h.shadow, h.output⟩

theorem State.handSetpoint_kept (l : LoadIx) (v : Int) (a : Bool) (s : State) : s.LoadsKept (s.handSetpoint l v a) := by
  unfold State.handSetpoint
  simp only
  split
  · exact .refl s
  · have hset : s.LoadsKept (s.setLoad l { s.hlu.loads[l] with setpoint := v, active := a }) :=
      State.setLoad_kept ⟨rfl, fun h => ⟨h.trip, h.request, h.preload, h.shadow, h.output⟩⟩
    exact hset.trans (State.recompute_kept l _)

/-- No report that the engine takes clears a TRIP or wakes a dead load. -/
theorem kept_loads (s0 : State) : Kept False (fun s => s0.LoadsKept s) where
  bound := fun b => b.elim
  onFse := fun _ _ h => h
  handSetpoint := fun l v a s h => h.trans (State.handSetpoint_kept l v a s)
  onPpu := fun _ _ _ _ h => h
  postNotice := fun x n s h => by
    obtain ⟨p, hp, -⟩ := State.postNotice_eq x n s
    rw [hp]; exact h
  joinWaiting := fun _ _ _ h => h
  setPgu := fun _ _ _ h => h
  latch := fun c source s h => h.trans (.of_loads (by rw [(State.desk_eq (State.latch_desk c source s)).2.2.1]))
  setActive := fun _ _ _ h => h

theorem Ev.finish_loads (e : Ev) : e.s.LoadsKept e.finish := (kept_loads e.s).finish (.refl e.s)

/-- A load shut with its TRIP set is dead. -/
theorem State.shutLoad_dead (l : LoadIx) (s : State) :
    ((s.shutLoad l (fun r => { r with trip := true })).hlu.loads[l]).Dead := by
  let r : LoadRec := { s.hlu.loads[l] with trip := true }
  have hget : ((s.setLoad l r).recompute l).hlu.loads[l] =
      ({ r with request := r.requestOf s.hlu.probes[controlProbe l] } : LoadRec).settlePreload := by
    refine (State.setLoad_get ..).trans ?_
    rw [State.setLoad_get]
    rfl
  obtain ⟨hpre, hreq, htrip⟩ := LoadRec.settlePreload_zero
    (r := { r with request := r.requestOf s.hlu.probes[controlProbe l] }) (LoadRec.requestOf_tripped rfl _)
  have hshut : (s.shutLoad l (fun r => { r with trip := true })).hlu.loads[l] =
      (((s.setLoad l r).recompute l).hlu.loads[l]).shut := State.setLoad_get ..
  rw [hshut, hget]
  exact ⟨htrip, hreq, hpre, rfl, rfl⟩

end Sys2Proof.Machine
end

section
/-! PROOFS. Trips, lost probes and what they do to a channel (R17, R22, R23, R41, R45, R55, R56). -/

namespace Sys2Proof.Machine

open Sys2Proof

/-! ### Valid conversions (R44, R56) -/

/-- Judging a warmer's readiness is a matter of its warmer record alone. -/
theorem State.judgeWarmer_same (w : WarmerIx) (s : State) :
    (s.judgeWarmer w).fse = s.fse ∧ (s.judgeWarmer w).fm = s.fm ∧ (s.judgeWarmer w).hlu = s.hlu := by
  unfold State.judgeWarmer
  simp only
  split
  · split
    · exact ⟨rfl, rfl, rfl⟩
    · exact ⟨rfl, rfl, rfl⟩
  all_goals
    split
    · exact ⟨rfl, rfl, rfl⟩
    · exact ⟨rfl, rfl, rfl⟩

/-- From `e` to `f` a probe's users have been told: the engine's records and the fault monitor's list of ovens that overheat
stand, no load has lost or gained a TRIP, and what is handed on is no move and comes after what waited. -/
structure Ev.Tells (e f : Ev) : Prop where
  fse : f.s.fse = e.s.fse
  overheat : (f.s.fm.conds[Cond.overheat.index]).active = (e.s.fm.conds[Cond.overheat.index]).active
  loads : e.s.LoadsKept f.s
  work : ∃ w, f.work = e.work ++ w ∧ ∀ c j, Report.moveOn c j ∉ w

namespace Ev.Tells

variable {e f g : Ev}

theorem refl (e : Ev) : e.Tells e := ⟨rfl, rfl, .refl _, [], (List.append_nil _).symm, fun _ _ => List.not_mem_nil⟩

theorem trans (h : e.Tells f) (k : f.Tells g) : e.Tells g := by
  obtain ⟨w, hw, hno⟩ := h.work
  obtain ⟨w', hw', hno'⟩ := k.work
  refine ⟨k.fse.trans h.fse, k.overheat.trans h.overheat, h.loads.trans k.loads, w ++ w', ?_, fun c j hm => ?_⟩
  · rw [hw', hw, List.append_assoc]
  · exact (List.mem_append.mp hm).elim (hno c j) (hno' c j)

theorem on (g : State → State) (hfse : (g e.s).fse = e.s.fse) (hfm : (g e.s).fm = e.s.fm) (hl : e.s.LoadsKept (g e.s)) :
    e.Tells (e.on g) :=
  ⟨hfse, congrArg (fun f : Fm => (f.conds[Cond.overheat.index]).active) hfm, hl, [], (List.append_nil _).symm,
    fun _ _ => List.not_mem_nil⟩

theorem hand (r : Report) (hr : ∀ c j, r ≠ .moveOn c j) : e.Tells (e.hand r) :=
  ⟨rfl, rfl, .refl _, [r], rfl, fun c j hm => hr c j (List.mem_singleton.mp hm).symm⟩

theorem recompute (l : LoadIx) : e.Tells (e.on (State.recompute l)) := by
  obtain ⟨_, _, _, _, h⟩ := State.recompute_eq l e.s
  exact on _ (by rw [h]; rfl) (by rw [h]; rfl) (State.recompute_kept l e.s)

theorem condEnds (c : Cond) (hc : c ≠ .overheat) (source : Nat) : e.Tells (e.condEnds c source) := by
  have hi : Cond.overheat.index ≠ c.index := by
    revert hc
    cases c <;> decide
  exact ⟨rfl, congrArg CondRec.active (get_set_ne _ hi _), .refl _, [], (List.append_nil _).symm,
    fun _ _ => List.not_mem_nil⟩

theorem judgeWarmer (w : WarmerIx) : e.Tells (e.on (State.judgeWarmer w)) := by
  obtain ⟨hfse, hfm, hhlu⟩ := State.judgeWarmer_same w e.s
  exact on _ hfse hfm (.of_loads (by rw [hhlu]))

theorem readingUpdate (p : ProbeIx) : e.Tells (e.readingUpdate p) := by
  have hload : e.Tells (match loadOf p with
      | some l => e.on (State.recompute l)
      | none => e) := by
    split
    · exact recompute _
    · exact refl e
  have hrinse : ∀ f : Ev, e.Tells f →
      e.Tells (if p = rinseProbe then f.on (fun s => s.rinseReading (s.hlu.probes[p]).reading) else f) := by
    intro f hf
    split
    · exact hf.trans (on _ rfl rfl (.of_loads rfl))
    · exact hf
  unfold Ev.readingUpdate
  refine hrinse _ ?_
  split
  · exact hload.trans (hand _ fun _ _ h => by cases h)
  · exact hload.trans (hand _ fun _ _ h => by cases h)
  · exact hload.trans (judgeWarmer _)
  · exact hload

end Ev.Tells

/-- What follows the trip comparator at a valid conversion tells the probe's users. -/
theorem Ev.validConversion_tells (p : ProbeIx) (raw : Int) (e : Ev) :
    (e.compareTrip p raw).Tells (e.validConversion p raw) := by
  have hset : ∀ (f : Ev) (r : ProbeRec), f.Tells (f.on (State.setProbe p r)) := fun f r => .on _ rfl rfl (.of_loads rfl)
  have hends : ∀ f : Ev, f.Tells ((f.condEnds .probeLost p.val).condEnds .probeRange p.val) := fun f =>
    .trans (.condEnds _ (by decide) _) (.condEnds _ (by decide) _)
  unfold Ev.validConversion
  simp only
  split
  · split
    · exact ((hset _ _).trans (hends _)).trans (.readingUpdate p)
    · exact (hset _ _).trans (hends _)
  · split
    · exact (hset _ _).trans (.readingUpdate p)
    · exact hset _ _

/-! ### The trip comparator (R56) -/

/-- Whether the trip comparator trips load `l` on a raw conversion (R56). -/
def LoadRec.TripsAt (r : LoadRec) (raw : Int) : Prop := 0 < r.rating ∧ r.testing = false ∧ r.trip = false ∧ r.tripLimit ≤ raw

theorem LoadRec.tripsAt_iff (r : LoadRec) (raw : Int) :
    (r.installed && !r.testing && !r.trip && decide (r.tripLimit ≤ raw)) = true ↔ r.TripsAt raw := by
  unfold LoadRec.TripsAt LoadRec.installed
  simp only [Bool.and_eq_true, Bool.not_eq_true', decide_eq_true_eq, and_assoc]

theorem Ev.compareTrip_passes {p : ProbeIx} {l : LoadIx} {raw : Int} {e : Ev} (hl : loadOf p = some l)
    (h : ¬ (e.s.hlu.loads[l]).TripsAt raw) : e.compareTrip p raw = e := by
  unfold Ev.compareTrip
  simp only [hl]
  exact if_neg fun hc => h ((LoadRec.tripsAt_iff ..).mp hc)

theorem Ev.compareTrip_trips {p : ProbeIx} {l : LoadIx} {raw : Int} {e : Ev} (hl : loadOf p = some l)
    (h : (e.s.hlu.loads[l]).TripsAt raw) :
    e.compareTrip p raw = ((e.on (State.shutLoad l (fun x => { x with trip := true }))).condHolds .overheat l.val).loadChanged l
      (e.s.hlu.loads[l]).state := by
  unfold Ev.compareTrip
  simp only [hl]
  exact if_pos ((LoadRec.tripsAt_iff ..).mpr h)

/-- The loss of a load is no matter of the loads and of the fault monitor. -/
theorem Ev.loadLost_same (l : LoadIx) (e : Ev) : (e.loadLost l).s.hlu = e.s.hlu ∧ (e.loadLost l).s.fm = e.s.fm := by
  unfold Ev.loadLost
  split <;> exact ⟨rfl, rfl⟩

theorem Ev.loadChanged_same (l : LoadIx) (before : LoadState) (e : Ev) :
    (e.loadChanged l before).s.hlu = e.s.hlu ∧ (e.loadChanged l before).s.fm = e.s.fm := by
  unfold Ev.loadChanged
  simp only
  split
  · exact Ev.loadLost_same l e
  · exact ⟨rfl, rfl⟩

theorem Ev.condHolds_same (c : Cond) (source : Nat) (e : Ev) :
    (e.condHolds c source).s.hlu = e.s.hlu ∧ (e.condHolds c source).s.fse = e.s.fse := by
  obtain ⟨-, hfse, hhlu, -⟩ := State.desk_eq (Ev.condHolds_desk c source e)
  exact ⟨hhlu, hfse⟩

/-- A trip leaves the load dead, and OVERHEAT holds for it. -/
theorem Ev.compareTrip_dead {p : ProbeIx} {l : LoadIx} {raw : Int} {e : Ev} (hl : loadOf p = some l)
    (h : (e.s.hlu.loads[l]).TripsAt raw) :
    ((e.compareTrip p raw).s.hlu.loads[l]).Dead ∧
      l.val ∈ ((e.compareTrip p raw).s.fm.conds[Cond.overheat.index]).active := by
  let f := e.on (State.shutLoad l (fun x => { x with trip := true }))
  obtain ⟨hhlu, hfm⟩ := Ev.loadChanged_same l (e.s.hlu.loads[l]).state (f.condHolds .overheat l.val)
  rw [Ev.compareTrip_trips hl h, hhlu, hfm, (Ev.condHolds_same ..).1]
  exact ⟨State.shutLoad_dead l e.s, Ev.condHolds_active ..⟩

/-- An accepted rising edge before its conversion (R42). -/
def Ev.edged (e : Ev) (p : ProbeIx) : Ev :=
  e.on fun s => (s.setProbe p { e.s.hlu.probes[p] with
    lineLevel := .high, stale := 0, capture := 0, periodOpen := true, highTime := none }).setLine p .high

theorem Ev.risingEdge_valid {p : ProbeIx} {elapsed h : Nat} {v : Int} {e : Ev} (ho : (e.s.hlu.probes[p]).periodOpen = true)
    (hh : (e.s.hlu.probes[p]).highTime = some h)
    (hv : convert (min 65535 ((e.s.hlu.probes[p]).capture + elapsed)) h = .valid v) :
    e.risingEdge p elapsed = (e.edged p).validConversion p v := by
  have hv' : convert ((e.s.hlu.probes[p]).after elapsed) h = .valid v := hv
  unfold Ev.risingEdge
  simp only [ho, hh, hv']
  rfl

/-! ### The faults of an oven (R17, R41, R45, R55, R56) -/

theorem loadOf_cavityProbe (c : Chan) : loadOf (cavityProbe c) = some (ovenLoad c) := by
  unfold loadOf cavityProbe ovenLoad
  exact dif_pos c.isLt

theorem ovenOf_ovenLoad (c : Chan) : ovenOf (ovenLoad c) = some c := by
  unfold ovenOf ovenLoad
  exact dif_pos c.isLt

theorem cavityOf_cavityProbe (c : Chan) : cavityOf (cavityProbe c) = some c := by
  unfold cavityOf cavityProbe
  exact dif_pos c.isLt

theorem cavityProbe_ne_rinse (c : Chan) : cavityProbe c ≠ rinseProbe := fun h => by
  have hv : c.val = 32 := congrArg Fin.val h
  omega

theorem Ev.loadLost_oven (c : Chan) (e : Ev) : e.loadLost (ovenLoad c) = e.hand (.ovenFault c) := by
  unfold Ev.loadLost
  simp only [ovenOf_ovenLoad]

theorem LoadRec.state_enabled {r : LoadRec} (h : r.state = .enabled) :
    r.testing = false ∧ (r.cutoutFail || r.checkFail) = false ∧ r.trip = false := by
  unfold LoadRec.state at h
  cases htest : r.testing <;> cases hfail : (r.cutoutFail || r.checkFail) <;> cases htrip : r.trip <;>
    simp_all

/-- Shutting a load writes that load alone: its flags, and what is derived. -/
theorem State.shutLoad_writes (l : LoadIx) (f : LoadRec → LoadRec) (s : State) :
    ∃ request preload : Nat, s.shutLoad l f = s.setLoad l { f s.hlu.loads[l] with
      request := request, preload := preload, shadow := 0, output := false } := by
  obtain ⟨request, preload, shadow, output, h⟩ := State.recompute_eq l (s.setLoad l (f s.hlu.loads[l]))
  refine ⟨request, preload, ?_⟩
  unfold State.shutLoad
  simp only [h, State.setLoad_get, State.setLoad_setLoad]
  rfl

/-- A trip of an oven that is ENABLED, its group not paged, is handed to the channel at once (R17). -/
theorem Ev.compareTrip_oven {c : Chan} {raw : Int} {e : Ev} (hpaging : (e.s.fm.groups[0]).paging = false)
    (hr : 0 < (e.s.hlu.loads[ovenLoad c]).rating) (hen : (e.s.hlu.loads[ovenLoad c]).state = .enabled)
    (hlim : (e.s.hlu.loads[ovenLoad c]).tripLimit ≤ raw) :
    (e.compareTrip (cavityProbe c) raw).s.fse = e.s.fse ∧
      (e.compareTrip (cavityProbe c) raw).work = e.work ++ [.ovenFault c] := by
  obtain ⟨htest, hfail, htrip⟩ := LoadRec.state_enabled hen
  obtain ⟨request, preload, hshut⟩ := State.shutLoad_writes (ovenLoad c) (fun x => { x with trip := true }) e.s
  let f := e.on (State.shutLoad (ovenLoad c) (fun x => { x with trip := true }))
  have hf : (f.s.fm.groups[Cond.overheat.group]).paging = false := by rw [Ev.on_s, hshut]; exact hpaging
  obtain ⟨m, p, hholds, -⟩ := Ev.condHolds_unpaged hf (ovenLoad c).val
  have hdown : (f.s.hlu.loads[ovenLoad c]).state = .tripped := by
    rw [Ev.on_s, hshut, State.setLoad_get]
    unfold LoadRec.state
    simp only [htest, hfail, Bool.false_eq_true, if_false, if_true]
  have hdown' : ((f.on fun s => { s with fm := m, sp := p }).s.hlu.loads[ovenLoad c]).state = .tripped := hdown
  rw [Ev.compareTrip_trips (loadOf_cavityProbe c) ⟨hr, htest, htrip, hlim⟩, hholds, hen]
  unfold Ev.loadChanged
  rw [if_pos ⟨by rw [hdown']; decide, by rw [hdown']; rfl⟩, Ev.loadLost_oven]
  have hfse : f.s.fse = e.s.fse := by rw [Ev.on_s, hshut]; rfl
  exact ⟨hfse, rfl⟩

theorem State.recompute_fse (l : LoadIx) (s : State) : (s.recompute l).fse = s.fse := by
  obtain ⟨_, _, _, _, h⟩ := State.recompute_eq l s
  rw [h]
  rfl

/-- A probe of an oven that has just become LOST, its group not paged, is handed to the channel (R17, R41, R45). -/
theorem Ev.overflow_lost {c : Chan} {e : Ev} (hpaging : (e.s.fm.groups[0]).paging = false)
    (hstale : 2 ≤ (e.s.hlu.probes[cavityProbe c]).stale) (hok : (e.s.hlu.probes[cavityProbe c]).faulted = false) :
    (e.overflow (cavityProbe c)).s.fse = e.s.fse ∧ (e.overflow (cavityProbe c)).work = e.work ++ [.ovenFault c] := by
  have hthree : 3 ≤ min 255 ((e.s.hlu.probes[cavityProbe c]).stale + 1) := by omega
  have hprobe : ∀ f : Ev, (f.probeFault (cavityProbe c)).s.fse = f.s.fse ∧
      (f.probeFault (cavityProbe c)).work = f.work ++ [.ovenFault c] := by
    intro f
    unfold Ev.probeFault
    simp only [loadOf_cavityProbe, cavityOf_cavityProbe, if_neg (cavityProbe_ne_rinse c)]
    exact ⟨State.recompute_fse .., rfl⟩
  unfold Ev.overflow
  simp only [if_pos hthree, hok, Bool.false_eq_true, if_false]
  obtain ⟨m, p, hholds, -⟩ := Ev.condHolds_unpaged (c := .probeLost) (e := e.on (State.setProbe (cavityProbe c)
    { e.s.hlu.probes[cavityProbe c] with
      capture := 0, stale := min 255 ((e.s.hlu.probes[cavityProbe c]).stale + 1), periodOpen := false, highTime := none
      validRun := 0, lost := some (e.s.hlu.probes[cavityProbe c]).lineLevel })) hpaging (cavityProbe c).val
  rw [hholds]
  exact hprobe _

section Running

variable {c : Chan} {i : StepIx} {e : Ev}

/-- A fault of the oven of a running channel stops it, and its record is returned FAULT (R17, R33). -/
theorem Ev.ovenFault_running (hrun : (e.s.fse.channels[c]).state = .run) (hcur : (e.s.fse.channels[c]).current = some i) :
    ((e.ovenFault c).s.fse.channels[c]).state = .stopped ∧ ((e.ovenFault c).s.hlu.loads[ovenLoad c]).active = false ∧
      ((e.ovenFault c).s.fse.steps[i]).completion.outcome = .fault ∧ ((e.ovenFault c).s.fse.steps[i]).owner = .station ∧
      ((e.ovenFault c).s.fse.steps[i]).claim = none := by
  obtain ⟨hrec, ⟨owner, stacked, last, hch⟩, ⟨-, hact, -⟩, -⟩ :=
    Ev.endStep_ends_engine hrun hcur (goesOn_fault e.s.fse.steps[i])
  have hclosed : ((e.s.fse.channels[c]).closed .fault ((e.s.fse.steps[i]).endsByEnd .fault)
      (e.s.fse.steps[i]).holdSetpoint).state = .stopped := by
    rw [(ChanRec.closed_state ..).1, if_neg fun h => (by cases h.2), if_neg (by decide), if_pos rfl]
  rw [Ev.ovenFault_run hrun, hact, hch, hrec]
  refine ⟨hclosed, ?_, rfl, rfl, rfl⟩
  unfold ChanRec.demand
  simp only [hclosed]

/-- A step that watches the core probe (R22, R23). -/
def StepRec.WatchesCore (r : StepRec) : Prop := r.kind = .core ∨ (r.kind = .soak ∧ r.coreTarget.isSome = true)

/-- A fault of the core probe ends a step that watches it, and the chain in the fallback hold (R17, R33). -/
theorem Ev.coreFault_watched (hrun : (e.s.fse.channels[c]).state = .run) (hcur : (e.s.fse.channels[c]).current = some i)
    (h : (e.s.fse.steps[i]).WatchesCore) :
    ((e.coreFault c).s.fse.channels[c]).state = .hold ∧
      ((e.coreFault c).s.fse.channels[c]).holdSetpoint = (e.s.fse.channels[c]).fallback ∧
      ((e.coreFault c).s.fse.steps[i]).completion.outcome = .probeFault ∧ ((e.coreFault c).s.fse.steps[i]).owner = .station := by
  have hends : e.coreFault c = e.endStep c .probeFault := by
    unfold Ev.coreFault
    simp only [State.running_eq hrun hcur]
    exact if_pos h.symm
  obtain ⟨hrec, ⟨owner, stacked, last, hch⟩, -⟩ := Ev.endStep_ends_engine hrun hcur (goesOn_probeFault e.s.fse.steps[i])
  rw [hends, hch, hrec, StepRec.endsByEnd_of_ne (by decide), ChanRec.closed_fallback _ (by decide) (by decide)]
  exact ⟨rfl, rfl, rfl, rfl⟩

theorem Ev.coreFault_passed (hrun : (e.s.fse.channels[c]).state = .run) (hcur : (e.s.fse.channels[c]).current = some i)
    (h : ¬ (e.s.fse.steps[i]).WatchesCore) : e.coreFault c = e := by
  unfold Ev.coreFault
  simp only [State.running_eq hrun hcur]
  exact if_neg fun hk => h hk.symm

theorem Ev.coreFault_resting (h : (e.s.fse.channels[c]).state ≠ .run ∨ (e.s.fse.channels[c]).current = none) :
    e.coreFault c = e := by
  unfold Ev.coreFault
  simp only [State.running_none h]

end Running

/-- SET LOAD with RATING 0 for an oven that was installed is handed to the channel (R17, R55). -/
theorem Ev.cmdSetLoad_unrated {c : Chan} {load : Byte} {im : LoadImage} {e : Ev} (hload : load.toNat = c.val)
    (him : im.rating = 0) (hr : 0 < (e.s.hlu.loads[ovenLoad c]).rating) (htest : (e.s.hlu.loads[ovenLoad c]).testing = false) :
    (cmdSetLoad load im e).1.s.fse = e.s.fse ∧ (cmdSetLoad load im e).1.work = e.work ++ [.ovenFault c] := by
  have hload' : load.toNat = (ovenLoad c).val := hload
  have hzero : ((e.s.hlu.loads[ovenLoad c]).configured im).rating = 0 := by
    show clampNat 0 6000 im.rating.toNat = 0
    rw [him]
    rfl
  rw [cmdSetLoad, withIndex_some (ovenLoad c) hload']
  simp only [htest, Bool.false_eq_true, if_false, hr, hzero, and_self, if_true, Ev.loadLost_oven]
  exact ⟨State.recompute_fse .., rfl⟩

/-- Settles O18: the trip comparator through its event; the three faults, each of which hands the channel its report first; and
the reports by the state of the channel. -/
theorem tripAndOvenFaultRules : Obligations.TripAndOvenFaultRules := by
  refine ⟨fun p l elapsed s h v hl ho hh hv => ?_, fun c s hpaging hch => ?_, fun c e => ?_⟩
  · intro r trips
    have hedge := Ev.risingEdge_valid (e := Ev.start s) ho hh hv
    refine ⟨_, rfl, fun htrips => ?_, fun hno => ?_⟩
    · obtain ⟨hdead, hover⟩ := Ev.compareTrip_dead (e := (Ev.start s).edged p) hl htrips
      have htells := Ev.validConversion_tells p v ((Ev.start s).edged p)
      rw [hedge, Ev.finish_fm, htells.overheat]
      obtain ⟨htrip, hreq, hpre, hshadow, hout⟩ := (Ev.finish_loads _ l).dead ((htells.loads l).dead hdead)
      exact ⟨htrip, hreq, hpre, hshadow, hout, hover⟩
    · have hpass := Ev.compareTrip_passes (e := (Ev.start s).edged p) (raw := v) hl hno
      have htells := Ev.validConversion_tells p v ((Ev.start s).edged p)
      rw [hpass] at htells
      rw [hedge, Ev.finish_fm, htells.overheat, (Ev.finish_loads _ l).trip, (htells.loads l).trip]
      exact ⟨rfl, rfl⟩
  · intro stops p l
    refine ⟨fun elapsed h v ho hh hv hr hen hlim => ?_, fun hstale hok => ?_, fun x load im hload him hr htest => ?_⟩
    · obtain ⟨hfse, hwork⟩ := Ev.compareTrip_oven (e := (Ev.start s).edged (cavityProbe c)) hpaging hr hen hlim
      have htells := Ev.validConversion_tells (cavityProbe c) v ((Ev.start s).edged (cavityProbe c))
      obtain ⟨w, hw, hno⟩ := htells.work
      refine ⟨_, rfl, ?_⟩
      rw [Ev.risingEdge_valid (e := Ev.start s) ho hh hv]
      refine Ev.finish_stops (w := w) ?_ (by rw [hw, hwork]; rfl) (hno c)
      rw [htells.fse, hfse]
      exact hch
    · obtain ⟨hfse, hwork⟩ := Ev.overflow_lost (e := Ev.start s) hpaging hstale hok
      refine ⟨_, rfl, Ev.finish_stops (w := []) ?_ hwork fun _ => List.not_mem_nil⟩
      rw [hfse]
      exact hch
    · obtain ⟨hfse, hwork⟩ := Ev.cmdSetLoad_unrated (e := Ev.start s) hload him hr htest
      refine ⟨_, rfl, ?_⟩
      refine Ev.finish_stops (w := []) ?_ hwork fun _ => List.not_mem_nil
      rw [hfse]
      exact hch
  · refine ⟨Ev.ovenFault_rest, fun hhold => ?_, fun i hrun hcur => ?_, fun hnot => Ev.coreFault_resting (.inl hnot)⟩
    · obtain ⟨l, p, owner, stacked, last, hfault, hact, hnotice⟩ := Ev.ovenFault_hold hhold
      have ht : e.take (.ovenFault c) = e.ovenFault c := rfl
      rw [ht, hfault]
      refine ⟨congrArg ChanRec.state (State.setChan_get ..), ?_, rfl, hnotice⟩
      exact (congrArg LoadRec.active (State.setLoad_get ..)).trans hact
    · obtain ⟨hstate, hact, hout, howner, hclaim⟩ := Ev.ovenFault_running hrun hcur
      exact ⟨hstate, hact, hout, howner, hclaim, Ev.coreFault_watched hrun hcur, Ev.coreFault_passed hrun hcur⟩

end Sys2Proof.Machine
end

section
/-! PROOFS. The silence timers, and the chain a silent station loses (R18, R208). -/

namespace Sys2Proof.Machine

open Sys2Proof

theorem exec_shortTimerExpiry (x : Station) (s : State) :
    exec (.shortTimerExpiry x) s = happened ((Ev.start s).shortExpiry x) := rfl

theorem exec_longTimerExpiry (x : Station) (s : State) :
    exec (.longTimerExpiry x) s = happened ((Ev.start s).longExpiry x) := rfl

/-! ### The expiries (R208) -/

/-- The event in which the SHORT TIMER of a port has run out, before anyone is told. -/
def Ev.slowed (e : Ev) (x : Station) : Ev :=
  e.on fun s => s.setPort x { s.sp.ports[x] with slow := true, shortLeft := none }

/-- The event in which the LONG TIMER of a port has run out, before anyone is told. -/
def Ev.silent (e : Ev) (x : Station) : Ev :=
  e.on fun s => s.setPort x { s.sp.ports[x] with lost := true, longLeft := none }

/-- What the engine is handed about a silent station for a list of channels (R18, R208). -/
def silence (x : Station) (l : List Chan) : List Report := l.map fun c => .linkLost c x

section Expiries

variable {x : Station} {e : Ev}

theorem Ev.shortExpiry_stopped (h : (e.s.sp.ports[x]).shortLeft = none) : e.shortExpiry x = e := by
  unfold Ev.shortExpiry
  simp only [h, Option.isSome_none, Bool.false_eq_true, if_false]

theorem Ev.longExpiry_stopped (h : (e.s.sp.ports[x]).longLeft = none) : e.longExpiry x = e := by
  unfold Ev.longExpiry
  simp only [h, Option.isSome_none, Bool.false_eq_true, if_false]

theorem Ev.shortExpiry_runs (h : (e.s.sp.ports[x]).shortLeft.isSome = true) :
    e.shortExpiry x = (e.slowed x).condHolds .slow x.val := by
  unfold Ev.shortExpiry
  simp only [h, if_true]
  rfl

/-- Reports handed on one by one wait in their order behind what waited. -/
theorem Ev.hand_all (x : Station) (l : List Chan) (e : Ev) :
    l.foldl (fun y c => y.hand (.linkLost c x)) e = { e with work := e.work ++ silence x l } := by
  induction l generalizing e with
  | nil => exact congrArg (fun w => { e with work := w }) (List.append_nil _).symm
  | cons c l ih =>
    rw [List.foldl_cons, ih]
    exact congrArg (fun w => { e with work := w }) (List.append_assoc ..)

theorem Ev.longExpiry_runs (h : (e.s.sp.ports[x]).longLeft.isSome = true) :
    e.longExpiry x = { (e.silent x).condHolds .lost x.val with
      work := ((e.silent x).condHolds .lost x.val).work ++ if (e.s.sp.ports[x]).holdAction then silence x (List.finRange 12) else [] } := by
  unfold Ev.longExpiry
  simp only [h, if_true]
  split
  · exact Ev.hand_all x _ _
  · rw [List.append_nil]
    rfl

end Expiries

/-- A condition that an event reports holds through the event for its source, and what a block of the part does not touch
stands. -/
theorem Ev.condHolds_finish (c : Cond) (source : Nat) (e : Ev) (w : List Report) :
    let t := ({ e.condHolds c source with work := w } : Ev).finish
    t.sp.ports = e.s.sp.ports ∧ source ∈ (t.fm.conds[c.index]).active ∧ t.clock = e.s.clock ∧
      t.hlu.probes = e.s.hlu.probes ∧ t.pba = e.s.pba ∧ t.ppu.pools = e.s.ppu.pools ∧ t.dlu = e.s.dlu := by
  let f : Ev := { e.condHolds c source with work := w }
  have hside : f.finish.side = e.s.side := (Ev.finish_side f).trans ((kept_side e.s).condHolds rfl)
  obtain ⟨hclock, hprobes, -, hpba, hpools, -, hdlu, -⟩ :=
    State.still_eq ((Ev.finish_still f).trans (Ev.condHolds_still c source e))
  refine ⟨congrArg Prod.fst hside, ?_, hclock, hprobes, hpba, hpools, hdlu⟩
  rw [Ev.finish_fm]
  exact Ev.condHolds_active ..

/-! ### Reports that are passed (R18) -/

/-- Reports that each leave the event as it is are taken without effect. -/
theorem Ev.drain_passes {e : Ev} {w rest : List Report}
    (hpass : ∀ r ∈ w, ∀ v, ({ e with work := v } : Ev).take r = { e with work := v }) (n : Nat) :
    Ev.drain (w.length + n) { e with work := w ++ rest } = Ev.drain n { e with work := rest } := by
  induction w with
  | nil => rw [List.length_nil, Nat.zero_add, List.nil_append]
  | cons r w ih =>
    have hlen : (r :: w).length + n = (w.length + n) + 1 := by rw [List.length_cons]; omega
    rw [hlen, List.cons_append, Ev.drain]
    simp only
    rw [hpass r List.mem_cons_self]
    exact ih fun q hq => hpass q (List.mem_cons_of_mem _ hq)

theorem Ev.linkLost_passed {c : Chan} {x : Station} {e : Ev}
    (h : (e.s.fse.channels[c]).state = .run → (e.s.fse.channels[c]).owner ≠ some x) : e.linkLost c x = e := by
  unfold Ev.linkLost
  split
  next howner => rw [State.running_none (.inl fun hrun => h hrun howner)]
  next => rfl

theorem Ev.linkLost_taken {c : Chan} {x : Station} {i : StepIx} {e : Ev} (howner : (e.s.fse.channels[c]).owner = some x)
    (hrun : (e.s.fse.channels[c]).state = .run) (hcur : (e.s.fse.channels[c]).current = some i) :
    e.linkLost c x = e.endStep c .linkLost := by
  unfold Ev.linkLost
  rw [if_pos howner, State.running_eq hrun hcur]

theorem goesOn_linkLost (r : StepRec) : r.goesOn .linkLost = false := by
  unfold StepRec.goesOn; split <;> rfl

/-- Where the silent station owns no running channel of a list, the reports about them are passed. -/
theorem Ev.silence_passes {x : Station} {l : List Chan} {e : Ev}
    (h : ∀ c ∈ l, (e.s.fse.channels[c]).state = .run → (e.s.fse.channels[c]).owner ≠ some x) :
    ∀ r ∈ silence x l, ∀ v, ({ e with work := v } : Ev).take r = { e with work := v } := by
  intro r hr v
  obtain ⟨c, hc, rfl⟩ := List.mem_map.mp hr
  exact Ev.linkLost_passed (e := { e with work := v }) (h c hc)

/-- Reports that are all passed leave the state. -/
theorem Ev.finish_passes {e : Ev} {w : List Report}
    (hpass : ∀ r ∈ w, ∀ v, ({ e with work := v } : Ev).take r = { e with work := v }) {n : Nat} (hn : w.length ≤ n) :
    (Ev.drain n { e with work := w }).s = e.s := by
  obtain ⟨m, rfl⟩ := Nat.exists_eq_add_of_le hn
  have h := Ev.drain_passes (rest := []) hpass m
  rw [List.append_nil] at h
  rw [h, Ev.drain_quiet _ rfl]

theorem silence_length (x : Station) (l : List Chan) : (silence x l).length = l.length := List.length_map ..

/-- The silence of a station that owns no running channel is without effect. -/
theorem Ev.finish_silence {x : Station} {e : Ev}
    (h : ∀ c : Chan, (e.s.fse.channels[c]).state = .run → (e.s.fse.channels[c]).owner ≠ some x) :
    ({ e with work := silence x (List.finRange 12) } : Ev).finish = e.s := by
  refine Ev.finish_passes (Ev.silence_passes fun c _ => h c) ?_
  rw [silence_length, List.length_finRange]
  decide

/-- Of a silent station that owns one running channel, that channel's report alone has effect. -/
theorem Ev.finish_silence_one {x : Station} {c : Chan} {i : StepIx} {e : Ev}
    (hrun : (e.s.fse.channels[c]).state = .run) (howner : (e.s.fse.channels[c]).owner = some x)
    (hcur : (e.s.fse.channels[c]).current = some i) (hres : (e.s.fse.channels[c]).reservation = none)
    (hpage : (e.s.fse.channels[c]).page = none)
    (hothers : ∀ d : Chan, d ≠ c → (e.s.fse.channels[d]).state = .run → (e.s.fse.channels[d]).owner ≠ some x) :
    e.s.FellBack c i .linkLost ({ e with work := silence x (List.finRange 12) } : Ev).finish := by
  obtain ⟨a, b, hab⟩ := List.append_of_mem (List.mem_finRange c)
  have hnodup : c ∉ a ++ b := by
    have h : (a ++ c :: b).Nodup := hab ▸ List.nodup_finRange 12
    exact (List.nodup_cons.mp (List.nodup_middle.mp h)).1
  have hother : ∀ d ∈ a ++ b, d ≠ c := fun d hd hdc => hnodup (hdc ▸ hd)
  have hbound : Config.reportBound = (silence x a).length + (b.length + 131060 + 1) := by
    have hlen := congrArg List.length hab
    rw [List.length_finRange, List.length_append, List.length_cons] at hlen
    rw [silence_length]
    show 131072 = _
    omega
  have hsplit : silence x (List.finRange 12) = silence x a ++ .linkLost c x :: silence x b := by
    rw [hab]
    exact List.map_append ..
  obtain ⟨t, hend, ht⟩ := Ev.endStep_fallsBack (e := { e with work := silence x b }) hrun hcur
    (goesOn_linkLost _) (by decide) (by decide) (by decide) hres hpage
  obtain ⟨hsame, -⟩ := ht.beside
  have hbefore := Ev.drain_passes (e := e) (rest := .linkLost c x :: silence x b)
    (Ev.silence_passes fun d hd => hothers d (hother d (List.mem_append_left b hd))) (b.length + 131060 + 1)
  have htaken : ({ e with work := silence x b } : Ev).take (.linkLost c x) = { e with s := t, work := silence x b } :=
    (Ev.linkLost_taken (e := { e with work := silence x b }) howner hrun hcur).trans hend
  have hafter : (Ev.drain (b.length + 131060) { e with s := t, work := silence x b }).s = t := by
    refine Ev.finish_passes (e := { e with s := t }) (Ev.silence_passes fun d hd => ?_) ?_
    · have hd' := hother d (List.mem_append_right a hd)
      show (t.fse.channels[d]).state = .run → (t.fse.channels[d]).owner ≠ some x
      rw [hsame d hd']
      exact hothers d hd'
    · rw [silence_length]
      exact Nat.le_add_right ..
  have hfinish : ({ e with work := silence x (List.finRange 12) } : Ev).finish = t := by
    unfold Ev.finish
    rw [hbound, hsplit, hbefore, Ev.drain_cons _ rfl, htaken, hafter]
  rw [hfinish]
  exact ht

/-- The expiry of a LONG TIMER whose group is not paged: the fault monitor and the notices are told, and the engine, where the
port's ACTION is HOLD. -/
theorem Ev.longExpiry_unpaged {x : Station} {e : Ev} (h : (e.s.sp.ports[x]).longLeft.isSome = true)
    (hpaging : (e.s.fm.groups[5]).paging = false) :
    ∃ (f : Fm) (p : Sp), e.longExpiry x = { e with
        s := { e.s with fm := f, sp := p }
        work := e.work ++ if (e.s.sp.ports[x]).holdAction then silence x (List.finRange 12) else [] } ∧
      ∀ y : Station, (p.queues[y]).notices.length ≤ (e.s.sp.queues[y]).notices.length + 1 := by
  obtain ⟨f, p, hholds, -, hlen⟩ := Ev.condHolds_unpaged (c := .lost) (e := e.silent x) hpaging x.val
  refine ⟨f, p, ?_, hlen⟩
  rw [Ev.longExpiry_runs h, hholds]
  rfl

/-- Settles O52: the reports about the channels that the silent station does not run are passed. -/
theorem silenceTimerRules : Obligations.SilenceTimerRules := by
  refine ⟨fun x s => ⟨fun h => ?_, fun h => ?_, fun h => ?_, fun h => ?_⟩,
    fun x s c i hlong haction hpaging hroom hrun howner hcur hres hpage hothers => ?_, fun x s hlong hpaging hpass => ?_⟩
  · rw [exec_shortTimerExpiry, Ev.shortExpiry_stopped (e := Ev.start s) h]
    exact happened_quiet _ rfl
  · rw [exec_longTimerExpiry, Ev.longExpiry_stopped (e := Ev.start s) h]
    exact happened_quiet _ rfl
  · rw [exec_shortTimerExpiry, Ev.shortExpiry_runs (e := Ev.start s) h]
    exact ⟨_, rfl, Ev.condHolds_finish .slow x.val ((Ev.start s).slowed x) _⟩
  · rw [exec_longTimerExpiry, Ev.longExpiry_runs (e := Ev.start s) h]
    exact ⟨_, rfl, Ev.condHolds_finish .lost x.val ((Ev.start s).silent x) _⟩
  · obtain ⟨f, p, hexp, hlen⟩ := Ev.longExpiry_unpaged (e := Ev.start s) hlong hpaging
    rw [Ev.start_s, haction, if_pos rfl] at hexp
    let e : Ev := { Ev.start s with s := { s with fm := f, sp := p } }
    have ht := Ev.finish_silence_one (e := e) hrun howner hcur hres hpage hothers
    refine ⟨_, by rw [exec_longTimerExpiry, hexp]; rfl, ht.state, ht.owner.trans howner, ht.current, ht.holdSetpoint, ?_, ?_,
      ht.setpoint, ht.active, ht.beside.1⟩
    all_goals
      have hdone := e.s.doneNotices_length c i .linkLost
      have hx : (p.queues[x]).notices.length ≤ (s.sp.queues[x]).notices.length + 1 := hlen x
      have hfits : (e.s.sp.queues[x]).notices.length + (e.s.doneNotices c i .linkLost).length < 16 := by
        show (p.queues[x]).notices.length + _ < 16
        omega
    · exact ht.lastEnding x howner hfits
    · refine (congrArg (fun q : Vector NoticeQueue 4 => (q[x]).notices.getLast?) (ht.queues x howner hfits)).trans ?_
      simp only [get_set_same, List.getLast?_concat]
      rfl
  · obtain ⟨f, p, hexp, -⟩ := Ev.longExpiry_unpaged (e := Ev.start s) hlong hpaging
    let e : Ev := { Ev.start s with s := { s with fm := f, sp := p } }
    have hfinish : ((Ev.start s).longExpiry x).finish = { s with fm := f, sp := p } := by
      rw [hexp]
      rcases hpass with hno | hnone
      · rw [Ev.start_s, hno, if_neg Bool.false_ne_true]
        exact Ev.finish_quiet rfl
      · split
        · exact Ev.finish_silence (e := e) hnone
        · exact Ev.finish_quiet rfl
    refine ⟨_, rfl, ?_⟩
    rw [hfinish]
    exact ⟨rfl, rfl, rfl, rfl⟩

end Sys2Proof.Machine
end

section
/-! PROOFS. The request and the preload fraction of a load, and its output ticks (R50 to R54). -/

namespace Sys2Proof.Machine

open Sys2Proof

/-! ### The request (R50) -/

/-- The conditions of R50 under which a load asks for nothing. -/
def LoadRec.MayNotHeat (r : LoadRec) (p : ProbeRec) : Prop :=
  r.installed = false ∨ r.active = false ∨ r.state ≠ .enabled ∨ p.settled = false

theorem LoadRec.installed_iff (r : LoadRec) : r.installed = true ↔ 0 < r.rating := decide_eq_true_iff

theorem LoadRec.not_installed_iff (r : LoadRec) : r.installed = false ↔ r.rating = 0 := by
  rw [LoadRec.installed, decide_eq_false_iff_not, Nat.not_lt, Nat.le_zero]

theorem LoadRec.mayNotHeat_iff (r : LoadRec) (p : ProbeRec) :
    (!r.installed || !r.active || decide (r.state ≠ .enabled) || !p.settled) = true ↔ r.MayNotHeat p := by
  simp only [LoadRec.MayNotHeat, Bool.or_eq_true, Bool.not_eq_true', decide_eq_true_eq, or_assoc]

theorem LoadRec.requestOf_idle {r : LoadRec} {p : ProbeRec} (h : r.MayNotHeat p) : r.requestOf p = 0 :=
  if_pos ((r.mayNotHeat_iff p).mpr h)

theorem LoadRec.requestOf_heating {r : LoadRec} {p : ProbeRec} (h : ¬ r.MayNotHeat p) :
    r.requestOf p = if 0 < r.setpoint - p.reading then min 1000 (r.bias + 1000 * (r.setpoint - p.reading).toNat / r.pb) else 0 :=
  if_neg fun hc => h ((r.mayNotHeat_iff p).mp hc)

/-! ### The preload fraction (R51, R54) -/

theorem LoadRec.settlePreload_less {r : LoadRec} (h : min r.grant r.request < r.preload) :
    r.settlePreload = { r with
      preload := min r.grant r.request
      shadow := min r.shadow (min r.grant r.request * r.period / 1000)
      output := if min r.shadow (min r.grant r.request * r.period / 1000) ≤ r.phase then false else r.output } := if_pos h

theorem LoadRec.settlePreload_more {r : LoadRec} (h : r.preload ≤ min r.grant r.request) :
    r.settlePreload = { r with preload := min r.grant r.request } := if_neg (Nat.not_lt.mpr h)

theorem LoadRec.settlePreload_preload (r : LoadRec) : (r.settlePreload).preload = min r.grant r.request := by
  rcases Nat.lt_or_ge (min r.grant r.request) r.preload with h | h
  · rw [LoadRec.settlePreload_less h]
  · rw [LoadRec.settlePreload_more h]

/-- Settles O15, from the two branches of the request and of the preload fraction. -/
theorem requestAndPreloadRule : Obligations.RequestAndPreloadRule := by
  refine ⟨fun l p => ⟨fun h => LoadRec.requestOf_idle ?_, fun hrating hactive hstate hsettled => ?_⟩, fun l =>
    ⟨l.settlePreload_preload, fun h => ?_, fun h => ?_, ?_⟩⟩
  · exact h.imp_left l.not_installed_iff.mpr
  · have hheats : ¬ l.MayNotHeat p := by
      simp [LoadRec.MayNotHeat, l.installed_iff.mpr hrating, hactive, hstate, hsettled]
    rw [LoadRec.requestOf_heating hheats]
    refine ⟨fun h => if_neg (Int.not_lt.mpr h), fun d hd h => ?_⟩
    rw [h, if_pos (Int.natCast_pos.mpr hd), Int.toNat_natCast]
  · rw [LoadRec.settlePreload_less h]
    refine ⟨rfl, ?_⟩
    by_cases hphase : min l.shadow (min l.grant l.request * l.period / 1000) ≤ l.phase
    · simp only [if_pos hphase, decide_eq_false (Nat.not_lt.mpr hphase), Bool.and_false]
    · simp only [if_neg hphase, decide_eq_true (Nat.lt_of_not_le hphase), Bool.and_true]
  · rw [LoadRec.settlePreload_more h]
    exact ⟨rfl, rfl⟩
  · obtain ⟨preload, shadow, output, h⟩ := l.settlePreload_eq
    rw [h]

/-! ### Output ticks (R52, R53) -/

theorem LoadRec.tick_end {r : LoadRec} (h : r.period ≤ r.phase + 1) :
    r.tick = ({ r with phase := r.phase + 1 } : LoadRec).periodEnd := if_pos h

theorem LoadRec.tick_off {r : LoadRec} (hp : r.phase + 1 < r.period) (hs : r.shadow ≤ r.phase + 1) :
    r.tick = { r with phase := r.phase + 1, output := false } := (if_neg (Nat.not_le.mpr hp)).trans (if_pos hs)

theorem LoadRec.tick_on {r : LoadRec} (hp : r.phase + 1 < r.period) (hs : r.phase + 1 < r.shadow) :
    r.tick = { r with phase := r.phase + 1 } := (if_neg (Nat.not_le.mpr hp)).trans (if_neg (Nat.not_le.mpr hs))

theorem exec_outputTick (l : LoadIx) (s : State) :
    exec (.outputTick l) s = .next (s.setLoad l (s.hlu.loads[l]).tick) := rfl

/-- Settles O16, from the three outcomes of an output tick. -/
theorem outputTickRule : Obligations.OutputTickRule := by
  intro l s
  rw [exec_outputTick]
  refine ⟨fun hp hs => ?_, fun hp hs => ?_, fun hp => ?_⟩
  · rw [LoadRec.tick_on hp hs]
  · rw [LoadRec.tick_off hp hs]
  · rw [LoadRec.tick_end hp]
    rfl

end Sys2Proof.Machine
end

section
/-! PROOFS. An induction principle for the heat loops: a property of the loads, the probes and A IN FORCE that the few updates of
chapters 2 and 3 keep is kept by whatever a command or an event does. -/

namespace Sys2Proof.Machine

open Sys2Proof

/-! ### What the property reads, and what it has to survive -/

/-- The loads, the probes and A IN FORCE. -/
def State.heat (s : State) : Vector LoadRec 22 × Vector ProbeRec 34 × Nat := (s.hlu.loads, s.hlu.probes, s.pba.inForce)

/-- What a write before a recomputation of REQUEST leaves of a load: its output timing as it was, and no more of the budget
held than before (R51 to R55). -/
structure LoadRec.Rewrites (r q : LoadRec) : Prop where
  preload : q.preload = r.preload
  shadow : q.shadow = r.shadow
  period : q.period = r.period
  phase : q.phase = r.phase
  output : q.output = r.output
  held : q.grant * q.rating ≤ r.grant * r.rating

theorem LoadRec.Rewrites.refl (r : LoadRec) : r.Rewrites r := ⟨rfl, rfl, rfl, rfl, rfl, Nat.le_refl _⟩

/-- A load after its cutout test: its flags and the result (R59). -/
def LoadRec.tested (r : LoadRec) : LoadRec :=
  { r with testing := false, lastTest := if r.testPasses then .pass else .fail, cutoutFail := !r.testPasses, testStation := none }

/-- A property of the heat loops that holds after a device reset and that the updates of chapters 2 and 3 keep: a load
rewritten with its request recomputed after it, an output turned off, an output tick, a probe written, and an allocation. -/
structure HeatLaw (P : State → Prop) : Prop where
  reset : ∀ pins : Pins, P (State.resetWith pins)
  frame : ∀ s t : State, t.heat = s.heat → P s → P t
  rewrite : ∀ (l : LoadIx) (q : LoadRec) (s t : State), t.heat = (s.setLoad l q).heat → (s.hlu.loads[l]).Rewrites q → P s →
    P (t.recompute l)
  shut : ∀ (l : LoadIx) (s : State), P s → P (s.setLoad l (s.hlu.loads[l]).shut)
  tick : ∀ (l : LoadIx) (s : State), P s → P (s.setLoad l (s.hlu.loads[l]).tick)
  setProbe : ∀ (p : ProbeIx) (r : ProbeRec) (s : State),
    (loadOf p = none ∨ ((s.hlu.probes[p]).settled = true → r.settled = true)) → P s → P (s.setProbe p r)
  unsettle : ∀ (p : ProbeIx) (l : LoadIx) (r : ProbeRec) (s : State), loadOf p = some l → P s → P ((s.setProbe p r).recompute l)
  allocate : ∀ (b : Pba) (a : Nat) (pointer : LoadIx) (cause : AllocCause) (now : Nat) (s : State), P s →
    P ((s.setPba b).handGrants (allocationOf s.asks a pointer cause now))

theorem State.heat_of_desk {s t : State} (h : t.desk = s.desk) : t.heat = s.heat := by
  obtain ⟨-, -, hhlu, hpba, -⟩ := State.desk_eq h
  simp [State.heat, hhlu, hpba]

namespace HeatLaw

variable {P : State → Prop} (k : HeatLaw P)
include k

/-! ### One load, one probe -/

theorem same {f : State → State} {e : Ev} (hf : (f e.s).heat = e.s.heat) (h : P e.s) : P (e.on f).s := k.frame _ _ hf h

theorem recompute (l : LoadIx) {s : State} (h : P s) : P (s.recompute l) :=
  k.rewrite l s.hlu.loads[l] s s (by rw [State.setLoad_self]) (.refl _) h

theorem handSetpoint (l : LoadIx) (v : Int) (a : Bool) {s : State} (h : P s) : P (s.handSetpoint l v a) := by
  unfold State.handSetpoint
  simp only
  split
  · exact h
  · exact k.rewrite l _ s _ rfl ⟨rfl, rfl, rfl, rfl, rfl, Nat.le_refl _⟩ h

/-- Flags are written, and the output is off at once (R56, R58, R60). -/
theorem shutLoad (l : LoadIx) (f : LoadRec → LoadRec) {s : State} (hf : (s.hlu.loads[l]).Rewrites (f s.hlu.loads[l])) (h : P s) :
    P (s.shutLoad l f) :=
  k.shut l _ (k.rewrite l _ s _ rfl hf h)

/-- The paging unit, the fault monitor, the reservation table and the engine reach the heat loops by setpoints alone. -/
theorem kept : Kept False P where
  bound := fun b => b.elim
  onFse := fun _ s h => k.frame s _ rfl h
  handSetpoint := fun l v a _ h => k.handSetpoint l v a h
  onPpu := fun _ s _ _ h => k.frame s _ rfl h
  postNotice := fun x n s h => k.frame s _ (State.heat_of_desk (State.postNotice_desk x n s)) h
  joinWaiting := fun _ _ s h => k.frame s _ rfl h
  setPgu := fun _ s _ h => k.frame s _ rfl h
  latch := fun c source s h => k.frame s _ (State.heat_of_desk (State.latch_desk c source s)) h
  setActive := fun _ _ s h => k.frame s _ rfl h

/-! ### Readings, faults and conversions of a probe (R41 to R45) -/

theorem coolWarmer (w : WarmerIx) {s : State} (h : P s) : P (s.coolWarmer w) := k.frame s _ rfl h

theorem judgeWarmer (w : WarmerIx) {s : State} (h : P s) : P (s.judgeWarmer w) := by
  unfold State.judgeWarmer
  simp only
  split
  · split
    · exact k.frame s _ rfl h
    · exact h
  · split
    · exact k.coolWarmer w h
    · exact h
  · split
    · exact k.coolWarmer w h
    · exact h

theorem loadLost (l : LoadIx) {e : Ev} (h : P e.s) : P (e.loadLost l).s := by
  unfold Ev.loadLost
  split
  · exact h
  · exact k.coolWarmer _ h
  · exact h

theorem loadChanged (l : LoadIx) (before : LoadState) {e : Ev} (h : P e.s) : P (e.loadChanged l before).s := by
  unfold Ev.loadChanged
  simp only
  split
  · exact k.loadLost l h
  · exact h

theorem readingUpdate (p : ProbeIx) {e : Ev} (h : P e.s) : P (e.readingUpdate p).s := by
  have h1 : P (match loadOf p with
      | some l => e.on (State.recompute l)
      | none => e).s := by
    split
    · exact k.recompute _ h
    · exact h
  have h2 : ∀ f : Ev, P f.s → P (match cavityOf p, coreOf p, warmerOf p with
      | some c, _, _ => f.hand (.cavityReading c)
      | none, some c, _ => f.hand (.coreReading c)
      | none, none, some w => f.on (State.judgeWarmer w)
      | none, none, none => f).s := by
    intro f hf
    split
    · exact hf
    · exact hf
    · exact k.judgeWarmer _ hf
    · exact hf
  unfold Ev.readingUpdate
  simp only
  split
  · exact k.same rfl (h2 _ h1)
  · exact h2 _ h1

/-- A fault makes the probe UNSETTLED, and the request of its load is recomputed at once (R45). -/
theorem probeFault (p : ProbeIx) {e : Ev} (h : P e.s) : P (e.probeFault p).s := by
  have h1 : P (match loadOf p with
      | some l => (e.on fun s => s.setProbe p { s.hlu.probes[p] with settled := false, window := [] }).on (State.recompute l)
      | none => e.on fun s => s.setProbe p { s.hlu.probes[p] with settled := false, window := [] }).s := by
    split
    next l hl => exact k.unsettle p l _ e.s hl h
    next hn => exact k.setProbe p _ e.s (.inl hn) h
  have h2 : ∀ f : Ev, P f.s → P (if p = rinseProbe then f.on State.rinseFault else f).s := by
    intro f hf
    split
    · exact k.same rfl hf
    · exact hf
  unfold Ev.probeFault
  refine h2 _ ?_
  split
  · exact h1
  · exact h1
  · exact k.coolWarmer _ h1
  · exact h1

theorem compareTrip (p : ProbeIx) (raw : Int) {e : Ev} (h : P e.s) : P (e.compareTrip p raw).s := by
  unfold Ev.compareTrip
  split
  next => exact h
  next l _ =>
    simp only
    split
    · have hshut := k.shutLoad l (fun x => { x with trip := true }) ⟨rfl, rfl, rfl, rfl, rfl, Nat.le_refl _⟩ h
      exact k.loadChanged _ _ (k.kept.condHolds hshut)
    · exact h

/-- A valid conversion may make the probe SETTLED and never UNSETTLED (R44, R45). -/
theorem validConversion (p : ProbeIx) (raw : Int) {e : Ev} (h : P e.s) : P (e.validConversion p raw).s := by
  have hset : ∀ r : ProbeRec, (((e.compareTrip p raw).s.hlu.probes[p]).settled = true → r.settled = true) →
      P ((e.compareTrip p raw).on (State.setProbe p r)).s :=
    fun r hr => k.setProbe p r _ (.inr hr) (k.compareTrip p raw h)
  unfold Ev.validConversion
  simp only
  split
  · split
    · exact k.readingUpdate p (k.kept.condEnds (k.kept.condEnds (hset _ fun _ => rfl)))
    · exact k.kept.condEnds (k.kept.condEnds (hset _ id))
  · split
    · exact k.readingUpdate p (hset _ fun _ => rfl)
    · exact hset _ id

theorem invalidConversion (p : ProbeIx) {e : Ev} (h : P e.s) : P (e.invalidConversion p).s := by
  unfold Ev.invalidConversion
  simp only
  split
  · split
    · exact k.kept.condHolds (k.setProbe p _ _ (.inr id) h)
    · exact k.probeFault p (k.kept.condHolds (k.setProbe p _ _ (.inr id) h))
  · exact k.setProbe p _ _ (.inr id) h

theorem setLine (p : ProbeIx) (v : Level) {s : State} (h : P s) : P (s.setLine p v) := k.frame s _ rfl h

theorem risingEdge (p : ProbeIx) (elapsed : Nat) {e : Ev} (h : P e.s) : P (e.risingEdge p elapsed).s := by
  have hedge : P (e.edged p).s := k.setLine p _ (k.setProbe p _ _ (.inr id) h)
  unfold Ev.risingEdge
  simp only
  split
  · split
    · exact k.validConversion p _ hedge
    · exact k.invalidConversion p hedge
  · exact hedge
  · exact hedge

theorem fallingEdge (p : ProbeIx) (elapsed : Nat) {e : Ev} (h : P e.s) : P (e.fallingEdge p elapsed).s :=
  k.setLine p _ (k.setProbe p _ _ (.inr id) h)

theorem overflow (p : ProbeIx) {e : Ev} (h : P e.s) : P (e.overflow p).s := by
  unfold Ev.overflow
  simp only
  split
  · split
    · exact k.kept.condHolds (k.setProbe p _ _ (.inr id) h)
    · exact k.probeFault p (k.kept.condHolds (k.setProbe p _ _ (.inr id) h))
  · exact k.setProbe p _ _ (.inr id) h

/-! ### Trips, tests and verification (R57, R59, R60) -/

theorem resetLoad (l : LoadIx) {e : Ev} (h : P e.s) : P (e.resetLoad l).1.s := by
  unfold Ev.resetLoad
  simp only
  split
  · exact h
  · exact h
  · split
    · exact h
    · exact k.kept.condEnds (k.rewrite l _ e.s _ rfl ⟨rfl, rfl, rfl, rfl, rfl, Nat.le_refl _⟩ h)
  · split <;> exact h

/-- The end of a test writes flags, may raise CUTOUT TEST FAIL, and recomputes the request (R59). -/
theorem testCompletion (l : LoadIx) {e : Ev} (h : P e.s) : P (e.testCompletion l).s := by
  let r := e.s.hlu.loads[l]
  let f := e.on fun s => s.setLoad l r.tested
  have hdone : ∀ g : Ev, g.s.heat = f.s.heat → P ((g.on (State.recompute l)).loadChanged l r.state).s := fun g hg =>
    k.loadChanged l _ (k.rewrite l r.tested e.s g.s hg ⟨rfl, rfl, rfl, rfl, rfl, Nat.le_refl _⟩ h)
  have hresult : P (((if r.testPasses then f else f.raise .cutoutTestFail l.val).on (State.recompute l)).loadChanged l r.state).s := by
    split
    · exact hdone f rfl
    · exact hdone _ (State.heat_of_desk (Ev.raise_desk ..))
  unfold Ev.testCompletion
  simp only
  split
  · split
    · exact k.kept.postNotice _ _ _ hresult
    · exact hresult
  · exact h

theorem verifyLoad (l : LoadIx) {e : Ev} (h : P e.s) : P (e.verifyLoad l).s := by
  unfold Ev.verifyLoad
  simp only
  split
  · have hshut := k.shutLoad l (fun x => { x with checkFail := true }) ⟨rfl, rfl, rfl, rfl, rfl, Nat.le_refl _⟩ h
    exact k.loadChanged l _ (k.kept.raise hshut)
  · exact h

theorem verify {e : Ev} (h : P e.s) : P e.verify.s :=
  List.foldlRecOn (motive := fun f : Ev => P f.s) (List.finRange 22) _ (k.same rfl h) fun _ hf l _ => k.verifyLoad l hf

/-! ### The budget (R65 to R68, R75 to R81) -/

theorem clearHeadroom {e : Ev} (h : P e.s) : P e.clearHeadroom.s := by
  unfold Ev.clearHeadroom
  simp only
  split
  · split
    · exact k.kept.condEnds (k.same rfl h)
    · exact k.same rfl h
  · exact h

theorem judgeHeadroom (r : Allocation) {e : Ev} (h : P e.s) : P (e.judgeHeadroom r).s := by
  unfold Ev.judgeHeadroom
  split
  · split
    · exact h
    · exact k.kept.condHolds (k.same rfl h)
  · exact k.clearHeadroom h

theorem allocation (cause : AllocCause) {e : Ev} (h : P e.s) : P (e.allocate cause).s := by
  unfold Ev.allocate
  refine k.judgeHeadroom _ ?_
  split
  · exact k.kept.raise (k.allocate _ _ _ _ _ _ h)
  · exact k.allocate _ _ _ _ _ _ h

theorem restartInterval {s : State} (h : P s) : P s.restartInterval := k.frame s _ rfl h

theorem setBudget (cap unmanaged interval : Nat) {e : Ev} (h : P e.s) : P (e.setBudget cap unmanaged interval).s := by
  have hset : ∀ b : Pba, b.inForce = e.s.pba.inForce → P (e.on fun s => s.setPba b).s :=
    fun b hb => k.frame _ _ (congrArg (fun n => (e.s.hlu.loads, e.s.hlu.probes, n)) hb) h
  unfold Ev.setBudget
  simp only
  split
  · exact k.restartInterval (k.allocation .cut (hset _ rfl))
  · split
    · exact k.clearHeadroom (hset _ rfl)
    · exact hset _ rfl

end HeatLaw

end Sys2Proof.Machine
end

section
/-! PROOFS. Every command and every event keeps a property of the heat loops: what each does of it is a setpoint handed on, a load
or probe rewritten as chapter 2 says, or an allocation. -/

namespace Sys2Proof.Machine

open Sys2Proof

/-- A station command is taken by its block and answered (R205); one that only reads hands on nothing. -/
theorem exec_command {i : Instr} {x : Station} (h : senderOf i = some x) (s : State) :
    ∃ code : Byte, exec i s = concluded x code (takeCommand i (Ev.start s)) := by
  cases i <;> cases h <;> exact ⟨_, rfl⟩

theorem withIndex_keeps {P : State → Prop} {n v : Nat} {e : Ev} {f : Fin n → Ev × Response} (h : P e.s)
    (hf : ∀ i, P (f i).1.s) : P (withIndex v e f).1.s := by
  unfold withIndex
  split
  · exact hf _
  · exact h

namespace HeatLaw

variable {P : State → Prop} (k : HeatLaw P)
include k

/-! ### Plates and the dish line (chapters 4 and 6) -/

theorem sendFlow (kind : FlowPage) {e : Ev} (h : P e.s) : P (e.sendFlow kind).1.s := k.same rfl (k.kept.submitFlow h)

theorem dishNotice (index : Nat) (code : NoticeCode) (p1 p2 p3 : Nat) {s : State} (h : P s) :
    P (s.dishNotice index code p1 p2 p3) := k.kept.postNotice _ _ _ h

theorem soiledHandover (total : Nat) {e : Ev} (h : P e.s) : P (e.soiledHandover total).s := by
  have h1 : P (e.on (fun s => s.setFlow { s.dlu.flow with soiledTotal := total })).s := k.same rfl h
  have hflow : ∀ (f : Ev) (v : Flow), P f.s → P (f.s.setFlow v) := fun f v hf => k.frame f.s _ rfl hf
  unfold Ev.soiledHandover
  simp only
  split
  · split
    · exact k.dishNotice _ _ _ _ _ (hflow _ _ (k.sendFlow .release (hflow _ _ h1)))
    · exact h1
  · split
    · exact k.dishNotice _ _ _ _ _ (hflow _ _ (k.sendFlow .hold (hflow _ _ h1)))
    · exact h1

theorem soiledChanged (kind : Kind) (before : Nat) {e : Ev} (h : P e.s) : P (e.soiledChanged kind before).s := by
  unfold Ev.soiledChanged
  split
  · exact h
  · exact k.soiledHandover _ h

theorem movement (kind : Kind) (src dst : Place) (n : Nat) {e : Ev} (h : P e.s) : P (e.movement kind src dst n).1.s := by
  have h1 : P (e.on (fun s => s.setPool kind ((e.s.ppu.pools[kind]).move src dst n).1)).s := k.same rfl h
  unfold Ev.movement
  refine k.soiledChanged _ _ ?_
  split
  · exact k.kept.raise h1
  · exact h1

theorem rackEntry {e : Ev} (h : P e.s) : P e.rackEntry.s := by
  unfold Ev.rackEntry
  simp only
  split
  · split
    · exact k.movement _ _ _ _ (k.same rfl h)
    · exact k.movement _ _ _ _ (k.kept.raise (k.same rfl h))
  · split
    · exact k.kept.raise (k.same rfl h)
    · exact k.kept.raise (k.kept.raise (k.same rfl h))

theorem rackExit {e : Ev} (h : P e.s) : P e.rackExit.s := by
  unfold Ev.rackExit
  split
  · exact k.kept.raise h
  next r rest _ =>
    have h1 : P (e.on (fun s => s.setRacks rest)).s := k.same rfl h
    simp only
    split
    · split
      · exact k.movement _ _ _ _ h1
      · exact h1
    · refine k.dishNotice _ _ _ _ _ (k.kept.raise ?_)
      split
      · exact k.movement _ _ _ _ h1
      · exact h1

theorem jamCheck {e : Ev} (h : P e.s) : P e.jamCheck.s :=
  List.foldlRecOn (motive := fun f : Ev => P f.s) _ _ (k.same rfl h) fun _ hf _ _ => k.kept.raise hf

theorem report (c : Cond) (holds : Bool) {e : Ev} (h : P e.s) : P (e.report c holds).s := by
  unfold Ev.report
  split
  · exact k.kept.condHolds h
  · exact k.kept.condEnds h

theorem judgeConveyor {e : Ev} (h : P e.s) : P e.judgeStall.judgeFast.s := k.report _ _ (k.report _ _ h)

theorem conveyorPulse {e : Ev} (h : P e.s) : P e.conveyorPulse.s := by
  unfold Ev.conveyorPulse
  simp only
  split
  · split
    · exact k.judgeConveyor (k.same rfl h)
    · exact k.same rfl h
  · split
    · exact k.same rfl h
    · exact k.report _ _ (k.same rfl h)

theorem stallExpiry {e : Ev} (h : P e.s) : P e.stallExpiry.s := by
  unfold Ev.stallExpiry
  split
  · exact k.judgeConveyor (k.same rfl h)
  · exact h

theorem refresh {e : Ev} (h : P e.s) : P e.refresh.s := by
  unfold Ev.refresh
  simp only
  split
  · exact h
  · split
    · exact k.same rfl (k.sendFlow .hold h)
    · split
      · split
        · exact k.same rfl (k.sendFlow .release h)
        · exact k.same rfl (k.sendFlow .release h)
      · exact k.same rfl h

/-! ### The warmers (R93 to R101, R106) -/

theorem restartCounting (w : WarmerIx) {e : Ev} (h : P e.s) : P (e.restartCounting w).s := k.kept.condEnds (k.same rfl h)

theorem encoderFault (w : WarmerIx) {e : Ev} (h : P e.s) : P (e.encoderFault w).s := k.kept.condHolds (k.same rfl h)

theorem setCount (w : WarmerIx) (n : Nat) {s : State} (h : P s) : P (s.setCount w n) := k.frame s _ rfl h

theorem countDown (w : WarmerIx) {e : Ev} (h : P e.s) : P (e.countDown w).s := by
  unfold Ev.countDown
  simp only
  split
  · exact k.kept.chargeDraw (k.setCount w _ (k.movement _ _ _ _ h))
  · exact k.kept.revoke (k.setCount w _ (k.movement _ _ _ _ h))

theorem countUp (w : WarmerIx) {e : Ev} (h : P e.s) : P (e.countUp w).s :=
  k.kept.evaluate (k.setCount w _ (k.movement _ _ _ _ h))

theorem accumulate (w : WarmerIx) (edge : Int) {e : Ev} (h : P e.s) : P (e.accumulate w edge).s := by
  have hset : ∀ r : WarmerRec, P (e.on (fun s => s.setWarmer w r)).s := fun r => k.same rfl h
  unfold Ev.accumulate
  simp only
  split
  · split
    · exact k.encoderFault w (hset _)
    · exact k.countDown w (hset _)
  · split
    · split
      · exact k.encoderFault w (hset _)
      · exact k.countUp w (hset _)
    · exact hset _

theorem encoderPair (w : WarmerIx) (pair : Pair) {e : Ev} (h : P e.s) : P (e.encoderPair w pair).s := by
  have h1 : ∀ f : State → State, (∀ s, (f s).heat = s.heat) → P (e.on f).s := fun f hf => k.same (hf _) h
  unfold Ev.encoderPair
  simp only
  split
  · exact h1 _ fun _ => rfl
  · split
    · exact h1 _ fun _ => rfl
    · exact k.accumulate w _ (k.same rfl (h1 _ fun _ => rfl))
    · exact k.accumulate w _ (k.same rfl (h1 _ fun _ => rfl))
    · unfold Ev.invalidTurn
      simp only
      split
      · exact k.encoderFault w (k.same rfl (h1 _ fun _ => rfl))
      · exact k.same rfl (h1 _ fun _ => rfl)

theorem soakSecond (w : WarmerIx) {e : Ev} (h : P e.s) : P (e.soakSecond w).s := by
  unfold Ev.soakSecond
  simp only
  split
  · exact h
  · split
    · exact k.same rfl h
    · exact k.kept.evaluate (k.same rfl h)

/-! ### Transmissions and acknowledgements (R178 to R182) -/

theorem linkAfter (ok : Bool) {e : Ev} (h : P e.s) : P (e.linkAfter ok).s := by
  unfold Ev.linkAfter
  simp only
  split
  · split
    · exact k.same rfl h
    · exact k.kept.condEnds (k.same rfl h)
  · split
    · exact k.kept.condHolds (k.same rfl h)
    · exact k.same rfl h

theorem pageAfter (p : PageRec) (b : BadgeIx) (ok : Bool) {e : Ev} (h : P e.s) : P (e.pageAfter p b ok).s := by
  have hset : ∀ (q : PageRec) (ends : Bool),
      P (if ends then (e.on (fun s => s.setPgu (s.pgu.change p.number (fun _ => q)))).endPage q .done true
        else (e.on (fun s => s.setPgu (s.pgu.change p.number (fun _ => q)))).settlePage q).s := by
    have hchange : ∀ q : PageRec, P (e.on (fun s => s.setPgu (s.pgu.change p.number (fun _ => q)))).s := fun _ => k.kept.change h
    intro q ends
    split
    · exact k.kept.endPage (hchange q)
    · exact k.kept.settlePage (hchange q)
  exact hset _ _

theorem completeTx (f : InFlight) (ok : Bool) {e : Ev} (h : P e.s) : P (e.completeTx f ok).s := by
  have h1 : P ((e.on (fun s => s.setPgu { s.pgu with inFlight := none })).linkAfter ok).s := k.linkAfter ok (k.same rfl h)
  unfold Ev.completeTx
  refine k.kept.trySelect ?_
  split
  · exact h1
  · split
    · exact k.pageAfter _ _ _ h1
    · exact h1

theorem txDone (number address : Nat) (ok : Bool) {e : Ev} (h : P e.s) : P (e.txDone number address ok).s := by
  unfold Ev.txDone
  split
  · split
    · exact k.completeTx _ ok h
    · exact h
  · exact h

theorem txTimeout {e : Ev} (h : P e.s) : P e.txTimeout.s := by
  unfold Ev.txTimeout
  split
  · exact k.completeTx _ false h
  · exact h

theorem retry {e : Ev} (h : P e.s) : P e.retry.s := by
  unfold Ev.retry
  split
  · exact h
  · simp only
    split
    · exact k.kept.select (k.same rfl h)
    · exact k.same rfl h

theorem lateAnswer (number address : Nat) {s : State} (h : P s) : P (s.lateAnswer number address) := by
  unfold State.lateAnswer
  split
  · exact h
  · split
    · exact h
    · simp only
      split
      · exact k.kept.postNotice _ _ _ (k.frame s _ rfl h)
      · exact k.frame s _ rfl h

theorem countAck (p : PageRec) (b : BadgeIx) {e : Ev} (h : P e.s) : P (e.countAck p b).s := by
  unfold Ev.countAck
  simp only
  split
  · exact k.kept.endPage h
  · exact k.same rfl h

theorem ack (address number : Nat) {e : Ev} (h : P e.s) : P (e.ack address number).s := by
  unfold Ev.ack
  split
  · split
    · exact k.countAck _ _ h
    · exact k.lateAnswer number address h
  all_goals exact k.lateAnswer number address h

theorem deadline (number : Nat) {e : Ev} (h : P e.s) : P (e.deadline number).s := by
  have hleft : ∀ p : PageRec, P (e.on (fun s => s.setPgu (s.pgu.leave p .unanswered s.clock))).s := fun p => k.same rfl h
  unfold Ev.deadline
  split
  · exact h
  · split
    · exact h
    · split
      · exact k.kept.trySelect (k.kept.requeue h)
      · split
        · exact k.kept.endPage h
        · refine k.kept.reportPageEnd ?_
          split
          · exact k.kept.raise (hleft _)
          · exact hleft _

end HeatLaw
end Sys2Proof.Machine
end

section
/-! PROOFS. The station commands, the receivers of the ports, and single steps keep a property of the heat loops. -/

namespace Sys2Proof.Machine

open Sys2Proof

namespace HeatLaw

variable {P : State → Prop} (k : HeatLaw P)
include k

/-! ### Commands on step records and channels (R4, R11, R13 to R16) -/

theorem writeStep (idx : BitVec 16) (give : Byte) (im : StepImage) {e : Ev} (h : P e.s) : P (cmdWriteStep idx give im e).1.s := by
  refine withIndex_keeps h fun i => ?_
  split
  · exact h
  · split
    · simp only
      split
      · exact k.same rfl h
      · exact h
    all_goals exact h

theorem toIdle (c : Chan) {s : State} (h : P s) : P (s.toIdle c) := k.kept.handOven (k.kept.onChan _ _ h)

theorem start (x : Station) (chan : Byte) (first : BitVec 16) {e : Ev} (h : P e.s) : P (cmdStart x chan first e).1.s := by
  refine withIndex_keeps h fun c => withIndex_keeps h fun i => ?_
  simp only
  split
  · exact k.same rfl h
  · split
    · exact h
    · split
      · exact h
      · split
        · exact h
        · exact k.kept.beginStep (k.same rfl h)

theorem halt (chan : Byte) {e : Ev} (h : P e.s) : P (cmdHalt chan e).1.s := by
  refine withIndex_keeps h fun c => ?_
  split
  · exact k.kept.endStep h
  · exact k.toIdle c h
  · exact h
  · exact h

theorem releaseHold (chan : Byte) {e : Ev} (h : P e.s) : P (cmdReleaseHold chan e).1.s := by
  refine withIndex_keeps h fun c => ?_
  split
  · exact k.toIdle c h
  · exact h
  · exact h
  · exact h

theorem resetChannel (chan : Byte) {e : Ev} (h : P e.s) : P (cmdResetChannel chan e).1.s := by
  refine withIndex_keeps h fun c => ?_
  split
  · exact h
  · exact h
  · exact h
  · split
    · exact h
    · split
      · exact h
      · exact k.toIdle c (k.resetLoad _ h)

theorem setChannel (chan : Byte) (fallback : BitVec 16) {e : Ev} (h : P e.s) : P (cmdSetChannel chan fallback e).1.s :=
  withIndex_keeps h fun _ => k.same rfl h

/-! ### Commands on loads (R55, R57, R58, R61) -/

/-- A load that SET LOAD gives another rating loses its grant (R55). -/
theorem setLoad (load : Byte) (im : LoadImage) {e : Ev} (h : P e.s) : P (cmdSetLoad load im e).1.s := by
  refine withIndex_keeps h fun l => ?_
  let r := e.s.hlu.loads[l]
  have hwrites : r.Rewrites { r.configured im with
      checkFail := false, grant := if (r.configured im).rating = r.rating then r.grant else 0 } := by
    refine ⟨rfl, rfl, rfl, rfl, rfl, ?_⟩
    simp only
    split
    next heq => rw [heq]
    next => rw [Nat.zero_mul]; exact Nat.zero_le _
  have h1 := k.rewrite l _ e.s _ rfl hwrites h
  simp only
  split
  · exact h
  · simp only
    split
    · exact k.loadLost l h1
    · exact k.loadChanged l _ h1

theorem testCutout (x : Station) (load : Byte) {e : Ev} (h : P e.s) : P (cmdTestCutout x load e).1.s := by
  refine withIndex_keeps h fun l => ?_
  simp only
  split
  · exact h
  · split
    · exact h
    · split
      · exact h
      · exact k.shutLoad l (fun q => { q with testing := true, testStation := some x })
          ⟨rfl, rfl, rfl, rfl, rfl, Nat.le_refl _⟩ h

/-! ### Commands on the pool, the warmers and the reservations (chapters 4 and 5) -/

theorem inventorySet (kind : Byte) (stock : BitVec 32) {e : Ev} (h : P e.s) : P (cmdInventorySet kind stock e).1.s := by
  refine withIndex_keeps h fun i => ?_
  simp only
  split
  · exact h
  · exact k.same rfl h

theorem requeue (kind : Byte) (n : BitVec 16) {e : Ev} (h : P e.s) : P (cmdRequeue kind n e).1.s :=
  withIndex_keeps h fun _ => k.soiledChanged _ _ (k.same rfl h)

theorem warmerCount (warmer n : Byte) {e : Ev} (h : P e.s) : P (cmdWarmerCount warmer n e).1.s := by
  have hrecount : ∀ (w : WarmerIx) (m : Nat) (f : Ev), P f.s → P ((f.on (State.setCount w m)).restartCounting w).s :=
    fun w m f hf => k.restartCounting w (k.setCount w m hf)
  refine withIndex_keeps h fun w => ?_
  simp only
  split
  · exact h
  · split
    · exact k.kept.evaluate (hrecount _ _ _ (k.movement _ _ _ _ h))
    · split
      · exact k.kept.revoke (hrecount _ _ _ (k.movement _ _ _ _ h))
      · exact hrecount _ _ _ h

theorem setWarmer (warmer : Byte) (im : WarmerImage) {e : Ev} (h : P e.s) : P (cmdSetWarmer warmer im e).1.s := by
  refine withIndex_keeps h fun w => withIndex_keeps h fun kind => ?_
  let c := (e.s.ppu.warmers[w]).configured kind im
  have hset : P (e.on (State.setWarmer w c)).s := k.same rfl h
  have hcount : P (if (e.s.ppu.warmers[w]).capacity = 0 ∧ 0 < c.capacity then (e.on (State.setWarmer w c)).restartCounting w
      else e.on (State.setWarmer w c)).s := by
    split
    · exact k.restartCounting w hset
    · exact hset
  simp only
  split
  · exact h
  · split
    · exact h
    · refine k.handSetpoint _ _ _ (k.judgeWarmer w ?_)
      split
      · exact k.coolWarmer w hcount
      · exact hcount

theorem reserve (x : Station) (kind n : Byte) {e : Ev} (h : P e.s) : P (cmdReserve x kind n e).1.s := by
  refine withIndex_keeps h fun i => ?_
  split
  · exact h
  · split
    · exact h
    · exact k.kept.createEntry h

theorem cancelReservation (x : Station) (idx : Byte) (creation : BitVec 16) {e : Ev} (h : P e.s) :
    P (cmdCancelReservation x idx creation e).1.s := by
  refine withIndex_keeps h fun i => ?_
  split
  · exact h
  · split
    · exact h
    · exact k.kept.finishEntry h

/-! ### Commands on the dish line (R127 to R129) -/

theorem labelRack (kind count : Byte) {e : Ev} (h : P e.s) : P (cmdLabelRack kind count e).1.s := by
  refine withIndex_keeps h fun i => ?_
  split
  · exact h
  · split
    · exact h
    · exact k.same rfl h

theorem setDish (im : DishImage) {e : Ev} (h : P e.s) : P (cmdSetDish im e).1.s := by
  refine withIndex_keeps h fun station => ?_
  have hdish : ∀ d : Dlu, P (e.on (fun s => (s.setDlu d).handDish)).s := fun d =>
    k.handSetpoint _ _ _ (k.handSetpoint _ _ _ (k.frame e.s _ rfl h))
  simp only
  split
  · exact hdish _
  · exact k.report _ _ (hdish _)

/-! ### Commands on the roster and on pages (chapters 7 and 8) -/

theorem setBadge (badge : Byte) (address : BitVec 24) (role zone : Byte) {e : Ev} (h : P e.s) :
    P (cmdSetBadge badge address role zone e).1.s := by
  refine withIndex_keeps h fun b => ?_
  simp only
  split
  · exact h
  · split
    · exact h
    · split
      · exact h
      · exact k.same rfl h

theorem badgeState (badge st : Byte) {e : Ev} (h : P e.s) : P (cmdBadgeState badge st e).1.s := by
  refine withIndex_keeps h fun b => ?_
  split
  · exact h
  · simp only
    split
    · exact h
    · exact k.same rfl h

theorem page (x : Station) (im : PageImage) {e : Ev} (h : P e.s) : P (cmdPage x im e).1.s := by
  unfold cmdPage
  split
  · exact h
  · split
    · exact k.kept.submit (fun b => b.elim) h
    · exact h

theorem cancelPage (x : Station) (number : BitVec 16) {e : Ev} (h : P e.s) : P (cmdCancelPage x number e).1.s := by
  unfold cmdCancelPage
  split
  · exact h
  · split
    · exact h
    · split
      · exact h
      · exact k.kept.endPage h

theorem setPaging (im : PagingImage) {e : Ev} (h : P e.s) : P (cmdSetPaging im e).1.s := by
  unfold cmdSetPaging
  split
  · exact k.same rfl h
  · exact h

/-! ### Commands on the fault monitor, on notices and on ports (chapters 9 and 10) -/

theorem clearFaults (groups : Byte) {e : Ev} (h : P e.s) : P (cmdClearFaults groups e).1.s := by
  unfold cmdClearFaults
  split
  · exact h
  · split
    · exact h
    · exact k.same rfl h

theorem setFaultMask (masks : Vector Byte 6) {e : Ev} (h : P e.s) : P (cmdSetFaultMask masks e).1.s := by
  unfold cmdSetFaultMask
  split
  · exact k.same rfl h
  · exact h

theorem subscribeFaults (x : Station) (groups : Byte) {e : Ev} (h : P e.s) : P (cmdSubscribeFaults x groups e).1.s := by
  unfold cmdSubscribeFaults
  split
  · exact h
  · exact k.same rfl h

theorem setFaultPaging (paging : Vector (Byte × Byte) 6) {e : Ev} (h : P e.s) : P (cmdSetFaultPaging paging e).1.s := by
  unfold cmdSetFaultPaging
  split
  · exact k.same rfl h
  · exact h

theorem refill (x : Station) {s : State} (h : P s) : P (s.refill x) := by
  unfold State.refill
  simp only
  split
  · exact h
  · split
    · exact k.frame s _ rfl h
    · exact k.frame s _ rfl h

theorem fetchNotice (x : Station) {e : Ev} (h : P e.s) : P (cmdFetchNotice x e).1.s := by
  unfold cmdFetchNotice
  simp only
  split
  · exact k.same rfl h
  · exact k.refill x (k.frame e.s _ rfl h)

theorem setPort (port short : Byte) (long : BitVec 16) (action : Byte) {e : Ev} (h : P e.s) :
    P (cmdSetPort port short long action e).1.s := by
  refine withIndex_keeps h fun y => ?_
  split
  · exact h
  · exact k.same rfl h

/-! ### A command taken by its block, from its own row or from a frame (R204, R205) -/

theorem takeCommand (i : Instr) {e : Ev} (h : P e.s) : P (Machine.takeCommand i e).1.s := by
  cases i with
  | writeStep x idx give im => exact k.writeStep idx give im h
  | start x chan first => exact k.start x chan first h
  | halt x chan => exact k.halt chan h
  | releaseHold x chan => exact k.releaseHold chan h
  | resetChannel x chan => exact k.resetChannel chan h
  | setChannel x chan fallback => exact k.setChannel chan fallback h
  | setLoad x load im => exact k.setLoad load im h
  | resetLoad x load => exact withIndex_keeps h fun l => k.resetLoad l h
  | testCutout x load => exact k.testCutout x load h
  | setCap x cap => exact k.setBudget _ _ _ h
  | setBudget x cap unmanaged interval => exact k.setBudget _ _ _ h
  | inventorySet x kind stock => exact k.inventorySet kind stock h
  | returnPlates x kind n => exact withIndex_keeps h fun _ => k.movement _ _ _ _ h
  | requeue x kind n => exact k.requeue kind n h
  | discard x kind n => exact withIndex_keeps h fun _ => k.same rfl h
  | warmerCount x warmer n => exact k.warmerCount warmer n h
  | setWarmer x warmer im => exact k.setWarmer warmer im h
  | reserve x kind n => exact k.reserve x kind n h
  | cancelReservation x idx creation => exact k.cancelReservation x idx creation h
  | labelRack x kind count => exact k.labelRack kind count h
  | setDish x im => exact k.setDish im h
  | setBadge x badge address role zone => exact k.setBadge badge address role zone h
  | badgeState x badge st => exact k.badgeState badge st h
  | assignFunction x badge function => exact withIndex_keeps h fun _ => k.same rfl h
  | clearFunctions x badge => exact withIndex_keeps h fun _ => k.same rfl h
  | page x im => exact k.page x im h
  | cancelPage x number => exact k.cancelPage x number h
  | setPaging x im => exact k.setPaging im h
  | clearFaults x groups => exact k.clearFaults groups h
  | setFaultMask x masks => exact k.setFaultMask masks h
  | subscribeFaults x groups => exact k.subscribeFaults x groups h
  | setFaultPaging x paging => exact k.setFaultPaging paging h
  | fetchNotice x => exact k.fetchNotice x h
  | setPort x port short long action => exact k.setPort port short long action h
  | _ => exact h

theorem takeFrame (x : Station) (f : HeldFrame) {e : Ev} (h : P e.s) : P (e.takeFrame x f).s := by
  have h1 : P (e.on (fun s => s.setPort x { s.sp.ports[x] with outstanding := true })).s := k.same rfl h
  unfold Ev.takeFrame
  refine k.same rfl ?_
  unfold Ev.answerFrame
  split
  · split
    · exact k.takeCommand _ h1
    · exact h1
    · exact h1
  · exact h1

theorem heard (x : Station) {e : Ev} (h : P e.s) : P (e.heard x).s := by
  have h1 : P (e.on (fun s => s.setPort x { e.s.sp.ports[x] with
      attached := true, lastValidAt := s.clock, shortLeft := some (e.s.sp.ports[x]).shortSilence
      longLeft := some (e.s.sp.ports[x]).longSilence, slow := false, lost := false })).s := k.same rfl h
  have h2 : ∀ (b : Bool) (c : Cond) (f : Ev), P f.s → P (if b then f.condEnds c x.val else f).s := by
    intro b c f hf
    split
    · exact k.kept.condEnds hf
    · exact hf
  exact h2 _ _ _ (h2 _ _ _ h1)

theorem completeFrame (x : Station) (body : List Byte) (checksum : BitVec 16) {e : Ev} (h : P e.s) :
    P (e.completeFrame x body checksum).s := by
  have h0 : P (e.on (fun s => s.setPort x { s.sp.ports[x] with inFrame := false, soFar := [] })).s := k.same rfl h
  have h1 : ∀ valid : Bool, P (if valid then
      (e.on (fun s => s.setPort x { s.sp.ports[x] with inFrame := false, soFar := [] })).heard x
      else (e.on (fun s => s.setPort x { s.sp.ports[x] with inFrame := false, soFar := [] })).raise .frameError x.val).s := by
    intro valid
    split
    · exact k.heard x h0
    · exact k.kept.raise h0
  have h2 : ∀ (f : HeldFrame) (g : Ev), P g.s → P (if (g.s.sp.ports[x]).outstanding = false then g.takeFrame x f
      else if (g.s.sp.ports[x]).buffered.isNone then g.on (fun s => s.setPort x { s.sp.ports[x] with buffered := some f })
      else g.raise .frameError x.val).s := by
    intro f g hg
    split
    · exact k.takeFrame x f hg
    · split
      · exact k.same rfl hg
      · exact k.kept.raise hg
  exact h2 _ _ (h1 _)

theorem abandon (x : Station) {e : Ev} (h : P e.s) : P (e.abandon x).s := k.kept.raise (k.same rfl h)

theorem wholeFrame (x : Station) (body : List Byte) (checksum : BitVec 16) {e : Ev} (h : P e.s) :
    P (e.wholeFrame x body checksum).s := by
  unfold Ev.wholeFrame
  split
  · exact k.completeFrame x body checksum h
  · exact k.abandon x h

theorem byte (x : Station) (b : Byte) {e : Ev} (h : P e.s) : P (e.byte x b).s := by
  unfold Ev.byte
  simp only
  split
  · split
    · exact k.abandon x h
    · split
      · exact k.completeFrame x _ _ h
      · exact k.same rfl h
  · split
    · exact k.same rfl h
    · exact h

theorem responseSent (x : Station) {e : Ev} (h : P e.s) : P (e.responseSent x).s := by
  unfold Ev.responseSent
  simp only
  split
  · split
    · exact k.takeFrame x _ (k.same rfl h)
    · exact k.same rfl h
  · exact h

/-! ### The silence timers (R208) -/

theorem shortExpiry (x : Station) {e : Ev} (h : P e.s) : P (e.shortExpiry x).s := by
  unfold Ev.shortExpiry
  simp only
  split
  · exact k.kept.condHolds (k.same rfl h)
  · exact h

theorem longExpiry (x : Station) {e : Ev} (h : P e.s) : P (e.longExpiry x).s := by
  unfold Ev.longExpiry
  simp only
  split
  · have h1 : P ((e.silent x).condHolds .lost x.val).s := k.kept.condHolds (k.same rfl h)
    split
    · rw [Ev.hand_all]
      exact h1
    · exact h1
  · exact h

/-! ### Rows and steps -/

theorem happens {e : Ev} {t : State} (h : P e.s) (ht : happened e = .next t) : P t := by
  cases ht
  exact k.kept.finish h

theorem concludes {x : Station} {code : Byte} {r : Ev × Response} {t : State} (h : P r.1.s)
    (ht : concluded x code r = .next t) : P t := by
  cases ht
  exact k.frame r.1.finish _ rfl (k.kept.finish h)

theorem key (address : Nat) {s : State} (h : P s) : P (s.key address) := by
  unfold State.key
  split
  · exact h
  · simp only
    split
    · exact k.frame s _ rfl h
    · exact k.frame s _ rfl h
    · exact h

/-- A command or an event carried out. -/
theorem exec (i : Instr) {s t : State} (h : P s) (ht : Machine.exec i s = .next t) : P t := by
  rcases hx : senderOf i with _ | x
  case some =>
    obtain ⟨code, hc⟩ := exec_command hx s
    exact k.concludes (k.takeCommand i h) (hc.symm.trans ht)
  case none =>
    cases i with
    | deviceReset => cases ht; exact k.frame (State.resetWith s.pins) _ rfl (k.reset s.pins)
    | commandFrame x body checksum => exact k.happens (k.wholeFrame x body checksum h) ht
    | byteGapExpiry x =>
      refine k.happens ?_ ht
      split
      · exact k.abandon x h
      · exact h
    | responseSent x => exact k.happens (k.responseSent x h) ht
    | shortTimerExpiry x => exact k.happens (k.shortExpiry x h) ht
    | longTimerExpiry x => exact k.happens (k.longExpiry x h) ht
    | txDone number address ok => exact k.happens (k.txDone _ _ ok h) ht
    | ack address number => exact k.happens (k.ack _ _ h) ht
    | key address value => cases ht; exact k.key _ h
    | unreadableBaseFrame => cases ht; exact h
    | transmissionTimerExpiry => exact k.happens (k.txTimeout h) ht
    | retryExpiry => exact k.happens (k.retry h) ht
    | deadlineExpiry number => exact k.happens (k.deadline _ h) ht
    | probeRisingEdge p elapsed => exact k.happens (k.risingEdge p _ h) ht
    | probeFallingEdge p elapsed => exact k.happens (k.fallingEdge p _ h) ht
    | captureOverflow p => exact k.happens (k.overflow p h) ht
    | outputTick l => cases ht; exact k.tick l s h
    | cutoutTestCompletion l => exact k.happens (k.testCompletion l h) ht
    | verificationExpiry => exact k.happens (k.verify h) ht
    | intervalExpiry => exact k.happens (k.restartInterval (k.allocation .interval h)) ht
    | encoderTransition w a b => exact k.happens (k.encoderPair w _ h) ht
    | loadSwitchChange w isOpen => cases ht; exact k.frame s _ rfl h
    | soakTimerExpiry w => exact k.happens (k.soakSecond w h) ht
    | stepTimerExpiry c => exact k.happens (k.kept.stepSecond h) ht
    | rackEntry => exact k.happens (k.rackEntry h) ht
    | rackExit => exact k.happens (k.rackExit h) ht
    | jamCheck => exact k.happens (k.jamCheck (k.frame s s.second rfl h)) ht
    | conveyorPulse elapsed => exact k.happens (k.conveyorPulse (k.frame s _ rfl h)) ht
    | stallExpiry => exact k.happens (k.stallExpiry h) ht
    | refreshExpiry => exact k.happens (k.refresh h) ht
    | receivedByte x b => exact k.happens (k.byte x b h) ht
    | _ => cases hx

/-- Every step keeps a property that the updates of the heat loops keep. -/
theorem step {s t : State} (h : P s) (ht : Machine.step s = .next t) : P t := by
  unfold Machine.step at ht
  split at ht
  · cases ht; exact h
  next i rest _ => exact k.exec i (k.frame s { s with pending := rest } rfl h) ht

end HeatLaw

end Sys2Proof.Machine
end

section
/-! PROOFS. The heat outputs are sound after every step (R50 to R54), and what that says of unfit loads (R54). -/

namespace Sys2Proof.Machine

open Sys2Proof

/-! ### One load -/

/-- SHADOW ON-TIME is within the preload fraction of the period, and the output is on only before it (R52, R53). -/
def LoadRec.Timed (r : LoadRec) : Prop := r.shadow * 1000 ≤ r.preload * r.period ∧ (r.output = true → r.phase < r.shadow)

/-- What `State.HeatSound` says of one load and its control probe. -/
def LoadRec.Sound (r : LoadRec) (p : ProbeRec) : Prop :=
  (r.MayNotHeat p → r.request = 0) ∧ r.preload = min r.grant r.request ∧ r.Timed

theorem State.heatSound_iff (s : State) :
    s.HeatSound ↔ ∀ l : LoadIx, (s.hlu.loads[l]).Sound s.hlu.probes[controlProbe l] := Iff.rfl

theorem thousandth_of_product (n m : Nat) : n * m / 1000 * 1000 ≤ n * m := Nat.div_mul_le_self _ _

theorem LoadRec.Timed.settlePreload {r : LoadRec} (h : r.Timed) : r.settlePreload.Timed := by
  rcases Nat.lt_or_ge (min r.grant r.request) r.preload with hf | hf
  · rw [LoadRec.settlePreload_less hf]
    refine ⟨?_, fun hout => ?_⟩
    · exact (Nat.mul_le_mul_right _ (Nat.min_le_right _ _)).trans (thousandth_of_product ..)
    · simp only at hout ⊢
      split at hout
      · cases hout
      next hphase => exact Nat.lt_of_not_le hphase
  · rw [LoadRec.settlePreload_more hf]
    exact ⟨h.1.trans (Nat.mul_le_mul_right _ hf), h.2⟩

/-- A load whose request stands as R50 gives it is sound once its preload fraction is settled. -/
theorem LoadRec.Timed.sound {r : LoadRec} {p : ProbeRec} (h : r.Timed) (hreq : r.MayNotHeat p → r.request = 0) :
    r.settlePreload.Sound p := by
  obtain ⟨preload, shadow, output, heq⟩ := r.settlePreload_eq
  have hpre := r.settlePreload_preload
  have htimed := h.settlePreload
  rw [heq] at hpre htimed ⊢
  exact ⟨hreq, hpre, htimed⟩

theorem LoadRec.Sound.shut {r : LoadRec} {p : ProbeRec} (h : r.Sound p) : r.shut.Sound p :=
  ⟨h.1, h.2.1, by show 0 * 1000 ≤ _; omega, fun hout => by cases hout⟩

theorem LoadRec.Timed.periodEnd (r : LoadRec) : r.periodEnd.Timed :=
  ⟨thousandth_of_product .., fun hout => of_decide_eq_true hout⟩

theorem LoadRec.Timed.tick {r : LoadRec} (h : r.Timed) : r.tick.Timed := by
  rcases Nat.lt_or_ge (r.phase + 1) r.period with hp | hp
  · rcases Nat.lt_or_ge (r.phase + 1) r.shadow with hs | hs
    · rw [LoadRec.tick_on hp hs]
      exact ⟨h.1, fun _ => hs⟩
    · rw [LoadRec.tick_off hp hs]
      exact ⟨h.1, fun hout => by cases hout⟩
  · rw [LoadRec.tick_end hp]
    exact .periodEnd _

/-- An output tick is no matter of the request and the preload fraction. -/
theorem LoadRec.tick_eq (r : LoadRec) : ∃ (period shadow phase : Nat) (output : Bool),
    r.tick = { r with period := period, shadow := shadow, phase := phase, output := output } := by
  rcases Nat.lt_or_ge (r.phase + 1) r.period with hp | hp
  · rcases Nat.lt_or_ge (r.phase + 1) r.shadow with hs | hs
    · rw [LoadRec.tick_on hp hs]; exact ⟨_, _, _, _, rfl⟩
    · rw [LoadRec.tick_off hp hs]; exact ⟨_, _, _, _, rfl⟩
  · rw [LoadRec.tick_end hp]; exact ⟨_, _, _, _, rfl⟩

theorem LoadRec.Sound.tick {r : LoadRec} {p : ProbeRec} (h : r.Sound p) : r.tick.Sound p := by
  obtain ⟨hreq, hpre, htimed⟩ := h
  have ht := htimed.tick
  obtain ⟨period, shadow, phase, output, heq⟩ := r.tick_eq
  rw [heq] at ht ⊢
  exact ⟨hreq, hpre, ht⟩

/-! ### All loads -/

theorem State.setLoad_heatSound {l : LoadIx} {r : LoadRec} {s : State} (hr : r.Sound s.hlu.probes[controlProbe l])
    (h : ∀ m : LoadIx, m ≠ l → (s.hlu.loads[m]).Sound s.hlu.probes[controlProbe m]) : (s.setLoad l r).HeatSound := by
  rw [State.heatSound_iff]
  intro m
  by_cases hm : m = l
  · subst hm
    rw [State.setLoad_get]
    exact hr
  · rw [State.setLoad_get_ne hm]
    exact h m hm

/-- A load whose output is timed right is sound with its request recomputed, and then all are where the others were. -/
theorem State.recompute_heatSound {l : LoadIx} {s : State} (hl : (s.hlu.loads[l]).Timed)
    (h : ∀ m : LoadIx, m ≠ l → (s.hlu.loads[m]).Sound s.hlu.probes[controlProbe m]) : (s.recompute l).HeatSound := by
  refine State.setLoad_heatSound (LoadRec.Timed.sound ?_ ?_) h
  · exact hl
  · exact fun hno => LoadRec.requestOf_idle hno

theorem LoadRec.Rewrites.timed {r q : LoadRec} (h : r.Rewrites q) (ht : r.Timed) : q.Timed := by
  unfold LoadRec.Timed
  rw [h.shadow, h.preload, h.period, h.output, h.phase]
  exact ht

/-- The load that a probe controls is the one whose control probe it is (R47). -/
theorem loadOf_eq_some_iff (p : ProbeIx) (l : LoadIx) : loadOf p = some l ↔ controlProbe l = p := by
  unfold loadOf controlProbe
  split
  · split <;> simp [Fin.ext_iff] <;> omega
  · split
    · split <;> simp [Fin.ext_iff] <;> omega
    · split <;> simp [Fin.ext_iff] <;> omega

theorem State.setProbe_get (p : ProbeIx) (r : ProbeRec) (s : State) : (s.setProbe p r).hlu.probes[p] = r := get_set_same _ _ _

theorem State.setProbe_get_ne {p q : ProbeIx} (h : q ≠ p) (r : ProbeRec) (s : State) :
    (s.setProbe p r).hlu.probes[q] = s.hlu.probes[q] := get_set_ne _ h _

/-- A probe written changes nothing for a load that it does not control, and nothing for its own if it does not become
UNSETTLED. -/
theorem State.setProbe_sound {p : ProbeIx} {r : ProbeRec} {m : LoadIx} {s : State}
    (hm : loadOf p = some m → (s.hlu.probes[p]).settled = true → r.settled = true)
    (h : (s.hlu.loads[m]).Sound s.hlu.probes[controlProbe m]) :
    (s.hlu.loads[m]).Sound (s.setProbe p r).hlu.probes[controlProbe m] := by
  by_cases hp : controlProbe m = p
  · subst hp
    rw [State.setProbe_get]
    refine ⟨fun hno => h.1 (hno.imp_right (Or.imp_right (Or.imp_right fun hr => ?_))), h.2⟩
    exact Bool.eq_false_iff.mpr fun hs => Bool.eq_false_iff.mp hr (hm ((loadOf_eq_some_iff ..).mpr rfl) hs)
  · rw [State.setProbe_get_ne hp]
    exact h

theorem State.handGrant_heatSound (l : LoadIx) (fraction : Nat) {s : State} (h : s.HeatSound) :
    (s.handGrant l fraction).HeatSound :=
  State.setLoad_heatSound (LoadRec.Timed.sound (h l).2.2 (h l).1) fun m _ => h m

theorem State.handGrants_heatSound (r : Allocation) {s : State} (h : s.HeatSound) : (s.handGrants r).HeatSound :=
  List.foldlRecOn (motive := State.HeatSound) (List.finRange 22) _ h fun t ht l _ => by
    split
    · exact State.handGrant_heatSound l _ ht
    · exact ht

theorem heatSound_law : HeatLaw State.HeatSound where
  reset := resetWith_heatSound
  frame := fun s t h hs => by
    obtain ⟨hloads, hprobes, -⟩ : t.hlu.loads = s.hlu.loads ∧ t.hlu.probes = s.hlu.probes ∧ _ := by simpa [State.heat] using h
    rw [State.heatSound_iff, hloads, hprobes]
    exact hs
  rewrite := fun l q s t h hq hs => by
    obtain ⟨hloads, hprobes, -⟩ : t.hlu.loads = s.hlu.loads.set l q ∧ t.hlu.probes = s.hlu.probes ∧ _ := by
      simpa [State.heat] using h
    refine State.recompute_heatSound ?_ fun m hm => ?_
    · rw [hloads, get_set_same]
      exact hq.timed (hs l).2.2
    · rw [hloads, hprobes, get_set_ne _ hm]
      exact hs m
  shut := fun l s hs => State.setLoad_heatSound (LoadRec.Sound.shut (hs l)) fun m _ => hs m
  tick := fun l s hs => State.setLoad_heatSound (LoadRec.Sound.tick (hs l)) fun m _ => hs m
  setProbe := fun p r s h hs m => State.setProbe_sound (fun hm => h.resolve_left (by rw [hm]; exact Option.some_ne_none m)) (hs m)
  unsettle := fun p l r s hl hs => State.recompute_heatSound (hs l).2.2 fun m hm =>
    State.setProbe_sound (fun h => absurd (Option.some.inj (h.symm.trans hl)) hm) (hs m)
  allocate := fun b a pointer cause now s hs => State.handGrants_heatSound _ hs

/-- Settles O21: soundness of the outputs is a property that `HeatLaw` describes, and every step keeps such a property. -/
theorem everyStepKeepsTheOutputsSound : Obligations.EveryStepKeepsTheOutputsSound :=
  fun _ _ h ht => heatSound_law.step h ht

end Sys2Proof.Machine
end

section
/-! PROOFS. The grants of an allocation are within what it divides, and the loads hold no more than A IN FORCE after every step
(R54, R55, R72 to R77). -/

namespace Sys2Proof.Machine

open Sys2Proof

/-! ### The division (R72, R73) -/

/-- A sum over the installed loads of a class, over all loads. -/
theorem members_sum (v : Vector Ask 22) (c : Fin 3) (f : LoadIx → Nat) :
    ((members v c).map f).sum = ∑ l : LoadIx, if (v[l]).installed ∧ (v[l]).cls = c then f l else 0 := by
  rw [Fin.sum_univ_def, members]
  induction List.finRange 22 with
  | nil => rfl
  | cons l ls ih =>
    rw [List.filter_cons, List.map_cons, List.sum_cons, ← ih]
    simp only [Bool.and_eq_true, decide_eq_true_eq]
    split
    · rw [List.map_cons, List.sum_cons]
    · rw [Nat.zero_add]

theorem grantOf_full {v : Vector Ask 22} {a : Nat} {l : LoadIx} (pointer : LoadIx) (h : (v[l]).installed = true)
    (hfull : classSum v (v[l]).cls ≤ budgetFor v a (v[l]).cls) : grantOf v a pointer l = (v[l]).demand := by
  unfold grantOf
  simp only [h, hfull, if_true]

theorem grantOf_scaled {v : Vector Ask 22} {a : Nat} {l : LoadIx} (pointer : LoadIx) (h : (v[l]).installed = true)
    (hscaled : budgetFor v a (v[l]).cls < classSum v (v[l]).cls) :
    grantOf v a pointer l = floorShare v (v[l]).cls (budgetFor v a (v[l]).cls) l +
      if l ∈ walked v (v[l]).cls (budgetFor v a (v[l]).cls) pointer then 1 else 0 := by
  unfold grantOf
  simp only [h, Nat.not_le.mpr hscaled, if_true, if_false, List.contains_iff_mem]

theorem grantOf_absent {v : Vector Ask 22} {l : LoadIx} (h : (v[l]).installed = false) (a : Nat) (pointer : LoadIx) :
    grantOf v a pointer l = 0 := by
  unfold grantOf
  simp only [h, Bool.false_eq_true, if_false]

/-- The floored shares of a scaled class are within its budget (R73). -/
theorem floorShares_le {v : Vector Ask 22} {c : Fin 3} {r : Nat} (h : r < classSum v c) :
    ((members v c).map (floorShare v c r)).sum ≤ r := by
  have hpos : 0 < classSum v c := Nat.zero_lt_of_lt h
  refine Nat.le_of_mul_le_mul_right ?_ hpos
  calc ((members v c).map (floorShare v c r)).sum * classSum v c
      = ((members v c).map fun l => floorShare v c r l * classSum v c).sum := (List.sum_map_mul_right ..).symm
    _ ≤ ((members v c).map fun l => (v[l]).demand * r).sum := List.sum_le_sum fun l _ => Nat.div_mul_le_self _ _
    _ = classSum v c * r := List.sum_map_mul_right ..
    _ = r * classSum v c := Nat.mul_comm ..

/-- The units left over are given out one to a load, so no more than there are (R73). -/
theorem walked_units_le (v : Vector Ask 22) (c : Fin 3) (r : Nat) (pointer : LoadIx) :
    ((members v c).map fun l => if l ∈ walked v c r pointer then 1 else 0).sum ≤ leftover v c r := by
  rw [members_sum]
  calc (∑ l : LoadIx, if (v[l]).installed ∧ (v[l]).cls = c then (if l ∈ walked v c r pointer then 1 else 0) else 0)
      ≤ ∑ l : LoadIx, if l ∈ (walked v c r pointer).toFinset then 1 else 0 := by
        refine Finset.sum_le_sum fun l _ => ?_
        simp only [List.mem_toFinset]
        split
        · exact Nat.le_refl _
        · exact Nat.zero_le _
    _ = (walked v c r pointer).toFinset.card := by rw [← Finset.sum_filter, Finset.filter_univ_mem, Finset.card_eq_sum_ones]
    _ ≤ (walked v c r pointer).length := List.toFinset_card_le _
    _ ≤ leftover v c r := List.length_take_le _ _

/-- What a class is granted. -/
def classGrant (v : Vector Ask 22) (a : Nat) (pointer : LoadIx) (c : Fin 3) : Nat := ((members v c).map (grantOf v a pointer)).sum

theorem mem_members {v : Vector Ask 22} {c : Fin 3} {l : LoadIx} :
    l ∈ members v c ↔ (v[l]).installed = true ∧ (v[l]).cls = c := by
  simp [members]

/-- A class is granted no more than it asks for and no more than its budget (R72, R73). -/
theorem classGrant_le (v : Vector Ask 22) (a : Nat) (pointer : LoadIx) (c : Fin 3) :
    classGrant v a pointer c ≤ classSum v c ∧ classGrant v a pointer c ≤ budgetFor v a c := by
  rcases Nat.lt_or_ge (budgetFor v a c) (classSum v c) with h | h
  · have hgrant : classGrant v a pointer c = ((members v c).map fun l => floorShare v c (budgetFor v a c) l +
        if l ∈ walked v c (budgetFor v a c) pointer then 1 else 0).sum := by
      refine congrArg List.sum (List.map_congr_left fun l hl => ?_)
      obtain ⟨hin, rfl⟩ := mem_members.mp hl
      exact grantOf_scaled pointer hin h
    have hfloors := floorShares_le h
    have hunits := walked_units_le v c (budgetFor v a c) pointer
    rw [List.sum_map_add] at hgrant
    unfold leftover at hunits
    omega
  · have hgrant : classGrant v a pointer c = classSum v c := by
      refine congrArg List.sum (List.map_congr_left fun l hl => ?_)
      obtain ⟨hin, rfl⟩ := mem_members.mp hl
      exact grantOf_full pointer hin h
    rw [hgrant]
    exact ⟨Nat.le_refl _, h⟩

theorem grants_by_class (v : Vector Ask 22) (a : Nat) (pointer : LoadIx) :
    ∑ l : LoadIx, grantOf v a pointer l = ∑ c : Fin 3, classGrant v a pointer c := by
  simp only [classGrant, members_sum]
  rw [Finset.sum_comm]
  refine Finset.sum_congr rfl fun l _ => ?_
  rcases hin : (v[l]).installed
  · simp [grantOf_absent hin]
  · simp

/-- The grants of an allocation add up to no more than the units it divides. -/
theorem grants_le (v : Vector Ask 22) (a : Nat) (pointer : LoadIx) : ∑ l : LoadIx, grantOf v a pointer l ≤ a := by
  have h0 := classGrant_le v a pointer 0
  have h1 := classGrant_le v a pointer 1
  have h2 := classGrant_le v a pointer 2
  rw [grants_by_class, Fin.sum_univ_three]
  simp only [budgetFor] at h0 h1 h2
  omega

/-! ### The hand-over (R74, R77) -/

/-- A fraction of a rating is worth no more than the grant it is made of. -/
theorem fractionOf_mul_le (ask : Ask) (g : Nat) : (fractionOf ask g).1 * ask.rating ≤ 1000 * g := by
  have h : g * 1000 / ask.rating * ask.rating ≤ 1000 * g := by
    rw [Nat.mul_comm 1000]
    exact Nat.div_mul_le_self _ _
  unfold fractionOf
  simp only
  split
  · simp
  · exact h

theorem State.handGrant_get (l m : LoadIx) (fraction : Nat) (s : State) :
    ((s.handGrant l fraction).hlu.loads[m]).rating = (s.hlu.loads[m]).rating ∧
      ((s.handGrant l fraction).hlu.loads[m]).grant = if m = l then fraction else (s.hlu.loads[m]).grant := by
  obtain ⟨preload, shadow, output, h⟩ := LoadRec.settlePreload_eq { s.hlu.loads[l] with grant := fraction }
  unfold State.handGrant
  rw [h]
  by_cases hm : m = l
  · subst hm
    rw [State.setLoad_get, if_pos rfl]
    exact ⟨rfl, rfl⟩
  · rw [State.setLoad_get_ne hm, if_neg hm]
    exact ⟨rfl, rfl⟩

/-- After the hand-over an installed load holds the fraction handed to it, any other what it held, and no rating has changed. -/
theorem State.handGrants_get (r : Allocation) (s : State) (m : LoadIx) :
    ((s.handGrants r).hlu.loads[m]).rating = (s.hlu.loads[m]).rating ∧
      ((s.handGrants r).hlu.loads[m]).grant = if (r.loads[m]).installed then (r.loads[m]).fraction else (s.hlu.loads[m]).grant := by
  have key : ∀ (ls : List LoadIx) (t : State),
      let u := ls.foldl (fun (x : State) (l : LoadIx) =>
        if (r.loads[l]).installed then x.handGrant l (r.loads[l]).fraction else x) t
      (u.hlu.loads[m]).rating = (t.hlu.loads[m]).rating ∧ (u.hlu.loads[m]).grant =
        if m ∈ ls ∧ (r.loads[m]).installed then (r.loads[m]).fraction else (t.hlu.loads[m]).grant := by
    intro ls
    induction ls with
    | nil => exact fun t => ⟨rfl, by simp⟩
    | cons l ls ih =>
      intro t
      obtain ⟨hrating, hgrant⟩ := ih (if (r.loads[l]).installed then t.handGrant l (r.loads[l]).fraction else t)
      rw [List.foldl_cons]
      refine ⟨hrating.trans ?_, hgrant.trans ?_⟩
      · split
        · exact (State.handGrant_get ..).1
        · rfl
      · have hhead : ((if (r.loads[l]).installed then t.handGrant l (r.loads[l]).fraction else t).hlu.loads[m]).grant =
            if m = l ∧ (r.loads[m]).installed then (r.loads[m]).fraction else (t.hlu.loads[m]).grant := by
          split
          · rename_i hin
            rw [(State.handGrant_get ..).2]
            by_cases hm : m = l
            · subst hm
              rw [if_pos rfl, if_pos ⟨rfl, hin⟩]
            · rw [if_neg hm, if_neg fun h => hm h.1]
          · rename_i hin
            exact (if_neg fun (h : m = l ∧ _) => hin (h.1 ▸ h.2)).symm
        rw [hhead]
        by_cases hm : m = l <;> by_cases hin : (r.loads[m]).installed <;> grind
  obtain ⟨hrating, hgrant⟩ := key (List.finRange 22) s
  exact ⟨hrating, hgrant.trans (by simp)⟩

/-! ### The budget held -/

/-- The budget that a load holds, in thousandths. -/
def LoadRec.held (r : LoadRec) : Nat := r.grant * r.rating

/-- The budget is held where no load holds more of it than it did, and A IN FORCE is as it was. -/
theorem State.budgetHeld_of_le {s t : State} (hle : ∀ l : LoadIx, (t.hlu.loads[l]).held ≤ (s.hlu.loads[l]).held)
    (hforce : t.pba.inForce = s.pba.inForce) (h : s.BudgetHeld) : t.BudgetHeld := by
  have hsum := Finset.sum_le_sum fun l (_ : l ∈ Finset.univ) => hle l
  unfold State.BudgetHeld
  rw [hforce]
  exact hsum.trans h

theorem State.setLoad_held {l : LoadIx} {q : LoadRec} {s : State} (hq : q.held ≤ (s.hlu.loads[l]).held) (m : LoadIx) :
    ((s.setLoad l q).hlu.loads[m]).held ≤ (s.hlu.loads[m]).held := by
  by_cases hm : m = l
  · subst hm
    rw [State.setLoad_get]
    exact hq
  · rw [State.setLoad_get_ne hm]

theorem State.setLoad_budgetHeld {l : LoadIx} {q : LoadRec} {s : State} (hq : q.held ≤ (s.hlu.loads[l]).held)
    (h : s.BudgetHeld) : (s.setLoad l q).BudgetHeld := State.budgetHeld_of_le (State.setLoad_held hq) rfl h

/-- A recomputation is no matter of the grant and the rating. -/
theorem State.recompute_budgetHeld (l : LoadIx) {s : State} (h : s.BudgetHeld) : (s.recompute l).BudgetHeld := by
  obtain ⟨request, preload, shadow, output, heq⟩ := s.recompute_eq l
  rw [heq]
  exact State.setLoad_budgetHeld (Nat.le_refl _) h

/-- What an allocation hands to a load is within its grant (R74). -/
theorem handed_le (s : State) (a : Nat) (pointer : LoadIx) (cause : AllocCause) (now : Nat) (b : Pba) (l : LoadIx) :
    let t := (s.setPba b).handGrants (allocationOf s.asks a pointer cause now)
    (t.hlu.loads[l]).held ≤ 1000 * grantOf s.asks a pointer l := by
  obtain ⟨hrating, hgrant⟩ := State.handGrants_get (allocationOf s.asks a pointer cause now) (s.setPba b) l
  have hrow : (allocationOf s.asks a pointer cause now).loads[l] =
      { installed := (s.asks[l]).installed, cls := (s.asks[l]).cls, demand := (s.asks[l]).demand,
        grant := grantOf s.asks a pointer l, fraction := (fractionOf s.asks[l] (grantOf s.asks a pointer l)).1,
        belowMin := (fractionOf s.asks[l] (grantOf s.asks a pointer l)).2 } := table_get _ _
  intro t
  unfold LoadRec.held
  rw [hrating, hgrant, hrow]
  rcases hin : (s.hlu.loads[l]).installed
  · have hzero : (s.hlu.loads[l]).rating = 0 := (LoadRec.not_installed_iff _).mp hin
    show _ * (s.hlu.loads[l]).rating ≤ _
    rw [hzero, Nat.mul_zero]
    exact Nat.zero_le _
  · have hask : s.asks[l] =
        { installed := true
          cls := s.classOf l
          rating := (s.hlu.loads[l]).rating
          demand := demandOf (s.hlu.loads[l]).request (s.hlu.loads[l]).rating
          minOn := (s.hlu.loads[l]).minOn } :=
      (table_get _ _).trans (if_pos hin)
    have h := fractionOf_mul_le s.asks[l] (grantOf s.asks a pointer l)
    rw [hask] at h ⊢
    exact h

theorem allocation_budgetHeld (s : State) (a : Nat) (pointer : LoadIx) (cause : AllocCause) (now : Nat) (b : Pba) :
    ((s.setPba b).handGrants (allocationOf s.asks a pointer cause now)).BudgetHeld := by
  have hsum := Finset.sum_le_sum fun l (_ : l ∈ Finset.univ) => handed_le s a pointer cause now b l
  rw [← Finset.mul_sum] at hsum
  exact hsum.trans (Nat.mul_le_mul_left 1000 (grants_le s.asks a pointer))

theorem State.budgetHeld_of_heat {s t : State} (h : t.heat = s.heat) : s.BudgetHeld → t.BudgetHeld := by
  obtain ⟨hloads, hrest⟩ := Prod.mk.inj h
  exact State.budgetHeld_of_le (fun l => by rw [hloads]) (Prod.mk.inj hrest).2

theorem State.tick_budgetHeld (l : LoadIx) (s : State) : s.BudgetHeld → (s.setLoad l (s.hlu.loads[l]).tick).BudgetHeld := by
  obtain ⟨period, shadow, phase, output, heq⟩ := (s.hlu.loads[l]).tick_eq
  rw [heq]
  exact State.setLoad_budgetHeld (Nat.le_refl _)

theorem budgetHeld_law : HeatLaw State.BudgetHeld where
  reset := resetWith_budgetHeld
  frame := fun _ _ => State.budgetHeld_of_heat
  rewrite := fun l _ _ _ h hq hs =>
    State.recompute_budgetHeld l (State.budgetHeld_of_heat h (State.setLoad_budgetHeld hq.held hs))
  shut := fun _ _ => State.setLoad_budgetHeld (Nat.le_refl _)
  tick := State.tick_budgetHeld
  setProbe := fun _ _ s _ => State.budgetHeld_of_le (s := s) (fun _ => Nat.le_refl _) rfl
  unsettle := fun _ l _ s _ hs =>
    State.recompute_budgetHeld l (State.budgetHeld_of_le (s := s) (fun _ => Nat.le_refl _) rfl hs)
  allocate := fun b a pointer cause now s _ => allocation_budgetHeld s a pointer cause now b

/-- Settles O25: the budget held is a property that `HeatLaw` describes; an allocation sets it up anew, by `grants_le`. -/
theorem everyStepKeepsTheBudgetHeld : Obligations.EveryStepKeepsTheBudgetHeld :=
  fun _ _ h ht => budgetHeld_law.step h ht

end Sys2Proof.Machine
end

section
/-! PROOFS. What the soundness of the outputs and the budget held say of the power drawn (R54). -/

namespace Sys2Proof.Machine

open Sys2Proof

/-- A load that may not heat is off (R54). -/
theorem LoadRec.Sound.off {r : LoadRec} {p : ProbeRec} (h : r.Sound p) (hno : r.MayNotHeat p) :
    r.shadow = 0 ∧ r.output = false := by
  obtain ⟨hreq, hpre, hshadow, hout⟩ := h
  rw [hpre, hreq hno, Nat.min_zero, Nat.zero_mul] at hshadow
  have hzero : r.shadow = 0 := by omega
  refine ⟨hzero, Bool.eq_false_iff.mpr fun hon => ?_⟩
  exact Nat.not_lt_zero _ (hzero ▸ hout hon)

/-- The power that a load draws over its period is within what it holds (R54). -/
theorem LoadRec.Sound.drawn_le {r : LoadRec} {p : ProbeRec} (h : r.Sound p) :
    ((r.shadow * r.rating : Nat) : ℚ) / (r.period : ℚ) ≤ (r.held : ℚ) / 1000 := by
  obtain ⟨-, hpre, hshadow, -⟩ := h
  rcases Nat.eq_zero_or_pos r.period with hzero | hpos
  · rw [hzero, Nat.cast_zero, div_zero]
    positivity
  · rw [div_le_div_iff₀ (by exact_mod_cast hpos) (by norm_num)]
    have hgrant : r.preload ≤ r.grant := hpre ▸ Nat.min_le_left _ _
    have hle : r.shadow * r.rating * 1000 ≤ r.held * r.period :=
      calc r.shadow * r.rating * 1000 = r.shadow * 1000 * r.rating := by ring
        _ ≤ r.preload * r.period * r.rating := Nat.mul_le_mul_right _ hshadow
        _ ≤ r.grant * r.period * r.rating := Nat.mul_le_mul_right _ (Nat.mul_le_mul_right _ hgrant)
        _ = r.held * r.period := by unfold LoadRec.held; ring
    exact_mod_cast hle

/-- Sound loads that hold no more than `a` units draw no more than `a` units (R54). -/
theorem drawn_sum_le {r : LoadIx → LoadRec} {p : LoadIx → ProbeRec} {a : Nat} (h : ∀ l, (r l).Sound (p l))
    (hb : ∑ l, (r l).held ≤ 1000 * a) :
    (∑ l, (((r l).shadow * (r l).rating : Nat) : ℚ) / ((r l).period : ℚ)) ≤ (a : ℚ) := by
  have hheld : (∑ l, ((r l).held : ℚ)) ≤ 1000 * (a : ℚ) := by exact_mod_cast hb
  calc (∑ l, (((r l).shadow * (r l).rating : Nat) : ℚ) / ((r l).period : ℚ))
      ≤ ∑ l, ((r l).held : ℚ) / 1000 := Finset.sum_le_sum fun l _ => (h l).drawn_le
    _ = (∑ l, ((r l).held : ℚ)) / 1000 := (Finset.sum_div ..).symm
    _ ≤ (a : ℚ) := by linarith

/-- Settles O22, load by load: a sound load is off where it may not heat, and draws no more than it holds. -/
theorem lawsOfTheLoads : Obligations.LawsOfTheLoads :=
  ⟨fun _ h l hno => LoadRec.Sound.off (h l) (hno.imp_right .inr), fun _ h hb => drawn_sum_le h hb⟩

end Sys2Proof.Machine
end

section
/-! PROOFS. Edges, overflows and conversions of a probe (R41 to R45). -/

namespace Sys2Proof.Machine

open Sys2Proof

/-! ### What telling the users of a probe leaves alone -/

/-- The clock, the probes, the budget, the pool counts, the lines and the queue of commands: what the users of a probe that are
told of a reading or a fault do not change. -/
def State.calm (s : State) : Nat × Vector ProbeRec 34 × Pba × Vector PoolRec 4 × Pins × List Instr :=
  (s.clock, s.hlu.probes, s.pba, s.ppu.pools, s.pins, s.pending)

theorem State.calm_eq {s t : State} (h : t.calm = s.calm) :
    t.clock = s.clock ∧ t.hlu.probes = s.hlu.probes ∧ t.pba = s.pba ∧ t.ppu.pools = s.ppu.pools ∧ t.pins = s.pins ∧
      t.pending = s.pending := by
  simpa [State.calm] using h

theorem State.calm_of_still {s t : State} (h : t.still = s.still) : t.calm = s.calm := by
  obtain ⟨hclock, hprobes, -, hpba, hpools, -, -, hpins, hpending⟩ := State.still_eq h
  simp [State.calm, hclock, hprobes, hpba, hpools, hpins, hpending]

@[simp] theorem Ev.finish_calm (e : Ev) : e.finish.calm = e.s.calm := State.calm_of_still e.finish_still

@[simp] theorem Ev.condHolds_calm (c : Cond) (source : Nat) (e : Ev) : (e.condHolds c source).s.calm = e.s.calm :=
  State.calm_of_still (Ev.condHolds_still c source e)

@[simp] theorem Ev.condEnds_calm (c : Cond) (source : Nat) (e : Ev) : (e.condEnds c source).s.calm = e.s.calm := rfl

/-- From `e` to `f` the users of a probe have been told: they change neither what is calm nor the fault monitor. -/
def Ev.Telling (e f : Ev) : Prop := f.s.calm = e.s.calm ∧ f.s.fm = e.s.fm

theorem Ev.Telling.trans {e f g : Ev} (h : e.Telling f) (k : f.Telling g) : e.Telling g := ⟨k.1.trans h.1, k.2.trans h.2⟩

theorem Ev.Telling.refl (e : Ev) : e.Telling e := ⟨rfl, rfl⟩

theorem Ev.Telling.hand (e : Ev) (r : Report) : e.Telling (e.hand r) := ⟨rfl, rfl⟩

theorem Ev.Telling.judgeWarmer (w : WarmerIx) (e : Ev) : e.Telling (e.on (State.judgeWarmer w)) := by
  have h : (e.s.judgeWarmer w).calm = e.s.calm := by
    unfold State.judgeWarmer
    simp only
    split
    · split
      · rfl
      · rfl
    all_goals
      split
      · rfl
      · rfl
  exact ⟨h, (State.judgeWarmer_same w e.s).2.1⟩

/-- The request of the load that a probe controls is recomputed. -/
theorem Ev.Telling.recompute (o : Option LoadIx) (e : Ev) :
    e.Telling (match o with | some l => e.on (State.recompute l) | none => e) := by
  cases o with
  | none => exact .refl e
  | some l => exact ⟨rfl, rfl⟩

theorem Ev.Telling.loadLost (l : LoadIx) (e : Ev) : e.Telling (e.loadLost l) := by
  unfold Ev.loadLost
  split
  · exact .hand ..
  · exact ⟨rfl, rfl⟩
  · exact .refl e

theorem Ev.Telling.loadChanged (l : LoadIx) (before : LoadState) (e : Ev) : e.Telling (e.loadChanged l before) := by
  unfold Ev.loadChanged
  simp only
  split
  · exact .loadLost l e
  · exact .refl e

theorem Ev.Telling.rinseReading (p : ProbeIx) (e : Ev) :
    e.Telling (if p = rinseProbe then e.on (fun s => s.rinseReading (s.hlu.probes[p]).reading) else e) := by
  split
  · exact ⟨rfl, rfl⟩
  · exact .refl e

theorem Ev.Telling.rinseFault (p : ProbeIx) (e : Ev) : e.Telling (if p = rinseProbe then e.on State.rinseFault else e) := by
  split
  · exact ⟨rfl, rfl⟩
  · exact .refl e

theorem Ev.Telling.readingUpdate (p : ProbeIx) (e : Ev) : e.Telling (e.readingUpdate p) := by
  have husers : ∀ f : Ev, f.Telling (match cavityOf p, coreOf p, warmerOf p with
      | some c, _, _ => f.hand (.cavityReading c)
      | none, some c, _ => f.hand (.coreReading c)
      | none, none, some w => f.on (State.judgeWarmer w)
      | none, none, none => f) := by
    intro f
    split
    · exact .hand ..
    · exact .hand ..
    · exact .judgeWarmer ..
    · exact .refl _
  exact ((Ev.Telling.recompute (loadOf p) e).trans (husers _)).trans (.rinseReading p _)

/-- What a probe's entering a fault does besides marking the probe. -/
theorem Ev.Telling.probeFault (p : ProbeIx) (e : Ev) :
    (e.on (fun s => s.setProbe p { s.hlu.probes[p] with settled := false, window := [] })).Telling (e.probeFault p) := by
  have husers : ∀ f : Ev, f.Telling (match cavityOf p, coreOf p, warmerOf p with
      | some c, _, _ => f.hand (.ovenFault c)
      | none, some c, _ => f.hand (.coreFault c)
      | none, none, some w => f.on (State.coolWarmer w)
      | none, none, none => f) := by
    intro f
    split
    · exact .hand ..
    · exact .hand ..
    · exact ⟨rfl, rfl⟩
    · exact .refl _
  exact ((Ev.Telling.recompute (loadOf p) _).trans (husers _)).trans (.rinseFault p _)

/-- The trip comparator writes loads only, and may report. -/
theorem Ev.compareTrip_calm (p : ProbeIx) (raw : Int) (e : Ev) : (e.compareTrip p raw).s.calm = e.s.calm := by
  unfold Ev.compareTrip
  split
  · rfl
  · simp only
    split
    · rw [(Ev.Telling.loadChanged ..).1, Ev.condHolds_calm]
      rfl
    · rfl

theorem State.setProbe_setProbe (p : ProbeIx) (a b : ProbeRec) (s : State) : (s.setProbe p a).setProbe p b = s.setProbe p b := by
  simp [State.setProbe]

/-- What is calm after a probe's record is written where all else was calm. -/
theorem State.setProbe_calm {s t : State} (h : t.calm = s.calm) (p : ProbeIx) (r : ProbeRec) :
    (t.setProbe p r).calm = (s.setProbe p r).calm := by
  obtain ⟨hclock, hprobes, hpba, hpools, hpins, hpending⟩ := State.calm_eq h
  simp [State.calm, State.setProbe, hclock, hprobes, hpba, hpools, hpins, hpending]

/-- A probe that enters a fault is UNSETTLED, its WINDOW empty (R45). -/
theorem Ev.probeFault_calm {p : ProbeIx} {r : ProbeRec} {s : State} {e : Ev} (h : e.s.calm = (s.setProbe p r).calm) :
    (e.probeFault p).s.calm = (s.setProbe p { r with settled := false, window := [] }).calm := by
  have hget : e.s.hlu.probes[p] = r := by rw [(State.calm_eq h).2.1, State.setProbe_get]
  have hset := State.setProbe_calm h p { r with settled := false, window := [] }
  rw [State.setProbe_setProbe] at hset
  rw [(Ev.Telling.probeFault p e).1, Ev.on_s, hget]
  exact hset

/-! ### Edges without conversion, and overflows (R41, R42) -/

theorem exec_risingEdge (p : ProbeIx) (elapsed : BitVec 16) (s : State) :
    exec (.probeRisingEdge p elapsed) s = happened ((Ev.start s).risingEdge p elapsed.toNat) := by
  rfl

theorem exec_fallingEdge (p : ProbeIx) (elapsed : BitVec 16) (s : State) :
    exec (.probeFallingEdge p elapsed) s = happened ((Ev.start s).fallingEdge p elapsed.toNat) := by
  rfl

theorem exec_captureOverflow (p : ProbeIx) (s : State) :
    exec (.captureOverflow p) s = happened ((Ev.start s).overflow p) := by
  rfl

theorem Ev.risingEdge_opens {p : ProbeIx} {elapsed : Nat} {e : Ev}
    (h : (e.s.hlu.probes[p]).periodOpen = false ∨ (e.s.hlu.probes[p]).highTime = none) : e.risingEdge p elapsed = e.edged p := by
  unfold Ev.risingEdge
  simp only
  split
  next ho hh => simp_all
  next => rfl
  next => rfl

/-- A probe record after an overflow of its capture counter (R41, R45). -/
def ProbeRec.overflowed (r : ProbeRec) : ProbeRec :=
  let third := decide (3 ≤ min 255 (r.stale + 1))
  let enters := third && !r.faulted
  { r with
    capture := 0, stale := min 255 (r.stale + 1), periodOpen := false, highTime := none, validRun := 0
    lost := if third then some r.lineLevel else r.lost
    settled := if enters then false else r.settled
    window := if enters then [] else r.window }

theorem Ev.overflow_calm (p : ProbeIx) (e : Ev) :
    (e.overflow p).s.calm = (e.s.setProbe p (e.s.hlu.probes[p]).overflowed).calm := by
  unfold Ev.overflow ProbeRec.overflowed
  simp only
  split
  next hthird =>
    rw [decide_eq_true hthird]
    rcases (e.s.hlu.probes[p]).faulted
    · exact Ev.probeFault_calm (s := e.s) (e := Ev.condHolds _ _ (e.on (State.setProbe p _))) (Ev.condHolds_calm ..)
    · exact Ev.condHolds_calm ..
  next hthird =>
    rw [decide_eq_false hthird]
    rfl

/-- Settles O13; an overflow by what its event leaves calm. -/
theorem edgeAndOverflowRules : Obligations.EdgeAndOverflowRules := by
  refine ⟨⟨fun p elapsed s h => ?_, fun p elapsed s => ?_⟩, fun p s => ?_⟩
  · rw [exec_risingEdge, Ev.risingEdge_opens h]
    exact happened_quiet _ rfl
  · exact happened_quiet _ rfl
  · refine ⟨_, rfl, ?_⟩
    obtain ⟨hclock, hprobes, hpba, hpools, hpins, hpending⟩ :=
      State.calm_eq ((Ev.finish_calm _).trans (Ev.overflow_calm p (Ev.start s)))
    exact ⟨hprobes, hclock, hpba, hpools, hpins, hpending⟩

/-! ### Conversions (R43 to R45) -/

theorem convert_invalid {t h : Nat} (hc : t < 1000 ∨ 1000 * h < 50 * t ∨ 950 * t < 1000 * h) : convert t h = .invalid := if_pos hc

theorem convert_valid {t h : Nat} (ht : 1000 ≤ t) (hlow : 50 * t ≤ 1000 * h) (hhigh : 1000 * h ≤ 950 * t) :
    convert t h = .valid (max (-500) (min 3500 (((5000 * h / t : Nat) : Int) - 1000))) := by
  have hclamp : ∀ v : Int, clampInt (-500) 3500 v = max (-500) (min 3500 v) := fun v => by
    unfold clampInt
    omega
  rw [← hclamp]
  exact if_neg (by omega)

theorem slide_eq {w : List Int} (h : w.length ≤ 4) (v : Int) :
    slide w v = if w.length = 4 then w.drop 1 ++ [v] else w ++ [v] := by
  unfold slide
  rcases Nat.lt_or_eq_of_le h with hlt | heq
  · rw [if_neg (Nat.not_le.mpr hlt), if_neg (Nat.ne_of_lt hlt)]
  · rw [if_pos (Nat.le_of_eq heq.symm), if_pos heq]

theorem slide_length (w : List Int) (v : Int) : 4 ≤ (slide w v).length ↔ 3 ≤ w.length := by
  unfold slide
  split
  · simp only [List.length_append, List.length_drop, List.length_singleton]
    omega
  · simp only [List.length_append, List.length_singleton]
    omega

/-- A valid conversion makes a reading: the probe is not faulted, or returns, and its WINDOW is full with the value (R44, R45). -/
def ProbeRec.reads (r : ProbeRec) : Bool := decide ((r.faulted = false ∨ 3 ≤ r.validRun) ∧ 3 ≤ r.window.length)

/-- A probe record after a valid conversion (R44, R45). -/
def ProbeRec.converted (r : ProbeRec) (v : Int) : ProbeRec :=
  { r with
    lastConversion := some (.valid v), validRun := min 4 (r.validRun + 1), invalidRun := 0, window := slide r.window v
    lost := if 3 ≤ r.validRun then none else r.lost
    range := if 3 ≤ r.validRun then false else r.range
    settled := if r.reads then true else r.settled
    reading := if r.reads then (slide r.window v).sum / 4 else r.reading }

theorem ProbeRec.not_faulted {r : ProbeRec} (h : r.faulted = false) : r.lost = none ∧ r.range = false := by
  simpa [ProbeRec.faulted] using h

/-- What a valid conversion does, from the probe and the event as the trip comparator leaves them. -/
theorem Ev.validConversion_eq {p : ProbeIx} {v : Int} {e f : Ev} {r : ProbeRec} (hf : e.compareTrip p v = f)
    (hr : f.s.hlu.probes[p] = r) :
    let e1 := f.on (State.setProbe p (r.converted v))
    let e2 := if r.faulted = true ∧ 3 ≤ r.validRun then (e1.condEnds .probeLost p.val).condEnds .probeRange p.val else e1
    e.validConversion p v = if r.reads then e2.readingUpdate p else e2 := by
  unfold Ev.validConversion ProbeRec.converted ProbeRec.reads
  rw [hf]
  have hrun : (4 ≤ min 4 (r.validRun + 1)) = (3 ≤ r.validRun) := by
    rw [Nat.le_min, Nat.succ_le_succ_iff]
    simp
  have hlen : (4 ≤ (slide r.window v).length) = (3 ≤ r.window.length) := propext (slide_length ..)
  simp only [hr, hrun]
  rcases hfault : r.faulted
  · obtain ⟨hlost, hrange⟩ := ProbeRec.not_faulted hfault
    by_cases hfull : 3 ≤ r.window.length <;> simp [hlen, hfull, hlost, hrange, ProbeRec.faulted, windowMean]
  · by_cases hheal : 3 ≤ r.validRun
    · by_cases hfull : 3 ≤ r.window.length <;> simp [hlen, hfull, hheal, ProbeRec.faulted, windowMean]
    · have hstill : ∀ (w : List Int) (n m : Nat) (c : Option Conversion),
        ({ r with window := w, validRun := n, invalidRun := m, lastConversion := c } : ProbeRec).faulted = true :=
        fun _ _ _ _ => hfault
      simp [hheal, hstill]

/-- The state after a valid conversion, but for the loads and what is told (R44, R45). -/
theorem Ev.validConversion_calm {p : ProbeIx} {v : Int} {e : Ev} {r : ProbeRec} (hr : e.s.hlu.probes[p] = r) :
    (e.validConversion p v).s.calm = (e.s.setProbe p (r.converted v)).calm := by
  have hcalm := Ev.compareTrip_calm p v e
  have hget : (e.compareTrip p v).s.hlu.probes[p] = r := by rw [(State.calm_eq hcalm).2.1, hr]
  have hset := State.setProbe_calm hcalm p (r.converted v)
  have hends : ∀ f : Ev, (if r.faulted = true ∧ 3 ≤ r.validRun then (f.condEnds .probeLost p.val).condEnds .probeRange p.val
      else f).s.calm = f.s.calm := by
    intro f
    split
    · rfl
    · rfl
  rw [Ev.validConversion_eq rfl hget]
  split
  · exact (Ev.Telling.readingUpdate p _).1.trans ((hends _).trans hset)
  · exact (hends _).trans hset

theorem Ev.condEnds_active (c : Cond) (source : Nat) (e : Ev) :
    source ∉ ((e.condEnds c source).s.fm.conds[c.index]).active := by
  have h : ((e.condEnds c source).s.fm.conds[c.index]).active =
      (e.s.fm.conds[c.index]).active.filter (fun a => decide (a ≠ source)) := congrArg CondRec.active (get_set_same ..)
  rw [h]
  simp

theorem Ev.condEnds_conds_ne {c d : Cond} (h : d.index ≠ c.index) (source : Nat) (e : Ev) :
    (e.condEnds c source).s.fm.conds[d.index] = e.s.fm.conds[d.index] := get_set_ne _ h _

/-- A probe is reported neither lost nor out of range. -/
def Fm.ProbeClear (m : Fm) (p : ProbeIx) : Prop :=
  p.val ∉ (m.conds[Cond.probeLost.index]).active ∧ p.val ∉ (m.conds[Cond.probeRange.index]).active

theorem Ev.condEnds_probeClear (p : ProbeIx) (e : Ev) :
    ((e.condEnds .probeLost p.val).condEnds .probeRange p.val).s.fm.ProbeClear p := by
  refine ⟨?_, Ev.condEnds_active _ _ _⟩
  rw [Ev.condEnds_conds_ne (by decide)]
  exact Ev.condEnds_active _ _ _

/-- A faulted probe that returns is clear (R45). -/
theorem Ev.validConversion_clears {p : ProbeIx} {v : Int} {e : Ev} {r : ProbeRec} (hr : e.s.hlu.probes[p] = r)
    (hfault : r.faulted = true) (hrun : 3 ≤ r.validRun) : (e.validConversion p v).s.fm.ProbeClear p := by
  have hget : (e.compareTrip p v).s.hlu.probes[p] = r := by rw [(State.calm_eq (Ev.compareTrip_calm p v e)).2.1, hr]
  rw [Ev.validConversion_eq rfl hget]
  simp only [hfault, hrun, and_self, if_true]
  split
  · rw [(Ev.Telling.readingUpdate p _).2]
    exact Ev.condEnds_probeClear ..
  · exact Ev.condEnds_probeClear ..

/-- A probe record after an invalid conversion (R44, R45). -/
def ProbeRec.rejected (r : ProbeRec) : ProbeRec :=
  { r with lastConversion := some .invalid, invalidRun := min 4 (r.invalidRun + 1), validRun := 0 }

theorem ProbeRec.rejected_eq {r : ProbeRec} {n : Nat} (h : min 4 (r.invalidRun + 1) = n) :
    r.rejected = { r with lastConversion := some .invalid, invalidRun := n, validRun := 0 } := by rw [ProbeRec.rejected, h]

theorem Ev.invalidConversion_few {p : ProbeIx} {e : Ev} {r : ProbeRec} (hr : e.s.hlu.probes[p] = r) (h : r.invalidRun < 3) :
    e.invalidConversion p = e.on (State.setProbe p r.rejected) := by
  unfold Ev.invalidConversion
  simp only [hr]
  exact if_neg (by omega)

theorem Ev.invalidConversion_fourth {p : ProbeIx} {e : Ev} {r : ProbeRec} (hr : e.s.hlu.probes[p] = r) (h : 3 ≤ r.invalidRun) :
    let f := (e.on (State.setProbe p { r.rejected with range := true })).condHolds .probeRange p.val
    e.invalidConversion p = if r.faulted then f else f.probeFault p := by
  unfold Ev.invalidConversion
  simp only [hr]
  exact if_pos (by omega)

/-- The state after the fourth invalid conversion in a row, but for the loads and what is told (R45). -/
theorem Ev.invalidConversion_calm {p : ProbeIx} {e : Ev} {r : ProbeRec} (hr : e.s.hlu.probes[p] = r) (h : 3 ≤ r.invalidRun) :
    (e.invalidConversion p).s.calm = (e.s.setProbe p { r.rejected with
      range := true, settled := if r.faulted then r.settled else false, window := if r.faulted then r.window else [] }).calm := by
  have hholds := Ev.condHolds_calm .probeRange p.val (e.on (State.setProbe p { r.rejected with range := true }))
  rw [Ev.invalidConversion_fourth hr h]
  rcases r.faulted
  · exact Ev.probeFault_calm hholds
  · exact hholds

theorem Ev.invalidConversion_holds {p : ProbeIx} {e : Ev} {r : ProbeRec} (hr : e.s.hlu.probes[p] = r) (h : 3 ≤ r.invalidRun) :
    p.val ∈ ((e.invalidConversion p).s.fm.conds[Cond.probeRange.index]).active := by
  have hfm : (e.invalidConversion p).s.fm =
      ((e.on (State.setProbe p { r.rejected with range := true })).condHolds .probeRange p.val).s.fm := by
    rw [Ev.invalidConversion_fourth hr h]
    split
    · rfl
    · exact (Ev.Telling.probeFault p _).2
  rw [hfm]
  exact Ev.condHolds_active ..

theorem Ev.risingEdge_invalid {p : ProbeIx} {elapsed h : Nat} {e : Ev} (ho : (e.s.hlu.probes[p]).periodOpen = true)
    (hh : (e.s.hlu.probes[p]).highTime = some h)
    (hv : convert (min 65535 ((e.s.hlu.probes[p]).capture + elapsed)) h = .invalid) :
    e.risingEdge p elapsed = (e.edged p).invalidConversion p := by
  have hv' : convert ((e.s.hlu.probes[p]).after elapsed) h = .invalid := hv
  unfold Ev.risingEdge
  simp only [ho, hh, hv']
  rfl

/-- A probe record after a rising edge, before its conversion (R42). -/
def ProbeRec.turned (r : ProbeRec) : ProbeRec :=
  { r with lineLevel := .high, stale := 0, capture := 0, periodOpen := true, highTime := none }

theorem Ev.edged_get (p : ProbeIx) (e : Ev) : (e.edged p).s.hlu.probes[p] = (e.s.hlu.probes[p]).turned := State.setProbe_get ..

/-- What is calm after a probe is written behind an edge, but for the lines. -/
theorem Ev.edged_calm {p : ProbeIx} {r : ProbeRec} {s t : State} (h : t.calm = (((Ev.start s).edged p).s.setProbe p r).calm) :
    t.hlu.probes = s.hlu.probes.set p r ∧ t.clock = s.clock ∧ t.pba = s.pba ∧ t.ppu.pools = s.ppu.pools ∧
      t.pending = s.pending := by
  obtain ⟨hclock, hprobes, hpba, hpools, -, hpending⟩ := State.calm_eq h
  exact ⟨hprobes.trans (set_set_same ..), hclock, hpba, hpools, hpending⟩

theorem State.setProbe_setLine (p : ProbeIx) (a b : ProbeRec) (v : Level) (s : State) :
    ((s.setProbe p a).setLine p v).setProbe p b = (s.setProbe p b).setLine p v := by
  simp [State.setProbe, State.setLine]

/-- Settles O14, by the outcome of the conversion and, where it is invalid, by the run before it. -/
theorem conversionRule : Obligations.ConversionRule := by
  refine ⟨fun t h => ⟨convert_invalid, convert_valid⟩, fun p elapsed s h => ?_⟩
  intro r turned frame hopen hhigh hwindow
  have hget : ((Ev.start s).edged p).s.hlu.probes[p] = turned := Ev.edged_get p (Ev.start s)
  refine ⟨fun v hv => ?_, fun hv => ⟨fun hfew => ?_, fun hfourth => ?_⟩⟩
  · intro window reads
    have hedge := Ev.risingEdge_valid (e := Ev.start s) hopen hhigh hv
    obtain ⟨hprobes, hframe⟩ := Ev.edged_calm ((Ev.finish_calm _).trans (Ev.validConversion_calm (v := v) hget))
    have hslide : slide turned.window v = window := slide_eq hwindow v
    refine ⟨_, congrArg happened hedge, hprobes.trans ?_, fun hfault hrun => ?_, hframe⟩
    · unfold ProbeRec.converted
      rw [hslide]
      rfl
    · have hclear := Ev.validConversion_clears (v := v) hget hfault hrun
      rw [← Ev.finish_fm] at hclear
      exact hclear
  · have hedge := Ev.risingEdge_invalid (e := Ev.start s) hopen hhigh hv
    have hrun : min 4 (turned.invalidRun + 1) = r.invalidRun + 1 := Nat.min_eq_right (Nat.succ_le_succ hfew.le)
    rw [exec_risingEdge, hedge, Ev.invalidConversion_few hget hfew, happened_quiet _ rfl, ProbeRec.rejected_eq hrun]
    exact congrArg _ (State.setProbe_setLine ..)
  · have hedge := Ev.risingEdge_invalid (e := Ev.start s) hopen hhigh hv
    have hrun : min 4 (turned.invalidRun + 1) = 4 := Nat.min_eq_left (Nat.succ_le_succ hfourth)
    obtain ⟨hprobes, hframe⟩ := Ev.edged_calm ((Ev.finish_calm _).trans (Ev.invalidConversion_calm hget hfourth))
    refine ⟨_, congrArg happened hedge, hprobes.trans ?_, ?_, hframe⟩
    · rw [ProbeRec.rejected_eq hrun]
      rfl
    · rw [Ev.finish_fm]
      exact Ev.invalidConversion_holds hget hfourth

end Sys2Proof.Machine
end

section
/-! PROOFS. The commands on loads (R55, R57, R61). -/

namespace Sys2Proof.Machine

open Sys2Proof

/-! ### STATE, and its changes (R47) -/

/-- A recomputation of REQUEST is no matter of the STATE. -/
theorem State.recompute_state (l : LoadIx) (s : State) : ((s.recompute l).hlu.loads[l]).state = (s.hlu.loads[l]).state := by
  obtain ⟨request, preload, shadow, output, h⟩ := s.recompute_eq l
  rw [h, State.setLoad_get]
  rfl

/-- A load that is TESTING or ENABLED now gives its users nothing to be told. -/
theorem Ev.loadChanged_up {l : LoadIx} {e : Ev} (h : (e.s.hlu.loads[l]).state.down = false) (before : LoadState) :
    e.loadChanged l before = e := by
  unfold Ev.loadChanged
  simp only [h, Bool.false_eq_true, and_false, if_false]

theorem LoadRec.state_of_clear {r : LoadRec} (htest : r.testing = false) (hcut : r.cutoutFail = false)
    (hcheck : r.checkFail = false) (htrip : r.trip = false) : r.state = .enabled := by
  unfold LoadRec.state
  rw [htest, hcut, hcheck, htrip]
  rfl

/-! ### SET LOAD (R55, R61) -/

theorem exec_setLoad (x : Station) (load : Byte) (im : LoadImage) (s : State) :
    exec (.setLoad x load im) s = concluded x 0x20 (cmdSetLoad load im (Ev.start s)) := by
  rfl

theorem clampNat_zero (hi v : Nat) : clampNat 0 hi v = min hi v := by
  rw [clampNat, if_neg (Nat.not_lt_zero v)]
  split
  · omega
  · omega

/-- A signed field stored as a number, its range above 0. -/
theorem clampNat_toNat (lo hi : Nat) (v : Int) (h : lo ≤ hi) : ((clampNat lo hi v.toNat : Nat) : Int) = clampInt lo hi v := by
  unfold clampNat clampInt
  split_ifs <;> omega

/-- A load after a taken SET LOAD (R55). -/
def LoadRec.rewritten (r : LoadRec) (im : LoadImage) : LoadRec :=
  { r.configured im with checkFail := false, grant := if (r.configured im).rating = r.rating then r.grant else 0 }

theorem Ev.cmdSetLoad_testing {l : LoadIx} {load : Byte} (hload : load.toNat = l.val) (im : LoadImage) {e : Ev}
    (h : (e.s.hlu.loads[l]).testing = true) : cmdSetLoad load im e = (e, refuse .busy) := by
  rw [cmdSetLoad, withIndex_some l hload]
  simp only [h, if_true]

/-- SET LOAD on a load with no trip and no failed test, which stays installed if it was. -/
theorem Ev.cmdSetLoad_clear {l : LoadIx} {load : Byte} (hload : load.toNat = l.val) {im : LoadImage} {e : Ev}
    (htest : (e.s.hlu.loads[l]).testing = false) (htrip : (e.s.hlu.loads[l]).trip = false)
    (hcut : (e.s.hlu.loads[l]).cutoutFail = false) (hrating : 0 < im.rating.toNat ∨ (e.s.hlu.loads[l]).rating = 0) :
    cmdSetLoad load im e =
      (e.on (fun s => (s.setLoad l ((e.s.hlu.loads[l]).rewritten im)).recompute l), ⟨taken (loadClamped im), []⟩) := by
  let e1 := e.on fun s => (s.setLoad l ((e.s.hlu.loads[l]).rewritten im)).recompute l
  have hkept : ¬ (0 < (e.s.hlu.loads[l]).rating ∧ ((e.s.hlu.loads[l]).configured im).rating = 0) := by
    show ¬ (0 < (e.s.hlu.loads[l]).rating ∧ clampNat 0 6000 im.rating.toNat = 0)
    rw [clampNat_zero]
    omega
  have hstate : (e1.s.hlu.loads[l]).state = .enabled := by
    refine (State.recompute_state ..).trans ?_
    rw [State.setLoad_get]
    exact LoadRec.state_of_clear htest hcut rfl htrip
  have hdown : (e1.s.hlu.loads[l]).state.down = false := by rw [hstate]; rfl
  rw [cmdSetLoad, withIndex_some l hload]
  simp only [htest, Bool.false_eq_true, if_false, if_neg hkept]
  exact congrArg (·, _) (Ev.loadChanged_up hdown _)

theorem loadClamped_eq_false_iff (im : LoadImage) :
    loadClamped im = false ↔
      im.rating.toNat ≤ 6000 ∧ 0 ≤ im.tripLimit.toInt ∧ im.tripLimit.toInt ≤ 4000 ∧ 10 ≤ im.pb.toInt ∧
        im.pb.toInt ≤ 500 ∧ im.bias.toNat ≤ 500 ∧ 50 ≤ im.nextPeriod.toNat ∧ im.nextPeriod.toNat ≤ 1000 ∧
        im.minOn.toNat ≤ 500 := by
  unfold loadClamped dC
  simp only [Bool.or_eq_false_iff, decide_eq_false_iff_not, Int.not_lt, Nat.not_lt, and_assoc]

/-! ### RESET LOAD (R57) -/

theorem exec_resetLoad (x : Station) (load : Byte) (s : State) :
    exec (.resetLoad x load) s = concluded x 0x21 (cmdResetLoad load (Ev.start s)) := by
  rfl

theorem cmdResetLoad_at {l : LoadIx} {load : Byte} (hload : load.toNat = l.val) (e : Ev) :
    cmdResetLoad load e = ((e.resetLoad l).1, ⟨(e.resetLoad l).2, []⟩) := by
  rw [cmdResetLoad, withIndex_some l hload]

/-- A refused RESET LOAD, and one on an ENABLED load, changes nothing. -/
theorem exec_resetLoad_still {l : LoadIx} {load : Byte} {result : Result} {s : State} (hload : load.toNat = l.val) (x : Station)
    (h : (Ev.start s).resetLoad l = (Ev.start s, result)) :
    exec (.resetLoad x load) s = .next (s.setAnswer x ⟨0x21, ⟨result, []⟩⟩) := by
  rw [exec_resetLoad, cmdResetLoad_at hload, h]
  exact concluded_start ..

/-- The conditions under which a TRIPPED load stays so (R57). -/
def LoadRec.StaysTripped (r : LoadRec) (p : ProbeRec) : Prop :=
  r.rating = 0 ∨ p.faulted = true ∨ (p.settled = true ∧ r.tripLimit - 50 ≤ p.reading)

section ResetLoad

variable {l : LoadIx} {e : Ev}

theorem Ev.resetLoad_testing (h : (e.s.hlu.loads[l]).state = .testing) : e.resetLoad l = (e, .busy) := by
  unfold Ev.resetLoad
  simp only [h]

theorem Ev.resetLoad_faulted (h : (e.s.hlu.loads[l]).state = .faulted) : e.resetLoad l = (e, .unavailable) := by
  unfold Ev.resetLoad
  simp only [h]

theorem LoadRec.staysTripped_iff (r : LoadRec) (p : ProbeRec) :
    (!r.installed || p.faulted || (p.settled && decide (r.tripLimit - 50 ≤ p.reading))) = true ↔ r.StaysTripped p := by
  unfold LoadRec.StaysTripped
  simp only [Bool.or_eq_true, Bool.and_eq_true, Bool.not_eq_true', decide_eq_true_eq, LoadRec.not_installed_iff, or_assoc]

theorem Ev.resetLoad_stays (h : (e.s.hlu.loads[l]).state = .tripped)
    (hstay : (e.s.hlu.loads[l]).StaysTripped e.s.hlu.probes[controlProbe l]) : e.resetLoad l = (e, .unavailable) := by
  unfold Ev.resetLoad
  simp only [h]
  exact if_pos ((LoadRec.staysTripped_iff ..).mpr hstay)

theorem Ev.resetLoad_resets (h : (e.s.hlu.loads[l]).state = .tripped)
    (hgo : ¬ (e.s.hlu.loads[l]).StaysTripped e.s.hlu.probes[controlProbe l]) :
    e.resetLoad l = ((e.on (fun s => (s.setLoad l { e.s.hlu.loads[l] with trip := false }).recompute l)).condEnds .overheat l.val,
      .ok) := by
  unfold Ev.resetLoad
  simp only [h]
  exact if_neg fun hc => hgo ((LoadRec.staysTripped_iff ..).mp hc)

theorem Ev.resetLoad_up (h : (e.s.hlu.loads[l]).state = .enabled) :
    e.resetLoad l = (e, if 0 < (e.s.hlu.loads[l]).rating then .ok else .unavailable) := by
  unfold Ev.resetLoad
  simp only [h, LoadRec.installed, decide_eq_true_eq]
  split
  · rfl
  · rfl

end ResetLoad

/-- RESET LOAD is refused (R57). -/
theorem Ev.resetLoad_unavailable {l : LoadIx} {e : Ev} (htest : (e.s.hlu.loads[l]).state ≠ .testing)
    (h : (e.s.hlu.loads[l]).rating = 0 ∨ (e.s.hlu.loads[l]).state = .faulted ∨ ((e.s.hlu.loads[l]).state = .tripped ∧
      ((e.s.hlu.probes[controlProbe l]).faulted = true ∨ ((e.s.hlu.probes[controlProbe l]).settled = true ∧
        (e.s.hlu.loads[l]).tripLimit - 50 ≤ (e.s.hlu.probes[controlProbe l]).reading)))) :
    e.resetLoad l = (e, .unavailable) := by
  cases hstate : (e.s.hlu.loads[l]).state with
  | testing => exact absurd hstate htest
  | faulted => exact Ev.resetLoad_faulted hstate
  | tripped => exact Ev.resetLoad_stays hstate (h.imp_right fun h => (h.resolve_left (by rw [hstate]; decide)).2)
  | enabled =>
    have hzero : (e.s.hlu.loads[l]).rating = 0 := h.resolve_right (by rw [hstate]; simp)
    rw [Ev.resetLoad_up hstate, if_neg (by omega)]

/-- Settles O17; RESET LOAD by the STATE of the load. -/
theorem setLoadAndResetLoadRules : Obligations.SetLoadAndResetLoadRules := by
  refine ⟨fun x load im s => ⟨fun hno => ?_, fun l hload => ⟨fun htest => ?_, fun htest htrip hcut hrating => ?_⟩⟩,
    fun x load s => ⟨fun hno => ?_, fun l hload => ⟨fun htest => ?_, fun htest hno => ?_, fun hup hrating => ?_,
      fun htripped hrating hfault hcool => ?_⟩⟩⟩
  · rw [exec_setLoad, cmdSetLoad, withIndex_none (by omega)]
    exact concluded_start ..
  · rw [exec_setLoad, Ev.cmdSetLoad_testing hload im (e := Ev.start s) htest]
    exact concluded_start ..
  · refine ⟨(s.hlu.loads[l]).rewritten im, taken (loadClamped im), ?_, ?_, ?_, ?_, taken_cases _⟩
    · rw [exec_setLoad, Ev.cmdSetLoad_clear hload (e := Ev.start s) htest htrip hcut hrating]
      exact concluded_quiet _ _ _ _ rfl
    · unfold LoadRec.rewritten LoadRec.configured dC
      simp only [clampNat_zero, eq_comm (a := min 6000 im.rating.toNat)]
    · exact clampNat_toNat 10 500 im.pb.toInt (by decide)
    · rw [taken_eq_ok_iff, loadClamped_eq_false_iff]
  · rw [exec_resetLoad, cmdResetLoad, withIndex_none (by omega)]
    exact concluded_start ..
  · exact exec_resetLoad_still hload x (Ev.resetLoad_testing (e := Ev.start s) htest)
  · exact exec_resetLoad_still hload x (Ev.resetLoad_unavailable (e := Ev.start s) htest hno)
  · refine exec_resetLoad_still hload x ((Ev.resetLoad_up (e := Ev.start s) hup).trans ?_)
    exact congrArg (Prod.mk _) (if_pos hrating)
  · have hgo : ¬ (s.hlu.loads[l]).StaysTripped s.hlu.probes[controlProbe l] := by
      rintro (hzero | hfaulted | ⟨hsettled, hwarm⟩)
      · exact hrating.ne' hzero
      · exact Bool.eq_false_iff.mp hfault hfaulted
      · exact Int.not_lt.mpr hwarm (hcool hsettled)
    rw [exec_resetLoad, cmdResetLoad_at hload, Ev.resetLoad_resets (e := Ev.start s) htripped hgo]
    exact concluded_quiet _ _ _ _ rfl

end Sys2Proof.Machine
end

section
/-! PROOFS. The cutout test and the verification of protected fields (R58 to R60). -/

namespace Sys2Proof.Machine

open Sys2Proof

/-! ### Loads that are off -/

/-- The load asks for nothing and its output is off. -/
def LoadRec.off (r : LoadRec) : LoadRec := { r with request := 0, preload := 0, shadow := 0, output := false }

theorem LoadRec.requestOf_notEnabled {r : LoadRec} (h : r.state ≠ .enabled) (p : ProbeRec) : r.requestOf p = 0 :=
  LoadRec.requestOf_idle (.inr (.inr (.inl h)))

/-- A load that is not ENABLED once its flags are written is off once it is shut. -/
theorem State.shutLoad_eq {l : LoadIx} {f : LoadRec → LoadRec} {s : State} (h : (f s.hlu.loads[l]).state ≠ .enabled) :
    s.shutLoad l f = s.setLoad l (f s.hlu.loads[l]).off := by
  obtain ⟨preload, shadow, output, heq⟩ := LoadRec.settlePreload_eq { f s.hlu.loads[l] with request := 0 }
  have hpre : preload = 0 := by
    have hzero := (LoadRec.settlePreload_zero (r := { f s.hlu.loads[l] with request := 0 }) rfl).1
    rw [heq] at hzero
    exact hzero
  have hrec : (s.setLoad l (f s.hlu.loads[l])).recompute l =
      s.setLoad l { f s.hlu.loads[l] with request := 0, preload := 0, shadow := shadow, output := output } := by
    unfold State.recompute
    simp only [State.setLoad_get]
    rw [LoadRec.requestOf_notEnabled h, heq, State.setLoad_setLoad, hpre]
  unfold State.shutLoad
  simp only [hrec, State.setLoad_get, State.setLoad_setLoad]
  rfl

/-! ### What no report that the engine takes changes at a load -/

/-- The configured fields and the flags of a load. -/
def LoadRec.marks (r : LoadRec) : Nat × Int × Nat × Bool × Bool × Bool × Bool × TestResult :=
  (r.rating, r.tripLimit, r.check, r.trip, r.cutoutFail, r.checkFail, r.testing, r.lastTest)

theorem LoadRec.marks_eq {r q : LoadRec} (h : q.marks = r.marks) :
    q.trip = r.trip ∧ q.cutoutFail = r.cutoutFail ∧ q.checkFail = r.checkFail ∧ q.testing = r.testing ∧
      q.lastTest = r.lastTest := by
  simp only [LoadRec.marks, Prod.mk.injEq] at h
  obtain ⟨-, -, -, htrip, hcut, hcheck, htest, hlast⟩ := h
  exact ⟨htrip, hcut, hcheck, htest, hlast⟩

theorem LoadRec.state_of_marks {r q : LoadRec} (h : q.marks = r.marks) : q.state = r.state := by
  obtain ⟨htrip, hcut, hcheck, htest, -⟩ := LoadRec.marks_eq h
  unfold LoadRec.state
  rw [htrip, hcut, hcheck, htest]

/-- A load asks for nothing and its output is off. -/
structure LoadRec.IsOff (r : LoadRec) : Prop where
  request : r.request = 0
  preload : r.preload = 0
  shadow : r.shadow = 0
  output : r.output = false

theorem LoadRec.off_isOff (r : LoadRec) : r.off.IsOff := ⟨rfl, rfl, rfl, rfl⟩

/-- From `a` to `b` the marks stand; and a load that is not ENABLED goes on asking for nothing, and stays off. -/
structure LoadRec.Stands (a b : LoadRec) : Prop where
  marks : b.marks = a.marks
  asks : a.state ≠ .enabled → a.request = 0 → b.request = 0
  off : a.state ≠ .enabled → a.IsOff → b.IsOff

theorem LoadRec.Stands.refl (a : LoadRec) : a.Stands a := ⟨rfl, fun _ h => h, fun _ h => h⟩

theorem LoadRec.Stands.trans {a b c : LoadRec} (h : a.Stands b) (k : b.Stands c) : a.Stands c := by
  have hstate : a.state ≠ .enabled → b.state ≠ .enabled := by rw [LoadRec.state_of_marks h.marks]; exact id
  exact ⟨k.marks.trans h.marks, fun ha hr => k.asks (hstate ha) (h.asks ha hr), fun ha ho => k.off (hstate ha) (h.off ha ho)⟩

def State.LoadsStand (s t : State) : Prop := ∀ l : LoadIx, (s.hlu.loads[l]).Stands t.hlu.loads[l]

theorem State.LoadsStand.refl (s : State) : s.LoadsStand s := fun _ => .refl _

theorem State.LoadsStand.trans {s t u : State} (h : s.LoadsStand t) (k : t.LoadsStand u) : s.LoadsStand u :=
  fun l => (h l).trans (k l)

theorem State.LoadsStand.of_loads {s t : State} (h : t.hlu.loads = s.hlu.loads) : s.LoadsStand t := fun l => by
  rw [h]; exact .refl _

theorem State.setLoad_stands {l : LoadIx} {r : LoadRec} {s : State} (h : (s.hlu.loads[l]).Stands r) :
    s.LoadsStand (s.setLoad l r) := fun m => by
  by_cases hm : m = l
  · subst hm
    rw [State.setLoad_get]
    exact h
  · rw [State.setLoad_get_ne hm]
    exact .refl _

theorem LoadRec.IsOff.settlePreload {r : LoadRec} (h : r.IsOff) : r.settlePreload.IsOff := by
  have hzero : min r.grant r.request = 0 := by rw [h.request, Nat.min_zero]
  rw [LoadRec.settlePreload_more (by rw [h.preload]; exact Nat.zero_le _)]
  exact ⟨h.request, hzero, h.shadow, h.output⟩

theorem State.recompute_stands (l : LoadIx) (s : State) : s.LoadsStand (s.recompute l) := by
  refine State.setLoad_stands ⟨?_, fun hstate _ => ?_, fun hstate h => ?_⟩
  · obtain ⟨preload, shadow, output, heq⟩ := LoadRec.settlePreload_eq
      { s.hlu.loads[l] with request := (s.hlu.loads[l]).requestOf s.hlu.probes[controlProbe l] }
    rw [heq]
    rfl
  · exact (LoadRec.settlePreload_zero (LoadRec.requestOf_notEnabled hstate _)).2.1
  · exact LoadRec.IsOff.settlePreload ⟨LoadRec.requestOf_notEnabled hstate _, h.preload, h.shadow, h.output⟩

theorem State.recompute_asks {l : LoadIx} {s : State} (h : (s.hlu.loads[l]).state ≠ .enabled) :
    ((s.recompute l).hlu.loads[l]).request = 0 := by
  unfold State.recompute
  rw [State.setLoad_get]
  exact (LoadRec.settlePreload_zero (LoadRec.requestOf_notEnabled h _)).2.1

theorem State.handSetpoint_stands (l : LoadIx) (v : Int) (a : Bool) (s : State) : s.LoadsStand (s.handSetpoint l v a) := by
  unfold State.handSetpoint
  simp only
  split
  · exact .refl s
  · have hset : s.LoadsStand (s.setLoad l { s.hlu.loads[l] with setpoint := v, active := a }) :=
      State.setLoad_stands ⟨rfl, fun _ h => h, fun _ h => ⟨h.request, h.preload, h.shadow, h.output⟩⟩
    exact hset.trans (State.recompute_stands l _)

/-- No report that the engine takes changes a mark or wakes a load. -/
theorem kept_stand (s0 : State) : Kept False (fun s => s0.LoadsStand s) where
  bound := fun b => b.elim
  onFse := fun _ _ h => h
  handSetpoint := fun l v a s h => h.trans (State.handSetpoint_stands l v a s)
  onPpu := fun _ _ _ _ h => h
  postNotice := fun x n s h => h.trans (.of_loads (by rw [(State.desk_eq (State.postNotice_desk x n s)).2.2.1]))
  joinWaiting := fun _ _ _ h => h
  setPgu := fun _ _ _ h => h
  latch := fun c source s h => h.trans (.of_loads (by rw [(State.desk_eq (State.latch_desk c source s)).2.2.1]))
  setActive := fun _ _ _ h => h

theorem Ev.finish_stands (e : Ev) : e.s.LoadsStand e.finish := (kept_stand e.s).finish (.refl e.s)

/-! ### TEST CUTOUT (R58) -/

theorem exec_testCutout (x : Station) (load : Byte) (s : State) :
    exec (.testCutout x load) s = concluded x 0x22 (cmdTestCutout x load (Ev.start s)) := by
  rfl

theorem LoadRec.state_of_testing {r : LoadRec} (h : r.testing = true) : r.state ≠ .enabled := by
  rw [(LoadRec.testing_iff r).mpr h]
  decide

section TestCutout

variable {l : LoadIx} {load : Byte} {x : Station} {e : Ev}

theorem cmdTestCutout_absent (hload : load.toNat = l.val) (h : (e.s.hlu.loads[l]).rating = 0) :
    cmdTestCutout x load e = (e, refuse .unavailable) := by
  have hno : (e.s.hlu.loads[l]).installed = false := (LoadRec.not_installed_iff _).mpr h
  rw [cmdTestCutout, withIndex_some l hload]
  simp only [hno, Bool.not_false, if_true]

theorem cmdTestCutout_busy (hload : load.toNat = l.val) (hrating : 0 < (e.s.hlu.loads[l]).rating)
    (h : (e.s.hlu.loads[l]).testing = true ∨ e.s.inUse l = true) : cmdTestCutout x load e = (e, refuse .busy) := by
  have hin : (e.s.hlu.loads[l]).installed = true := (LoadRec.installed_iff _).mpr hrating
  rw [cmdTestCutout, withIndex_some l hload]
  simp only [hin, Bool.not_true, Bool.false_eq_true, if_false]
  split
  · rfl
  next htest => exact if_pos (h.resolve_left htest)

theorem cmdTestCutout_starts (hload : load.toNat = l.val) (hrating : 0 < (e.s.hlu.loads[l]).rating)
    (htest : (e.s.hlu.loads[l]).testing = false) (huse : e.s.inUse l = false) :
    cmdTestCutout x load e =
      (e.on (fun s => s.setLoad l ({ s.hlu.loads[l] with testing := true, testStation := some x } : LoadRec).off), okay []) := by
  have hin : (e.s.hlu.loads[l]).installed = true := (LoadRec.installed_iff _).mpr hrating
  have hshut := State.shutLoad_eq (l := l) (f := fun q => { q with testing := true, testStation := some x }) (s := e.s)
    (LoadRec.state_of_testing rfl)
  rw [cmdTestCutout, withIndex_some l hload]
  simp only [hin, Bool.not_true, Bool.false_eq_true, if_false, htest, huse]
  exact congrArg (fun t => (({ e with s := t } : Ev), okay [])) hshut

end TestCutout

/-! ### The completion of a cutout test (R59) -/

theorem exec_cutoutTestCompletion (l : LoadIx) (s : State) :
    exec (.cutoutTestCompletion l) s = happened ((Ev.start s).testCompletion l) := by
  rfl

/-- A test is passed on a load that nothing else holds back. -/
theorem Ev.testCompletion_passes {l : LoadIx} {y : Station} {e : Ev} (htest : (e.s.hlu.loads[l]).testing = true)
    (hy : (e.s.hlu.loads[l]).testStation = some y) (hlim : (e.s.hlu.loads[l]).tripLimit ≤ 3500)
    (htrip : (e.s.hlu.loads[l]).trip = false) (hcheck : (e.s.hlu.loads[l]).checkFail = false) :
    e.testCompletion l = e.on (fun s => ((s.setLoad l { s.hlu.loads[l] with
      testing := false, lastTest := .pass, cutoutFail := false, testStation := none }).recompute l).postNotice y
        { source := .load, index := l.val, code := .testResult, p1 := 0, p2 := (s.hlu.loads[l]).tripLimit.toNat, p3 := 0,
          time := s.clock }) := by
  let r : LoadRec := { e.s.hlu.loads[l] with testing := false, lastTest := .pass, cutoutFail := false, testStation := none }
  let f := (e.on fun s => s.setLoad l r).on (State.recompute l)
  have hpass : (e.s.hlu.loads[l]).testPasses = true := decide_eq_true hlim
  have hdown : (f.s.hlu.loads[l]).state.down = false := by
    have hstate : (f.s.hlu.loads[l]).state = .enabled := by
      refine (State.recompute_state ..).trans ?_
      rw [Ev.on_s, State.setLoad_get]
      exact LoadRec.state_of_clear rfl rfl hcheck htrip
    rw [hstate]
    rfl
  have hsame : f.loadChanged l (e.s.hlu.loads[l]).state = f := Ev.loadChanged_up hdown _
  unfold Ev.testCompletion
  simp only [htest, hy, hpass, if_true, Bool.not_true]
  rw [hsame]
  rfl

theorem LoadRec.state_of_cutoutFail {r : LoadRec} (h : r.cutoutFail = true) : r.state ≠ .enabled := by
  unfold LoadRec.state
  simp only [h, Bool.true_or, if_true]
  split
  · decide
  · decide

theorem State.postNotice_hlu (x : Station) (n : Notice) (s : State) : (s.postNotice x n).hlu = s.hlu :=
  (State.desk_eq (State.postNotice_desk x n s)).2.2.1

/-- A failed test is reported, and the request is recomputed; what it tells changes no load (R59). -/
theorem Ev.testCompletion_hlu {l : LoadIx} {y : Station} {e : Ev} (htest : (e.s.hlu.loads[l]).testing = true)
    (hy : (e.s.hlu.loads[l]).testStation = some y) (hfail : (e.s.hlu.loads[l]).testPasses = false) :
    (e.testCompletion l).s.hlu =
      (((e.on fun s => s.setLoad l (e.s.hlu.loads[l]).tested).raise .cutoutTestFail l.val).s.recompute l).hlu := by
  unfold Ev.testCompletion LoadRec.tested
  simp only [htest, hy, hfail, if_true, Bool.false_eq_true, if_false, Bool.not_false, Ev.on_s, State.postNotice_hlu]
  exact (Ev.loadChanged_same ..).1

/-- The load of a failed test: its flags, and no request (R59). -/
theorem Ev.testCompletion_fails {l : LoadIx} {y : Station} {e : Ev} (htest : (e.s.hlu.loads[l]).testing = true)
    (hy : (e.s.hlu.loads[l]).testStation = some y) (hfail : (e.s.hlu.loads[l]).testPasses = false) :
    ((e.testCompletion l).s.hlu.loads[l]).marks = (e.s.hlu.loads[l]).tested.marks ∧
      ((e.testCompletion l).s.hlu.loads[l]).request = 0 := by
  let f := (e.on fun s => s.setLoad l (e.s.hlu.loads[l]).tested).raise .cutoutTestFail l.val
  have hget : f.s.hlu.loads[l] = (e.s.hlu.loads[l]).tested := by
    rw [(State.desk_eq (Ev.raise_desk ..)).2.2.1]
    exact State.setLoad_get ..
  have hstate : (f.s.hlu.loads[l]).state ≠ .enabled := by
    rw [hget]
    exact LoadRec.state_of_cutoutFail (by rw [LoadRec.tested, hfail]; rfl)
  have hmarks := (State.recompute_stands l f.s l).marks
  rw [hget] at hmarks
  rw [Ev.testCompletion_hlu htest hy hfail]
  exact ⟨hmarks, State.recompute_asks hstate⟩

/-- Settles O19; the failed test by what no report changes at a load (`LoadRec.Stands`). -/
theorem cutoutTestRule : Obligations.CutoutTestRule := by
  refine ⟨fun x load s => ⟨fun hno => ?_, fun l hload =>
      ⟨fun hrating => ?_, fun hrating hbusy => ?_, fun hrating htest huse => ?_⟩⟩,
    fun l y s htest hy => ⟨fun hlim htrip hcheck => ?_, fun hlim => ?_⟩⟩
  · rw [exec_testCutout, cmdTestCutout, withIndex_none (by omega)]
    exact concluded_start ..
  · rw [exec_testCutout, cmdTestCutout_absent (e := Ev.start s) hload hrating]
    exact concluded_start ..
  · rw [exec_testCutout, cmdTestCutout_busy (e := Ev.start s) hload hrating hbusy]
    exact concluded_start ..
  · rw [exec_testCutout, cmdTestCutout_starts (e := Ev.start s) hload hrating htest huse]
    exact concluded_quiet _ _ _ _ rfl
  · rw [exec_cutoutTestCompletion, Ev.testCompletion_passes (e := Ev.start s) htest hy hlim htrip hcheck]
    exact happened_quiet _ rfl
  · have hfail : (s.hlu.loads[l]).testPasses = false := decide_eq_false (Int.not_le.mpr hlim)
    obtain ⟨hmarks, hreq⟩ := Ev.testCompletion_fails (e := Ev.start s) htest hy hfail
    have hstands := Ev.finish_stands ((Ev.start s).testCompletion l) l
    obtain ⟨htrip, hcut, hcheck, htesting, hlast⟩ := LoadRec.marks_eq (hstands.marks.trans hmarks)
    have hstate : ((((Ev.start s).testCompletion l).s.hlu.loads[l])).state ≠ .enabled := by
      rw [LoadRec.state_of_marks hmarks]
      exact LoadRec.state_of_cutoutFail (by rw [LoadRec.tested, Ev.start_s, hfail]; rfl)
    refine ⟨_, rfl, htesting, ?_, ?_, hstands.asks hstate hreq, htrip, hcheck⟩
    · rw [hlast, LoadRec.tested, Ev.start_s, hfail]
      rfl
    · rw [hcut, LoadRec.tested, Ev.start_s, hfail]
      rfl

/-! ### The verification of protected fields (R60) -/

theorem checkOf_nat (l : LoadIx) (rating limit : Nat) :
    checkOf l rating limit = 65535 - (rating + 2 * (limit + 1000) + 4096 * l.val) % 65536 := by
  have h : (2 * ((limit : Int) + 1000)).toNat = 2 * (limit + 1000) := by omega
  rw [checkOf, h]

theorem exec_verificationExpiry (s : State) : exec .verificationExpiry s = happened (Ev.start s).verify := by
  rfl

/-- The verification faults the load: it is installed, not failed before, and holds a CHECK other than the check value. -/
def LoadRec.Mismatched (r : LoadRec) (l : LoadIx) : Prop :=
  0 < r.rating ∧ r.checkFail = false ∧ r.check ≠ checkOf l r.rating r.tripLimit

theorem LoadRec.mismatched_iff (r : LoadRec) (l : LoadIx) :
    (r.installed && !r.checkFail && decide (r.check ≠ checkOf l r.rating r.tripLimit)) = true ↔ r.Mismatched l := by
  unfold LoadRec.Mismatched LoadRec.installed
  simp only [Bool.and_eq_true, Bool.not_eq_true', decide_eq_true_eq, and_assoc]

theorem LoadRec.state_of_checkFail {r : LoadRec} (h : r.checkFail = true) : r.state ≠ .enabled := by
  unfold LoadRec.state
  simp only [h, Bool.or_true, if_true]
  split
  · decide
  · decide

/-- A load behind the verification. -/
def LoadRec.verified (r : LoadRec) (l : LoadIx) : LoadRec :=
  if r.installed && !r.checkFail && decide (r.check ≠ checkOf l r.rating r.tripLimit) then
    ({ r with checkFail := true } : LoadRec).off
  else r

theorem LoadRec.verified_faulted {r : LoadRec} {l : LoadIx} (h : r.Mismatched l) :
    r.verified l = ({ r with checkFail := true } : LoadRec).off := if_pos ((r.mismatched_iff l).mpr h)

theorem LoadRec.verified_passed {r : LoadRec} {l : LoadIx} (h : ¬ r.Mismatched l) : r.verified l = r :=
  if_neg fun hc => h ((r.mismatched_iff l).mp hc)

theorem LoadRec.verified_checkFail (r : LoadRec) (l : LoadIx) :
    (r.verified l).checkFail = true ↔ r.checkFail = true ∨ (0 < r.rating ∧ r.check ≠ checkOf l r.rating r.tripLimit) := by
  by_cases h : r.Mismatched l
  · rw [LoadRec.verified_faulted h]
    exact ⟨fun _ => .inr ⟨h.1, h.2.2⟩, fun _ => rfl⟩
  · rw [LoadRec.verified_passed h]
    refine ⟨.inl, fun hc => hc.elim id fun ⟨hrating, hcheck⟩ => ?_⟩
    by_contra hfail
    exact h ⟨hrating, Bool.eq_false_iff.mpr hfail, hcheck⟩

/-- A load that the verification has faulted is off. -/
theorem LoadRec.verified_off {r : LoadRec} {l : LoadIx} (hbefore : r.checkFail = false) (hafter : (r.verified l).checkFail = true) :
    (r.verified l).IsOff := by
  have h : r.Mismatched l := by
    by_contra hno
    rw [LoadRec.verified_passed hno, hbefore] at hafter
    cases hafter
  rw [LoadRec.verified_faulted h]
  exact LoadRec.off_isOff _

/-- What the verification and what it tells leave alone, beside the timer. -/
def State.unverified (s : State) :
    (Nat × Vector ProbeRec 34 × Pba × Vector PoolRec 4 × Pins × List Instr) × Dlu × Nat := (s.calm, s.dlu, s.hlu.verifyLeft)

theorem State.unverified_of_still {s t : State} (h : t.still = s.still) : t.unverified = s.unverified := by
  obtain ⟨-, -, hverify, -, -, -, hdlu, -⟩ := State.still_eq h
  simp [State.unverified, State.calm_of_still h, hverify, hdlu]

theorem Ev.loadChanged_unverified (l : LoadIx) (before : LoadState) (e : Ev) :
    (e.loadChanged l before).s.unverified = e.s.unverified := by
  unfold Ev.loadChanged Ev.loadLost
  simp only
  split
  · split
    · rfl
    · rfl
    · rfl
  · rfl

/-- One load of a verification: that load is verified, and the others stand. -/
theorem Ev.verifyLoad_loads (l : LoadIx) (e : Ev) :
    (e.verifyLoad l).s.hlu.loads = e.s.hlu.loads.set l ((e.s.hlu.loads[l]).verified l) ∧
      (e.verifyLoad l).s.unverified = e.s.unverified := by
  by_cases h : (e.s.hlu.loads[l]).Mismatched l
  · have hshut := State.shutLoad_eq (l := l) (f := fun x => { x with checkFail := true }) (s := e.s)
      (LoadRec.state_of_checkFail rfl)
    have heq : e.verifyLoad l =
        ((e.on (State.shutLoad l (fun x => { x with checkFail := true }))).raise .configCheck l.val).loadChanged l
          (e.s.hlu.loads[l]).state := if_pos ((LoadRec.mismatched_iff ..).mpr h)
    rw [heq, (Ev.loadChanged_same ..).1, (State.desk_eq (Ev.raise_desk ..)).2.2.1, Ev.loadChanged_unverified,
      State.unverified_of_still (Ev.raise_still ..), Ev.on_s, hshut, LoadRec.verified_faulted h]
    exact ⟨rfl, rfl⟩
  · have heq : e.verifyLoad l = e := if_neg fun hc => h ((LoadRec.mismatched_iff ..).mp hc)
    rw [heq, LoadRec.verified_passed h]
    exact ⟨(congrArg (fun t : State => t.hlu.loads) (State.setLoad_self ..)).symm, rfl⟩

/-- The loads of a list are verified one after another, each once. -/
theorem Ev.verifyLoads_get (m : LoadIx) : ∀ (ls : List LoadIx) (e : Ev), ls.Nodup →
    (ls.foldl (fun x l => x.verifyLoad l) e).s.hlu.loads[m] =
      if m ∈ ls then (e.s.hlu.loads[m]).verified m else e.s.hlu.loads[m] := by
  intro ls
  induction ls with
  | nil => exact fun e _ => (if_neg List.not_mem_nil).symm
  | cons l ls ih =>
    intro e hnodup
    obtain ⟨hnot, hrest⟩ := List.nodup_cons.mp hnodup
    have hloads := (Ev.verifyLoad_loads l e).1
    rw [List.foldl_cons, ih _ hrest, hloads]
    by_cases hm : m = l
    · subst hm
      rw [if_neg hnot, if_pos List.mem_cons_self, get_set_same]
    · rw [get_set_ne _ hm]
      simp only [List.mem_cons, hm, false_or]

theorem Ev.verifyLoads_unverified (ls : List LoadIx) (e : Ev) :
    (ls.foldl (fun x l => x.verifyLoad l) e).s.unverified = e.s.unverified :=
  List.foldlRecOn (motive := fun f : Ev => f.s.unverified = e.s.unverified) ls _ rfl fun _ hf l _ =>
    (Ev.verifyLoad_loads l _).2.trans hf

theorem Ev.verify_get (e : Ev) (m : LoadIx) : e.verify.s.hlu.loads[m] = (e.s.hlu.loads[m]).verified m := by
  rw [Ev.verify, Ev.verifyLoads_get m _ _ (List.nodup_finRange 22), if_pos (List.mem_finRange m)]
  rfl

/-- Settles O20: the loads are verified one after another, and what the event then tells wakes none of them. -/
theorem verificationRule : Obligations.VerificationRule := by
  refine ⟨⟨checkOf_nat, by decide, by decide⟩, fun s => ⟨_, exec_verificationExpiry s, ?_⟩⟩
  have hframe : (Ev.start s).verify.finish.unverified = (s.calm, s.dlu, 10) :=
    (State.unverified_of_still (Ev.finish_still _)).trans (Ev.verifyLoads_unverified ..)
  obtain ⟨hcalm, hdlu, htimer⟩ : _ ∧ _ ∧ _ := by simpa only [State.unverified, Prod.mk.injEq] using hframe
  obtain ⟨hclock, hprobes, hpba, hpools, -, hpending⟩ := State.calm_eq hcalm
  refine ⟨htimer, fun l => ?_, hclock, hprobes, hpba, hpools, hdlu, hpending⟩
  have hstands := Ev.finish_stands (Ev.start s).verify l
  rw [Ev.verify_get] at hstands
  obtain ⟨-, -, hcheck, -⟩ := LoadRec.marks_eq hstands.marks
  rw [hcheck]
  refine ⟨LoadRec.verified_checkFail .., fun hbefore hafter => ?_⟩
  obtain ⟨hreq, hpre, hshadow, hout⟩ := hstands.off (LoadRec.state_of_checkFail hafter) (LoadRec.verified_off hbefore hafter)
  exact ⟨hreq, hpre, hshadow, hout⟩

end Sys2Proof.Machine
end

section
/-! PROOFS. The division of the budget: what a scaled class receives, and the fractions of the grants (R72 to R74). -/

namespace Sys2Proof.Machine

open Sys2Proof

/-! ### A share and its unit (R73) -/

theorem floorShare_le {v : Vector Ask 22} {c : Fin 3} {r : Nat} (h : r < classSum v c) (l : LoadIx) :
    floorShare v c r l ≤ (v[l]).demand :=
  Nat.div_le_of_le_mul (by rw [Nat.mul_comm (classSum v c)]; exact Nat.mul_le_mul_left _ h.le)

/-- Whether the walk can give a unit to a load: it is of the class, and its floored share is below its demand. -/
def wantsUnit (v : Vector Ask 22) (c : Fin 3) (r : Nat) (l : LoadIx) : Bool :=
  (v[l]).installed && decide ((v[l]).cls = c) && decide (floorShare v c r l < (v[l]).demand)

theorem walked_eq_take (v : Vector Ask 22) (c : Fin 3) (r : Nat) (pointer : LoadIx) :
    walked v c r pointer = ((walkOrder pointer).filter (wantsUnit v c r)).take (leftover v c r) := rfl

theorem wantsUnit_iff {v : Vector Ask 22} {c : Fin 3} {r : Nat} {l : LoadIx} :
    wantsUnit v c r l = true ↔ l ∈ members v c ∧ floorShare v c r l < (v[l]).demand := by
  simp only [wantsUnit, Bool.and_eq_true, decide_eq_true_eq, mem_members]

theorem wantsUnit_of_mem_walked {v : Vector Ask 22} {c : Fin 3} {r : Nat} {pointer l : LoadIx}
    (h : l ∈ walked v c r pointer) : wantsUnit v c r l = true :=
  (List.mem_filter.mp (List.mem_of_mem_take h)).2

theorem walkOrder_nodup (pointer : LoadIx) : (walkOrder pointer).Nodup :=
  (List.nodup_finRange 22).map (add_right_injective pointer)

theorem mem_walkOrder (pointer l : LoadIx) : l ∈ walkOrder pointer :=
  List.mem_map.mpr ⟨l - pointer, List.mem_finRange _, add_sub_cancel pointer l⟩

theorem walked_nodup (v : Vector Ask 22) (c : Fin 3) (r : Nat) (pointer : LoadIx) : (walked v c r pointer).Nodup :=
  ((walkOrder_nodup pointer).filter _).sublist (List.take_sublist ..)

/-- No grant exceeds its demand. -/
theorem grantOf_le_demand (v : Vector Ask 22) (a : Nat) (pointer l : LoadIx) : grantOf v a pointer l ≤ (v[l]).demand := by
  rcases hin : (v[l]).installed
  · rw [grantOf_absent hin]
    exact Nat.zero_le _
  rcases Nat.lt_or_ge (budgetFor v a (v[l]).cls) (classSum v (v[l]).cls) with h | h
  · rw [grantOf_scaled pointer hin h]
    split
    next hwalk => exact (wantsUnit_iff.mp (wantsUnit_of_mem_walked hwalk)).2
    next => exact floorShare_le h l
  · exact (grantOf_full pointer hin h).le

/-! ### A scaled class uses up its budget (R73) -/

/-- One unit to each load that can take one covers what the floors cut off the class. -/
theorem le_floorShares_add_wanting {v : Vector Ask 22} {c : Fin 3} {r : Nat} (h : r < classSum v c) :
    r ≤ ((members v c).map fun l => floorShare v c r l + if wantsUnit v c r l then 1 else 0).sum := by
  have hpos : 0 < classSum v c := Nat.zero_lt_of_lt h
  have hcover : ∀ l ∈ members v c,
      (v[l]).demand * r ≤ (floorShare v c r l + if wantsUnit v c r l then 1 else 0) * classSum v c := by
    intro l hl
    split
    next => exact (Nat.lt_mul_of_div_lt (Nat.lt_succ_self (floorShare v c r l)) hpos).le
    next hno =>
      have hwhole : (v[l]).demand ≤ (v[l]).demand * r / classSum v c :=
        Nat.not_lt.mp fun hlt => hno (wantsUnit_iff.mpr ⟨hl, hlt⟩)
      have hzero : (v[l]).demand = 0 := by
        by_contra hne
        have := (Nat.le_div_iff_mul_le hpos).mp hwhole
        exact absurd (Nat.le_of_mul_le_mul_left this (Nat.pos_of_ne_zero hne)) (Nat.not_le.mpr h)
      rw [hzero, Nat.zero_mul]
      exact Nat.zero_le _
  refine Nat.le_of_mul_le_mul_right ?_ hpos
  calc r * classSum v c
      = ((members v c).map fun l => (v[l]).demand * r).sum := by rw [List.sum_map_mul_right, Nat.mul_comm]; rfl
    _ ≤ ((members v c).map fun l =>
          (floorShare v c r l + if wantsUnit v c r l then 1 else 0) * classSum v c).sum := List.sum_le_sum hcover
    _ = _ := List.sum_map_mul_right ..

/-- Units given out one to a load of the class, counted over the class. -/
theorem units_eq_length {v : Vector Ask 22} {c : Fin 3} {ls : List LoadIx} (hnodup : ls.Nodup)
    (hclass : ∀ l ∈ ls, l ∈ members v c) : ((members v c).map fun l => if l ∈ ls then 1 else 0).sum = ls.length := by
  have hmem : ∀ l : LoadIx, (if (v[l]).installed ∧ (v[l]).cls = c then (if l ∈ ls then 1 else 0) else 0) =
      if l ∈ ls.toFinset then 1 else 0 := by
    intro l
    rw [← ite_and]
    refine if_congr ⟨fun hl => List.mem_toFinset.mpr hl.2, fun hl => ?_⟩ rfl rfl
    exact ⟨mem_members.mp (hclass l (List.mem_toFinset.mp hl)), List.mem_toFinset.mp hl⟩
  rw [members_sum, Finset.sum_congr rfl fun l _ => hmem l, ← Finset.sum_filter, Finset.filter_univ_mem,
    ← Finset.card_eq_sum_ones, List.toFinset_card_of_nodup hnodup]

/-- There are loads enough to take every unit left over. -/
theorem walked_length {v : Vector Ask 22} {c : Fin 3} {r : Nat} (h : r < classSum v c) (pointer : LoadIx) :
    (walked v c r pointer).length = leftover v c r := by
  have hmem : ∀ l : LoadIx, l ∈ (walkOrder pointer).filter (wantsUnit v c r) ↔ wantsUnit v c r l = true := fun l => by
    simp only [List.mem_filter, mem_walkOrder, true_and]
  have hwanting := units_eq_length (v := v) (c := c) ((walkOrder_nodup pointer).filter (wantsUnit v c r))
    fun l hl => (wantsUnit_iff.mp ((hmem l).mp hl)).1
  have hcover := le_floorShares_add_wanting h
  simp only [hmem] at hwanting
  rw [List.sum_map_add, hwanting] at hcover
  rw [walked_eq_take, List.length_take]
  unfold leftover
  omega

/-- A scaled class receives exactly the budget it meets. -/
theorem classGrant_scaled {v : Vector Ask 22} {a : Nat} {c : Fin 3} (h : budgetFor v a c < classSum v c) (pointer : LoadIx) :
    classGrant v a pointer c = budgetFor v a c := by
  have hunits := (units_eq_length (walked_nodup v c (budgetFor v a c) pointer) fun l hl =>
    (wantsUnit_iff.mp (wantsUnit_of_mem_walked hl)).1).trans (walked_length h pointer)
  have hfloors := floorShares_le h
  calc classGrant v a pointer c
      = ((members v c).map fun l => floorShare v c (budgetFor v a c) l +
          if l ∈ walked v c (budgetFor v a c) pointer then 1 else 0).sum := by
        refine congrArg List.sum (List.map_congr_left fun l hl => ?_)
        obtain ⟨hin, rfl⟩ := mem_members.mp hl
        exact grantOf_scaled pointer hin h
    _ = budgetFor v a c := by
        rw [List.sum_map_add, hunits, leftover]
        exact Nat.add_sub_of_le hfloors

/-! ### The fractions (R74) -/

theorem fractionOf_dropped {ask : Ask} {g : Nat} (h : 0 < g * 1000 / ask.rating ∧ g * 1000 / ask.rating < ask.minOn) :
    fractionOf ask g = (0, true) := if_pos h

theorem fractionOf_kept {ask : Ask} {g : Nat} (h : ¬ (0 < g * 1000 / ask.rating ∧ g * 1000 / ask.rating < ask.minOn)) :
    fractionOf ask g = (g * 1000 / ask.rating, false) := if_neg h

theorem fractionOf_le {ask : Ask} {g : Nat} (h : g ≤ ask.rating) : (fractionOf ask g).1 ≤ 1000 := by
  by_cases hdrop : 0 < g * 1000 / ask.rating ∧ g * 1000 / ask.rating < ask.minOn
  · rw [fractionOf_dropped hdrop]
    exact Nat.zero_le _
  · rw [fractionOf_kept hdrop]
    exact Nat.div_le_of_le_mul (Nat.mul_le_mul_right 1000 h)

theorem fractionOf_zero_or_minOn (ask : Ask) (g : Nat) : (fractionOf ask g).1 = 0 ∨ ask.minOn ≤ (fractionOf ask g).1 := by
  by_cases hdrop : 0 < g * 1000 / ask.rating ∧ g * 1000 / ask.rating < ask.minOn
  · rw [fractionOf_dropped hdrop]
    exact .inl rfl
  · rw [fractionOf_kept hdrop]
    exact (Nat.eq_zero_or_pos _).imp_right fun hpos => Nat.not_lt.mp fun hlt => hdrop ⟨hpos, hlt⟩

theorem fractionOf_marked_iff (ask : Ask) (g : Nat) :
    (fractionOf ask g).2 = true ↔ 0 < g * 1000 / ask.rating ∧ g * 1000 / ask.rating < ask.minOn := by
  by_cases hdrop : 0 < g * 1000 / ask.rating ∧ g * 1000 / ask.rating < ask.minOn
  · simp only [fractionOf_dropped hdrop, hdrop, and_self]
  · simp only [fractionOf_kept hdrop, hdrop, Bool.false_eq_true]

/-- Settles O24: the leftover of a scaled class is no more than its loads that can take a unit, so the walk gives all of it. -/
theorem divisionOfTheBudget : Obligations.DivisionOfTheBudget := by
  refine ⟨fun v a pointer => ⟨grantOf_le_demand v a pointer, ?_⟩, fun v a pointer c => ⟨fun hfull l hl => ?_, fun hscaled => ?_⟩,
    fun ask g _ => ⟨fractionOf_mul_le ask g, fractionOf_le, fractionOf_zero_or_minOn ask g, fractionOf_marked_iff ask g⟩⟩
  · rw [← Fin.sum_univ_def]
    exact grants_le v a pointer
  · obtain ⟨hin, rfl⟩ := mem_members.mp hl
    exact grantOf_full pointer hin hfull
  · refine ⟨classGrant_scaled hscaled pointer, fun l hl => ?_⟩
    obtain ⟨hin, rfl⟩ := mem_members.mp hl
    rw [grantOf_scaled pointer hin hscaled]
    split
    · exact .inr rfl
    · exact .inl rfl

end Sys2Proof.Machine
end

section
/-! PROOFS. What an allocation reads of each load (R69 to R71). -/

namespace Sys2Proof.Machine

open Sys2Proof

theorem State.asks_absent {s : State} {l : LoadIx} (h : (s.hlu.loads[l]).rating = 0) : (s.asks[l]).installed = false := by
  have hno : ¬ (s.hlu.loads[l]).installed = true := by rw [(LoadRec.not_installed_iff _).mpr h]; decide
  rw [State.asks, table_get, if_neg hno]

theorem State.asks_present {s : State} {l : LoadIx} (h : 0 < (s.hlu.loads[l]).rating) :
    s.asks[l] =
      { installed := true
        cls := s.classOf l
        rating := (s.hlu.loads[l]).rating
        demand := demandOf (s.hlu.loads[l]).request (s.hlu.loads[l]).rating
        minOn := (s.hlu.loads[l]).minOn } :=
  (table_get _ _).trans (if_pos ((LoadRec.installed_iff _).mpr h))

/-! ### The classes (R69) -/

theorem State.classOf_ovenLoad (s : State) (c : Chan) : s.classOf (ovenLoad c) = s.ovenClass c := by
  simp only [State.classOf, ovenOf_ovenLoad]

theorem State.ovenClass_hold {s : State} {c : Chan} (h : (s.fse.channels[c]).state = .hold) : s.ovenClass c = 0 := by
  rw [State.ovenClass, h]

theorem State.ovenClass_run {s : State} {c : Chan} {i : StepIx} (h : (s.fse.channels[c]).state = .run)
    (hcur : (s.fse.channels[c]).current = some i) : s.ovenClass c = if (s.fse.steps[i]).flags.critical then 0 else 1 := by
  simp only [State.ovenClass, State.critical, h, hcur]

theorem State.ovenClass_rest {s : State} {c : Chan}
    (h : (s.fse.channels[c]).state = .idle ∨ (s.fse.channels[c]).state = .stopped) : s.ovenClass c = 2 := by
  rcases h with h | h
  · rw [State.ovenClass, h]
  · rw [State.ovenClass, h]

theorem ovenOf_warmerLoad (w : WarmerIx) : ovenOf (warmerLoad w) = none :=
  dif_neg (by simp only [warmerLoad]; omega)

theorem warmerOfLoad_warmerLoad (w : WarmerIx) : warmerOfLoad (warmerLoad w) = some w := by
  unfold warmerOfLoad
  rw [dif_pos (by simp only [warmerLoad]; omega)]
  exact congrArg some (Fin.ext (Nat.add_sub_cancel_left 12 w.val))

theorem State.classOf_warmerLoad (s : State) (w : WarmerIx) :
    s.classOf (warmerLoad w) = if s.ppu.reserved (s.ppu.warmers[w]).kind then 1 else 2 := by
  simp only [State.classOf, ovenOf_warmerLoad, warmerOfLoad_warmerLoad]

/-- While the AGE LIST is right, a kind is reserved where a live entry is of it (R108, R109). -/
theorem Ppu.reserved_iff {p : Ppu} (h : p.AgeListRight) (k : Kind) :
    p.reserved k = true ↔ ∃ (n : ResIx) (q : ResRec), p.entries[n] = some q ∧ q.kind = k := by
  rw [Ppu.reserved, Bool.not_eq_true', List.isEmpty_eq_false_iff_exists_mem]
  constructor
  · rintro ⟨e, he⟩
    obtain ⟨n, -, hn⟩ := List.mem_filterMap.mp he
    split at hn
    next q hq =>
      split at hn
      next hk => exact ⟨n, q, hq, hk⟩
      next => cases hn
    next => cases hn
  · rintro ⟨n, q, hq, hk⟩
    refine ⟨(n, q), List.mem_filterMap.mpr ⟨n, (h.2 n).mpr (by rw [hq]; rfl), ?_⟩⟩
    simp only [hq, hk, if_true]

theorem State.classOf_rinseLoad (s : State) : s.classOf 20 = 0 := rfl

theorem State.classOf_washLoad (s : State) : s.classOf 21 = if s.dlu.racks = [] then 2 else 1 := rfl

end Sys2Proof.Machine
end

section
/-! PROOFS. What a fault report writes of the condition records: the one of its own condition, and URGENT NOT QUEUED (R174, R189
to R193). -/

namespace Sys2Proof.Machine

open Sys2Proof

/-- A condition record after a report (R189, R190). -/
def CondRec.reported (r : CondRec) (source now : Nat) : CondRec :=
  if r.latched then { r with occurrences := min 255 (r.occurrences + 1) }
  else { r with latched := true, firstSource := some source, firstAt := now, occurrences := 1 }

theorem State.latch_conds (c : Cond) (source : Nat) (s : State) :
    (s.latch c source).1.fm.conds = s.fm.conds.set c.index ((s.fm.conds[c.index]).reported source s.clock) := by
  simp only [State.latch, CondRec.reported]
  split
  · rfl
  · obtain ⟨p, hp, -⟩ := State.tellSubscribers_writes c source (s.setFm (s.fm.setCond c
      { s.fm.conds[c.index] with latched := true, firstSource := some source, firstAt := s.clock, occurrences := 1 }).judgeAlert)
    rw [hp]
    rfl

theorem State.latch_conds_same (c : Cond) (source : Nat) (s : State) :
    (s.latch c source).1.fm.conds[c.index] = (s.fm.conds[c.index]).reported source s.clock := by
  rw [State.latch_conds, get_set_same]

theorem State.latch_conds_ne {c : Cond} {d : Fin 23} (h : d ≠ c.index) (source : Nat) (s : State) :
    (s.latch c source).1.fm.conds[d] = s.fm.conds[d] := by
  rw [State.latch_conds, get_set_ne _ h]

/-- Beside URGENT NOT QUEUED, a report writes what its latching writes. -/
theorem Ev.raiseIn_conds {d : Fin 23} (hd : d ≠ Cond.urgentNotQueued.index) (n : Nat) (c : Cond) (source : Nat) (e : Ev) :
    (e.raiseIn n c source).s.fm.conds[d] = (e.s.latch c source).1.fm.conds[d] := by
  induction n generalizing c source e with
  | zero =>
    simp only [Ev.raiseIn]
    split <;> rfl
  | succ n ih =>
    have hpage : ∀ sub, (({ e with s := (e.s.latch c source).1 } : Ev).submitFault sub).1.s.fm.conds[d] =
        (e.s.latch c source).1.fm.conds[d] := fun sub =>
      congrArg (fun f : Fm => f.conds[d]) (Ev.submitFault_aside ..).fm
    simp only [Ev.raiseIn]
    split
    · split
      · exact hpage _
      · exact (ih ..).trans ((State.latch_conds_ne hd ..).trans (hpage _))
    · rfl

theorem Ev.raise_conds_same {c : Cond} (h : c.index ≠ Cond.urgentNotQueued.index) (source : Nat) (e : Ev) :
    (e.raise c source).s.fm.conds[c.index] = (e.s.fm.conds[c.index]).reported source e.s.clock :=
  (Ev.raiseIn_conds h ..).trans (State.latch_conds_same ..)

theorem Ev.raise_conds_ne {c : Cond} {d : Fin 23} (hc : d ≠ c.index) (hd : d ≠ Cond.urgentNotQueued.index) (source : Nat)
    (e : Ev) : (e.raise c source).s.fm.conds[d] = e.s.fm.conds[d] :=
  (Ev.raiseIn_conds hd ..).trans (State.latch_conds_ne hc ..)

theorem Ev.condHolds_conds_ne {c : Cond} {d : Fin 23} (hc : d ≠ c.index) (hd : d ≠ Cond.urgentNotQueued.index) (source : Nat)
    (e : Ev) : (e.condHolds c source).s.fm.conds[d] = e.s.fm.conds[d] := by
  unfold Ev.condHolds
  simp only
  split
  · rfl
  · exact (Ev.raise_conds_ne hc hd ..).trans (get_set_ne _ hc _)

end Sys2Proof.Machine
end

section
/-! PROOFS. What an allocation leaves of the budget record, of the loads and of SAFETY SHORT (R68, R75 to R81). -/

namespace Sys2Proof.Machine

open Sys2Proof

/-! ### The record (R76, R80, R81) -/

/-- A load of class 1 whose grant is below its demand, where A is divided (R80). -/
abbrev State.ShortAt (s : State) (a : Nat) (l : LoadIx) : Prop :=
  (s.asks[l]).installed = true ∧ (s.asks[l]).cls = 0 ∧ grantOf s.asks a s.pba.pointer l < (s.asks[l]).demand

/-- An installed load with a demand (R81). -/
def State.Wants (s : State) : Prop := ∃ l : LoadIx, (s.asks[l]).installed = true ∧ 0 < (s.asks[l]).demand

theorem allocationOf_load (v : Vector Ask 22) (a : Nat) (pointer : LoadIx) (cause : AllocCause) (now : Nat) (l : LoadIx) :
    (allocationOf v a pointer cause now).loads[l] =
      { installed := (v[l]).installed, cls := (v[l]).cls, demand := (v[l]).demand, grant := grantOf v a pointer l,
        fraction := (fractionOf v[l] (grantOf v a pointer l)).1, belowMin := (fractionOf v[l] (grantOf v a pointer l)).2 } :=
  table_get _ _

section Record

variable (s : State) (a : Nat) (cause : AllocCause)

/-- The record of an allocation of `a` units over what the loads of a state ask. -/
def State.allocation : Allocation := allocationOf s.asks a s.pba.pointer cause s.clock

theorem State.shortLoad_eq : (s.allocation a cause).shortLoad = Fin.find? fun l => decide (s.ShortAt a l) := by
  rw [Allocation.shortLoad, Fin.find?_eq_find?_finRange]
  refine congrArg (fun p => List.find? p _) (funext fun l => ?_)
  simp only [State.allocation, allocationOf_load, State.ShortAt, Bool.decide_and, Bool.decide_eq_true, Bool.and_assoc]

theorem State.shortLoad_eq_some {l : LoadIx} (h : s.ShortAt a l) (hfirst : ∀ m : LoadIx, m < l → ¬ s.ShortAt a m) :
    (s.allocation a cause).shortLoad = some l := by
  rw [State.shortLoad_eq, Fin.find?_eq_some_iff]
  exact ⟨decide_eq_true h, fun m hm => decide_eq_false (hfirst m hm)⟩

theorem State.shortLoad_eq_none (h : ∀ l : LoadIx, ¬ s.ShortAt a l) : (s.allocation a cause).shortLoad = none := by
  rw [State.shortLoad_eq, Fin.find?_eq_none_iff]
  exact fun l => decide_eq_false (h l)

theorem State.wanting_isSome : (s.allocation a cause).wanting.isSome = true ↔ s.Wants := by
  unfold Allocation.wanting
  rw [← Fin.find?_eq_find?_finRange, Fin.isSome_find?_iff]
  simp only [State.allocation, allocationOf_load, Bool.and_eq_true, decide_eq_true_eq]
  rfl

end Record

/-! ### The hand-over (R77) -/

theorem State.setPba_desk {s t : State} (h : t.desk = s.desk) (b : Pba) : (t.setPba b).desk = (s.setPba b).desk := by
  obtain ⟨hclock, hfse, hhlu, -, hppu, hdlu, hpins, hpending⟩ := State.desk_eq h
  simp [State.desk, hclock, hfse, hhlu, hppu, hdlu, hpins, hpending]

/-- The hand-over writes the loads and A IN FORCE alone. -/
theorem State.handGrants_writes (r : Allocation) (s : State) : ∃ loads : Vector LoadRec 22,
    s.handGrants r = { s with hlu := { s.hlu with loads := loads }, pba := { s.pba with inForce := r.aUsed } } := by
  obtain ⟨loads, h⟩ := List.foldlRecOn (motive := fun t : State => ∃ loads : Vector LoadRec 22,
      t = { s with hlu := { s.hlu with loads := loads } }) (List.finRange 22)
    (fun (x : State) (l : LoadIx) => if (r.loads[l]).installed then x.handGrant l (r.loads[l]).fraction else x)
    (b := s) ⟨s.hlu.loads, rfl⟩ fun t ht l _ => by
      obtain ⟨loads, rfl⟩ := ht
      split
      · exact ⟨_, rfl⟩
      · exact ⟨_, rfl⟩
  exact ⟨loads, by unfold State.handGrants; rw [h]; rfl⟩

/-! ### NO HEADROOM (R81) -/

/-- NO HEADROOM is written, with its source. -/
def Pba.headroom (b : Pba) (noHeadroom : Bool) (source : Option LoadIx) : Pba :=
  { b with noHeadroom := noHeadroom, headroomSource := source }

theorem Ev.clearHeadroom_idle {e : Ev} (h : e.s.pba.noHeadroom = false) : e.clearHeadroom = e := by
  unfold Ev.clearHeadroom
  simp only [h, Bool.false_eq_true, if_false]

theorem Ev.clearHeadroom_ends {e : Ev} {l : LoadIx} (h : e.s.pba.noHeadroom = true) (hl : e.s.pba.headroomSource = some l) :
    e.clearHeadroom = (e.on fun s => s.setPba (e.s.pba.headroom false none)).condEnds .noHeadroom l.val := by
  unfold Ev.clearHeadroom
  simp only [h, if_true, hl]
  rfl

theorem Ev.clearHeadroom_unnamed {e : Ev} (h : e.s.pba.noHeadroom = true) (hl : e.s.pba.headroomSource = none) :
    e.clearHeadroom = e.on fun s => s.setPba (e.s.pba.headroom false none) := by
  unfold Ev.clearHeadroom
  simp only [h, if_true, hl]
  rfl

/-- Where NO HEADROOM is cleared: the flag is off, and of the condition records only its own has changed. -/
theorem Ev.clearHeadroom_writes (e : Ev) :
    (∃ o, e.clearHeadroom.s.desk = (e.s.setPba (e.s.pba.headroom false o)).desk) ∧
      ∀ d : Fin 23, d ≠ Cond.noHeadroom.index → e.clearHeadroom.s.fm.conds[d] = e.s.fm.conds[d] := by
  rcases h : e.s.pba.noHeadroom
  · rw [Ev.clearHeadroom_idle h]
    refine ⟨⟨e.s.pba.headroomSource, ?_⟩, fun _ _ => rfl⟩
    rw [Pba.headroom, ← h]
    rfl
  · rcases hl : e.s.pba.headroomSource with _ | l
    · rw [Ev.clearHeadroom_unnamed h hl]
      exact ⟨⟨none, rfl⟩, fun _ _ => rfl⟩
    · rw [Ev.clearHeadroom_ends h hl]
      exact ⟨⟨none, rfl⟩, fun _ hd => get_set_ne _ hd _⟩

theorem Ev.judgeHeadroom_desk (r : Allocation) (e : Ev) : ∃ (b : Bool) (o : Option LoadIx),
    (e.judgeHeadroom r).s.desk = (e.s.setPba (e.s.pba.headroom b o)).desk ∧
      (b = true ↔ r.aUsed = 0 ∧ r.wanting.isSome = true) := by
  unfold Ev.judgeHeadroom
  split
  next l hl =>
    have hwant : r.aUsed = 0 ∧ r.wanting.isSome = true := by
      split at hl
      next hzero => exact ⟨hzero, by rw [hl]; rfl⟩
      next => cases hl
    split
    next hset =>
      refine ⟨true, e.s.pba.headroomSource, ?_, iff_of_true rfl hwant⟩
      rw [Pba.headroom, ← hset]
      rfl
    next => exact ⟨true, some l, Ev.condHolds_desk .., iff_of_true rfl hwant⟩
  next hl =>
    obtain ⟨o, ho⟩ := e.clearHeadroom_writes.1
    refine ⟨false, o, ho, iff_of_false Bool.false_ne_true fun ⟨hzero, hsome⟩ => ?_⟩
    rw [if_pos hzero] at hl
    rw [hl] at hsome
    exact Bool.false_ne_true hsome

theorem Ev.judgeHeadroom_conds_ne {d : Fin 23} (h : d ≠ Cond.noHeadroom.index) (hd : d ≠ Cond.urgentNotQueued.index)
    (r : Allocation) (e : Ev) : (e.judgeHeadroom r).s.fm.conds[d] = e.s.fm.conds[d] := by
  unfold Ev.judgeHeadroom
  split
  · split
    · rfl
    · exact Ev.condHolds_conds_ne h hd ..
  · exact e.clearHeadroom_writes.2 d h

/-! ### An allocation in its three parts -/

/-- The budget record as an allocation goes on to the next (R75, R76). -/
def Pba.advanced (b : Pba) (r : Allocation) : Pba :=
  { b with pointer := b.pointer + 1, count := (b.count + 1) % 65536, last := r }

/-- The pointer, the count and the record are written, and the grants are handed to the loads (R75 to R77). -/
def Ev.grant (r : Allocation) (e : Ev) : Ev := e.on fun s => (s.setPba (e.s.pba.advanced r)).handGrants r

theorem Ev.grant_writes (r : Allocation) (e : Ev) : ∃ loads : Vector LoadRec 22,
    (e.grant r).s = { e.s with
      hlu := { e.s.hlu with loads := loads }
      pba := { e.s.pba.advanced r with inForce := r.aUsed } } := State.handGrants_writes r _

/-- SAFETY SHORT is reported for the lowest-numbered load that is short (R80). -/
def Ev.reportShort (r : Allocation) (e : Ev) : Ev :=
  match r.shortLoad with
  | some l => e.raise .safetyShort l.val
  | none => e

theorem Ev.allocate_eq (cause : AllocCause) (e : Ev) :
    e.allocate cause = ((e.grant (e.s.allocation e.s.pba.available cause)).reportShort
      (e.s.allocation e.s.pba.available cause)).judgeHeadroom (e.s.allocation e.s.pba.available cause) := rfl

theorem Ev.reportShort_desk (r : Allocation) (e : Ev) : (e.reportShort r).s.desk = e.s.desk := by
  unfold Ev.reportShort
  split
  · exact Ev.raise_desk ..
  · rfl

/-- What an allocation writes beside the reports of its faults. -/
theorem Ev.allocate_desk (cause : AllocCause) (e : Ev) :
    let t := (e.grant (e.s.allocation e.s.pba.available cause)).s
    ∃ (b : Bool) (o : Option LoadIx), (e.allocate cause).s.desk = (t.setPba (t.pba.headroom b o)).desk ∧
      (b = true ↔ e.s.pba.available = 0 ∧ e.s.Wants) := by
  rw [Ev.allocate_eq]
  generalize hr : e.s.allocation e.s.pba.available cause = r
  have hshort := (e.grant r).reportShort_desk r
  obtain ⟨b, o, hdesk, hiff⟩ := ((e.grant r).reportShort r).judgeHeadroom_desk r
  obtain ⟨-, -, -, hpba, -⟩ := State.desk_eq hshort
  rw [hpba] at hdesk
  refine ⟨b, o, hdesk.trans (State.setPba_desk hshort _), ?_⟩
  rw [hiff, ← hr, State.wanting_isSome]
  rfl

theorem Ev.allocate_short (cause : AllocCause) (e : Ev) :
    (∀ l : LoadIx, e.s.ShortAt e.s.pba.available l → (∀ m : LoadIx, m < l → ¬ e.s.ShortAt e.s.pba.available m) →
      (e.allocate cause).s.fm.conds[Cond.safetyShort.index] =
        (e.s.fm.conds[Cond.safetyShort.index]).reported l.val e.s.clock) ∧
    ((∀ l : LoadIx, ¬ e.s.ShortAt e.s.pba.available l) →
      (e.allocate cause).s.fm.conds[Cond.safetyShort.index] = e.s.fm.conds[Cond.safetyShort.index]) := by
  obtain ⟨loads, hs⟩ := e.grant_writes (e.s.allocation e.s.pba.available cause)
  rw [Ev.allocate_eq, Ev.judgeHeadroom_conds_ne (by decide) (by decide), Ev.reportShort]
  refine ⟨fun l hl hfirst => ?_, fun hno => ?_⟩
  · rw [State.shortLoad_eq_some _ _ _ hl hfirst]
    refine (Ev.raise_conds_same (by decide) ..).trans ?_
    rw [hs]
  · rw [State.shortLoad_eq_none _ _ _ hno]
    show (e.grant _).s.fm.conds[_] = _
    rw [hs]

theorem Ev.allocate_grant (cause : AllocCause) (e : Ev) (l : LoadIx) :
    (0 < (e.s.hlu.loads[l]).rating → ((e.allocate cause).s.hlu.loads[l]).grant =
      (fractionOf e.s.asks[l] (grantOf e.s.asks e.s.pba.available e.s.pba.pointer l)).1) ∧
    ((e.s.hlu.loads[l]).rating = 0 → ((e.allocate cause).s.hlu.loads[l]).grant = (e.s.hlu.loads[l]).grant) := by
  obtain ⟨b, o, hdesk, -⟩ := e.allocate_desk cause
  obtain ⟨-, -, hhlu, -⟩ := State.desk_eq hdesk
  have hget := (State.handGrants_get (e.s.allocation e.s.pba.available cause)
    (e.s.setPba (e.s.pba.advanced (e.s.allocation e.s.pba.available cause))) l).2
  have hgrant : ((e.allocate cause).s.hlu.loads[l]).grant = _ :=
    (congrArg (fun h : Hlu => (h.loads[l]).grant) hhlu).trans hget
  rw [hgrant, State.allocation, allocationOf_load]
  refine ⟨fun h => ?_, fun h => ?_⟩
  · simp only [State.asks_present h, if_true]
  · simp only [State.asks_absent h, Bool.false_eq_true, if_false]
    rfl

/-! ### The rest of the event -/

theorem State.setLoad_grant {l : LoadIx} {r : LoadRec} {s : State} (h : r.grant = (s.hlu.loads[l]).grant) (m : LoadIx) :
    ((s.setLoad l r).hlu.loads[m]).grant = (s.hlu.loads[m]).grant := by
  by_cases hm : m = l
  · subst hm
    rw [State.setLoad_get, h]
  · rw [State.setLoad_get_ne hm]

theorem State.recompute_grant (l : LoadIx) (s : State) (m : LoadIx) :
    ((s.recompute l).hlu.loads[m]).grant = (s.hlu.loads[m]).grant := by
  obtain ⟨request, preload, shadow, output, h⟩ := s.recompute_eq l
  rw [h]
  exact State.setLoad_grant (by rfl) m

theorem State.handSetpoint_grant (l : LoadIx) (v : Int) (a : Bool) (s : State) (m : LoadIx) :
    ((s.handSetpoint l v a).hlu.loads[m]).grant = (s.hlu.loads[m]).grant := by
  unfold State.handSetpoint
  simp only
  split
  · rfl
  · exact (State.recompute_grant ..).trans (State.setLoad_grant (by rfl) m)

/-- No report that the engine takes changes a grant fraction. -/
theorem kept_grants (s0 : State) : Kept False (fun s => ∀ l : LoadIx, (s.hlu.loads[l]).grant = (s0.hlu.loads[l]).grant) where
  bound := fun b => b.elim
  onFse := fun _ _ h => h
  handSetpoint := fun l v a s h m => (State.handSetpoint_grant l v a s m).trans (h m)
  onPpu := fun _ _ _ _ h => h
  postNotice := fun x n s h => by
    obtain ⟨-, -, hhlu, -⟩ := State.desk_eq (State.postNotice_desk x n s)
    rw [hhlu]
    exact h
  joinWaiting := fun _ _ _ h => h
  setPgu := fun _ _ _ h => h
  latch := fun c source s h => by
    obtain ⟨-, -, hhlu, -⟩ := State.desk_eq (State.latch_desk c source s)
    rw [hhlu]
    exact h
  setActive := fun _ _ _ h => h

theorem Ev.finish_grant (e : Ev) (l : LoadIx) : (e.finish.hlu.loads[l]).grant = (e.s.hlu.loads[l]).grant :=
  (kept_grants e.s).finish (fun _ => rfl) l

/-- What an allocation of `a` units leaves, from `s` to `t`: SAFETY SHORT, the budget record, the grants, and all that it does
not touch (R75 to R77, R80, R81). -/
def State.Allocated (s t : State) (a : Nat) (cause : AllocCause) : Prop :=
  ((∀ l : LoadIx, s.ShortAt a l → (∀ m : LoadIx, m < l → ¬ s.ShortAt a m) →
      t.fm.conds[Cond.safetyShort.index] = (s.fm.conds[Cond.safetyShort.index]).reported l.val s.clock) ∧
    ((∀ l : LoadIx, ¬ s.ShortAt a l) → t.fm.conds[Cond.safetyShort.index] = s.fm.conds[Cond.safetyShort.index])) ∧
  t.pba.last = s.allocation a cause ∧ t.pba.pointer = s.pba.pointer + 1 ∧ t.pba.count = (s.pba.count + 1) % 65536 ∧
  t.pba.inForce = a ∧ (t.pba.noHeadroom = true ↔ a = 0 ∧ s.Wants) ∧
  (∀ l : LoadIx, 0 < (s.hlu.loads[l]).rating →
    (t.hlu.loads[l]).grant = (fractionOf s.asks[l] (grantOf s.asks a s.pba.pointer l)).1) ∧
  (∀ l : LoadIx, (s.hlu.loads[l]).rating = 0 → (t.hlu.loads[l]).grant = (s.hlu.loads[l]).grant) ∧
  t.clock = s.clock ∧ t.hlu.probes = s.hlu.probes ∧ t.ppu.pools = s.ppu.pools ∧ t.dlu = s.dlu ∧ t.pending = s.pending

/-- CAP, UNMANAGED, A and INTERVAL as they were, and the interval timer restarted (R68). -/
def Pba.Restarted (b c : Pba) : Prop :=
  c.timerLeft = b.interval ∧ c.cap = b.cap ∧ c.unmanaged = b.unmanaged ∧ c.available = b.available ∧ c.interval = b.interval

/-- The event of an allocation, to its end. -/
theorem Ev.allocate_finish (cause : AllocCause) (e : Ev) :
    let t := ((e.allocate cause).on State.restartInterval).finish
    e.s.Allocated t e.s.pba.available cause ∧ e.s.pba.Restarted t.pba := by
  intro t
  obtain ⟨b, o, hdesk, hiff⟩ := e.allocate_desk cause
  obtain ⟨loads, hs⟩ := e.grant_writes (e.s.allocation e.s.pba.available cause)
  rw [hs] at hdesk
  obtain ⟨hclock, -, hhlu, hpba, hppu, hdlu, -, hpending⟩ := State.desk_eq hdesk
  obtain ⟨htclock, htprobes, -, htpba, htpools, -, htdlu, -, htpending⟩ :=
    State.still_eq (Ev.finish_still ((e.allocate cause).on State.restartInterval))
  have hfm : t.fm = (e.allocate cause).s.fm := Ev.finish_fm _
  have hgrant : ∀ l : LoadIx, (t.hlu.loads[l]).grant = ((e.allocate cause).s.hlu.loads[l]).grant := Ev.finish_grant _
  have hrecord : t.pba = { (e.allocate cause).s.pba with timerLeft := (e.allocate cause).s.pba.interval } := htpba
  rw [hpba] at hrecord
  rw [State.Allocated, hrecord, hfm]
  exact ⟨⟨e.allocate_short cause, rfl, rfl, rfl, rfl, hiff, fun l hl => (hgrant l).trans ((e.allocate_grant cause l).1 hl),
    fun l hl => (hgrant l).trans ((e.allocate_grant cause l).2 hl), htclock.trans hclock,
    htprobes.trans (congrArg Hlu.probes hhlu :), htpools.trans (congrArg Ppu.pools hppu :), htdlu.trans hdlu,
    htpending.trans hpending⟩, rfl, rfl, rfl, rfl, rfl⟩

end Sys2Proof.Machine
end

section
/-! PROOFS. SET CAP, SET BUDGET and the interval timer (R65 to R68). -/

namespace Sys2Proof.Machine

open Sys2Proof

theorem exec_setCap (x : Station) (cap : BitVec 16) (s : State) :
    exec (.setCap x cap) s = concluded x 0x30 (cmdSetCap cap (Ev.start s)) := by
  rfl

theorem exec_setBudget (x : Station) (cap unmanaged : BitVec 16) (interval : Byte) (s : State) :
    exec (.setBudget x cap unmanaged interval) s = concluded x 0x31 (cmdSetBudget cap unmanaged interval (Ev.start s)) := by
  rfl

theorem exec_intervalExpiry (s : State) : exec .intervalExpiry s = happened (Ev.start s).intervalExpiry := by
  rfl

theorem availableOf_eq (cap unmanaged : Nat) : availableOf cap unmanaged = cap - unmanaged := by
  unfold availableOf
  split <;> omega

/-- The settings of the budget are written (R65 to R67). -/
def Pba.written (b : Pba) (cap unmanaged interval : Nat) : Pba :=
  { b with cap := cap, unmanaged := unmanaged, interval := interval, available := cap - unmanaged }

section SetBudget

variable {cap unmanaged interval : Nat} {e : Ev}

theorem Ev.setBudget_eq : e.setBudget cap unmanaged interval =
    let e1 := e.on fun s => s.setPba (s.pba.written cap unmanaged interval)
    if cap - unmanaged < e.s.pba.available then (e1.allocate .cut).on State.restartInterval
    else if e.s.pba.available = 0 ∧ 0 < cap - unmanaged then e1.clearHeadroom
    else e1 := by
  unfold Ev.setBudget
  rw [availableOf_eq]
  rfl

theorem Ev.setBudget_cuts (h : cap - unmanaged < e.s.pba.available) :
    e.setBudget cap unmanaged interval =
      ((e.on fun s => s.setPba (s.pba.written cap unmanaged interval)).allocate .cut).on State.restartInterval := by
  rw [Ev.setBudget_eq]
  exact if_pos h

/-- A rises from 0 (R81). -/
theorem Ev.setBudget_rises (h : e.s.pba.available = 0) (hnow : 0 < cap - unmanaged) :
    e.setBudget cap unmanaged interval = (e.on fun s => s.setPba (s.pba.written cap unmanaged interval)).clearHeadroom := by
  rw [Ev.setBudget_eq]
  exact (if_neg (by omega)).trans (if_pos ⟨h, hnow⟩)

/-- A is not lowered, and there is no NO HEADROOM to clear. -/
theorem Ev.setBudget_writes (h : e.s.pba.available ≤ cap - unmanaged)
    (hclear : e.s.pba.noHeadroom = false ∨ 0 < e.s.pba.available ∨ cap - unmanaged = 0) :
    e.setBudget cap unmanaged interval = e.on fun s => s.setPba (s.pba.written cap unmanaged interval) := by
  by_cases hrise : e.s.pba.available = 0 ∧ 0 < cap - unmanaged
  · rw [Ev.setBudget_rises hrise.1 hrise.2]
    exact Ev.clearHeadroom_idle (hclear.resolve_right (by omega))
  · rw [Ev.setBudget_eq]
    exact (if_neg (Nat.not_lt.mpr h)).trans (if_neg hrise)

end SetBudget

/-! ### Both commands as one (R66, R67) -/

/-- What SET CAP or SET BUDGET sets and answers: UNMANAGED, INTERVAL and the answer, CAP being the operand within its range. -/
def SetsBudget (i : Instr) (x : Station) (cap : BitVec 16) (u seconds : Nat) (answer : Answer) (s : State) : Prop :=
  exec i s = concluded x answer.command ((Ev.start s).setBudget (min 65000 cap.toNat) u seconds, answer.response)

theorem setCap_setsBudget (x : Station) (cap : BitVec 16) (s : State) :
    SetsBudget (.setCap x cap) x cap s.pba.unmanaged s.pba.interval
      ⟨0x30, ⟨if 65000 < cap.toNat then .clamped else .ok, []⟩⟩ s := by
  rw [SetsBudget, exec_setCap, cmdSetCap, clampNat_zero]
  simp only [taken, decide_eq_true_eq]
  rfl

theorem setBudget_setsBudget (x : Station) (cap unmanaged : BitVec 16) (interval : Byte) (s : State) :
    SetsBudget (.setBudget x cap unmanaged interval) x cap (min 65000 unmanaged.toNat) (clampNat 1 30 interval.toNat)
      ⟨0x31, ⟨if 65000 < cap.toNat ∨ 65000 < unmanaged.toNat ∨ interval.toNat < 1 ∨ 30 < interval.toNat then .clamped
        else .ok, []⟩⟩ s := by
  rw [SetsBudget, exec_setBudget, cmdSetBudget, clampNat_zero, clampNat_zero]
  simp only [taken, budgetClamped, Bool.or_eq_true, decide_eq_true_eq, or_assoc]

section Commands

variable {i : Instr} {x : Station} {cap : BitVec 16} {u seconds : Nat} {answer : Answer} {s : State}

theorem exec_setsBudget_writes (hi : SetsBudget i x cap u seconds answer s)
    (h : s.pba.available ≤ min 65000 cap.toNat - u)
    (hclear : s.pba.noHeadroom = false ∨ 0 < s.pba.available ∨ min 65000 cap.toNat - u = 0) :
    exec i s = .next ((s.setPba (s.pba.written (min 65000 cap.toNat) u seconds)).setAnswer x answer) := by
  have hset := Ev.setBudget_writes (e := Ev.start s) (interval := seconds) h hclear
  rw [hi, hset]
  exact concluded_quiet x _ _ _ rfl

/-- A rises from 0 with NO HEADROOM set: its end is reported for the source kept (R81). -/
theorem exec_setsBudget_rises {l : LoadIx} (hi : SetsBudget i x cap u seconds answer s) (h : s.pba.available = 0)
    (hnow : 0 < min 65000 cap.toNat - u) (hset : s.pba.noHeadroom = true) (hl : s.pba.headroomSource = some l) :
    exec i s = .next (((s.setPba ((s.pba.written (min 65000 cap.toNat) u seconds).headroom false none)).setFm
      (s.fm.setCond .noHeadroom { s.fm.conds[Cond.noHeadroom.index] with
        active := (s.fm.conds[Cond.noHeadroom.index]).active.filter (fun k => decide (k ≠ l.val)) })).setAnswer x answer) := by
  have hrise := (Ev.setBudget_rises (e := Ev.start s) (interval := seconds) h hnow).trans
    (Ev.clearHeadroom_ends (l := l) hset hl)
  rw [hi, hrise]
  exact concluded_quiet x _ _ _ rfl

/-- A is lowered: an allocation is made at once (R65, R68). -/
theorem exec_setsBudget_cuts (hi : SetsBudget i x cap u seconds answer s)
    (h : min 65000 cap.toNat - u < s.pba.available) :
    ∃ t, exec i s = .next t ∧ s.Allocated t (min 65000 cap.toNat - u) .cut ∧
      (s.pba.written (min 65000 cap.toNat) u seconds).Restarted t.pba ∧ (t.sp.ports[x]).answer = some answer := by
  have hset := Ev.setBudget_cuts (e := Ev.start s) (interval := seconds) h
  obtain ⟨hdone, hrestart⟩ := Ev.allocate_finish .cut
    ((Ev.start s).on fun s => s.setPba (s.pba.written (min 65000 cap.toNat) u seconds))
  refine ⟨_, hi, ?_⟩
  rw [hset]
  exact ⟨hdone, hrestart, State.setAnswer_get ..⟩

end Commands

/-- Settles O23: an allocation in its three parts and through the rest of its event, the two commands as one, and what is read
of each load. -/
theorem budgetCommandsAndAllocation : Obligations.BudgetCommandsAndAllocation := by
  refine fun s => ⟨?_, fun x cap unmanaged interval i u seconds answer hi => ?_, fun l => ⟨State.asks_absent, fun hrating => ?_⟩⟩
  · obtain ⟨hdone, hrestart⟩ := Ev.allocate_finish .interval (Ev.start s)
    exact ⟨_, exec_intervalExpiry s, hdone, hrestart⟩
  · have hsets : SetsBudget i x cap u seconds answer s := by
      rcases hi with ⟨rfl, rfl, rfl, rfl⟩ | ⟨rfl, rfl, rfl, rfl⟩
      · exact setCap_setsBudget x cap s
      · exact setBudget_setsBudget x cap unmanaged interval s
    refine ⟨exec_setsBudget_writes hsets, fun l => exec_setsBudget_rises hsets, fun hcut => ?_⟩
    obtain ⟨t, ht, hdone, ⟨htimer, hcap, hunmanaged, havailable, hinterval⟩, hanswer⟩ := exec_setsBudget_cuts hsets hcut
    exact ⟨t, ht, hdone, htimer, hcap, hunmanaged, havailable, hinterval, hanswer⟩
  · rw [State.asks_present hrating]
    refine ⟨rfl, rfl, rfl, rfl, ?_, ?_, ?_, ?_⟩
    · rintro c rfl
      rw [State.classOf_ovenLoad]
      exact ⟨State.ovenClass_hold, fun _ => State.ovenClass_run, State.ovenClass_rest⟩
    · rintro w rfl hage
      rw [State.classOf_warmerLoad, ← Ppu.reserved_iff hage]
      exact ⟨fun h => if_pos h, fun h => if_neg h⟩
    · rintro rfl
      exact s.classOf_rinseLoad
    · rintro rfl
      exact s.classOf_washLoad

end Sys2Proof.Machine
end

section
/-! PROOFS. Movements of plates between the places of a pool record: what they take, give and find, and what of the state they change
(R85 to R89). -/

namespace Sys2Proof.Machine

open Sys2Proof

/-! ### Counts and places of a pool record (R85) -/

theorem fitCount_fits {n : Nat} (h : n < 4294967296) : fitCount n = n := if_pos h

theorem PoolRec.put_at (p : PoolRec) (n : Nat) (q : Place) : (p.put n q).at q = n := by cases q <;> rfl

theorem PoolRec.put_at_ne {q r : Place} (h : r ≠ q) (p : PoolRec) (n : Nat) : (p.put n q).at r = p.at r := by
  revert h
  cases q <;> cases r <;> simp [PoolRec.put, PoolRec.at]

theorem PoolRec.put_stock (p : PoolRec) (n : Nat) (q : Place) : (p.put n q).stock = p.stock := by cases q <;> rfl

theorem PoolRec.put_found (p : PoolRec) (n : Nat) (q : Place) : (p.put n q).found = p.found := by cases q <;> rfl

/-- The total after one place is written: what the place held has left it, and what is written has entered. -/
theorem PoolRec.put_total (p : PoolRec) (n : Nat) (q : Place) : (p.put n q).total + p.at q = p.total + n := by
  cases q <;> simp only [PoolRec.put, PoolRec.total, PoolRec.at] <;> omega

theorem PoolRec.at_le_total (p : PoolRec) (q : Place) : p.at q ≤ p.total := by
  cases q <;> simp only [PoolRec.total, PoolRec.at] <;> omega

theorem PoolRec.balanced_iff (p : PoolRec) : p.Balanced ↔ p.total = p.stock := Iff.rfl

theorem PoolRec.Balanced.at_le {p : PoolRec} (h : p.Balanced) (q : Place) : p.at q ≤ p.stock :=
  p.balanced_iff.mp h ▸ p.at_le_total q

/-! ### A movement on one pool record (R88) -/

variable {p : PoolRec} {src dst : Place} {n : Nat}

/-- The pool record without the totals that found plates raise. -/
def PoolRec.carried (p : PoolRec) (src dst : Place) (n : Nat) : PoolRec :=
  (p.put (p.at src - min n (p.at src)) src).put
    (fitCount ((p.put (p.at src - min n (p.at src)) src).at dst + n)) dst

theorem PoolRec.move_at (p : PoolRec) (src dst : Place) (n : Nat) (q : Place) :
    (p.move src dst n).1.at q = (p.carried src dst n).at q := by
  cases q <;> rfl

theorem PoolRec.move_at_src (h : src ≠ dst) : (p.move src dst n).1.at src = p.at src - n := by
  rw [PoolRec.move_at, PoolRec.carried, PoolRec.put_at_ne h, PoolRec.put_at]
  omega

theorem PoolRec.move_at_dst (h : src ≠ dst) : (p.move src dst n).1.at dst = fitCount (p.at dst + n) := by
  rw [PoolRec.move_at, PoolRec.carried, PoolRec.put_at, PoolRec.put_at_ne h.symm]

theorem PoolRec.move_at_ne {q : Place} (hs : q ≠ src) (hd : q ≠ dst) : (p.move src dst n).1.at q = p.at q := by
  rw [PoolRec.move_at, PoolRec.carried, PoolRec.put_at_ne hd, PoolRec.put_at_ne hs]

theorem PoolRec.move_stock (p : PoolRec) (src dst : Place) (n : Nat) :
    (p.move src dst n).1.stock = fitCount (p.stock + (n - p.at src)) := by
  have h : n - min n (p.at src) = n - p.at src := by omega
  rw [← h, ← PoolRec.put_stock p (p.at src - min n (p.at src)) src, ← PoolRec.put_stock (p.put _ src) _ dst]
  rfl

theorem PoolRec.move_found (p : PoolRec) (src dst : Place) (n : Nat) :
    (p.move src dst n).1.found = fitCount (p.found + (n - p.at src)) := by
  have h : n - min n (p.at src) = n - p.at src := by omega
  rw [← h, ← PoolRec.put_found p (p.at src - min n (p.at src)) src, ← PoolRec.put_found (p.put _ src) _ dst]
  rfl

/-- The six counts after a movement: plates are added only where they are found. -/
theorem PoolRec.move_total (h : src ≠ dst) (hd : p.at dst + n < 4294967296) :
    (p.move src dst n).1.total = p.total + (n - p.at src) := by
  obtain ⟨p1, hp1⟩ : ∃ p1, p1 = p.put (p.at src - min n (p.at src)) src := ⟨_, rfl⟩
  have hdst : p1.at dst = p.at dst := hp1 ▸ PoolRec.put_at_ne h.symm _ _
  have h1 : p1.total + p.at src = p.total + (p.at src - min n (p.at src)) := hp1 ▸ PoolRec.put_total ..
  have h2 := PoolRec.put_total p1 (fitCount (p1.at dst + n)) dst
  have htotal : (p.move src dst n).1.total = (p1.put (fitCount (p1.at dst + n)) dst).total := hp1 ▸ rfl
  rw [hdst, fitCount_fits hd] at h2 htotal
  omega

theorem PoolRec.Balanced.move (hb : p.Balanced) (h : src ≠ dst) (hd : p.at dst + n < 4294967296)
    (hs : p.stock + (n - p.at src) < 4294967296) : (p.move src dst n).1.Balanced := by
  rw [PoolRec.balanced_iff, PoolRec.move_total h hd, PoolRec.move_stock, fitCount_fits hs, p.balanced_iff.mp hb]

end Sys2Proof.Machine
end

section
/-! PROOFS. A movement within an event: the pool record of its kind takes it, and beside that it reaches flow control and the fault
monitor alone (R88, R89). -/

namespace Sys2Proof.Machine

open Sys2Proof

/-- All of the state but flow control, the Paging Unit, the Fault Monitor and the Station Ports. -/
def State.bench (s : State) :
    Nat × Fse × Hlu × Pba × Ppu × (DishSettings × List Label × List RackRec × Nat × Conveyor) × Pins × List Instr :=
  (s.clock, s.fse, s.hlu, s.pba, s.ppu, (s.dlu.settings, s.dlu.labels, s.dlu.racks, s.dlu.nextSequence, s.dlu.conveyor), s.pins,
    s.pending)

theorem State.bench_eq {s t : State} (h : t.bench = s.bench) :
    t.clock = s.clock ∧ t.fse = s.fse ∧ t.hlu = s.hlu ∧ t.pba = s.pba ∧ t.ppu = s.ppu ∧
      (t.dlu.settings = s.dlu.settings ∧ t.dlu.labels = s.dlu.labels ∧ t.dlu.racks = s.dlu.racks ∧
        t.dlu.nextSequence = s.dlu.nextSequence ∧ t.dlu.conveyor = s.dlu.conveyor) ∧ t.pins = s.pins ∧ t.pending = s.pending := by
  simpa [State.bench] using h

theorem State.bench_of_desk {s t : State} (h : t.desk = s.desk) : t.bench = s.bench := by
  obtain ⟨hclock, hfse, hhlu, hpba, hppu, hdlu, hpins, hpending⟩ := State.desk_eq h
  simp [State.bench, hclock, hfse, hhlu, hpba, hppu, hdlu, hpins, hpending]

/-! ### Flow control (R143 to R147) -/

theorem State.setFlow_bench (f : Flow) (s : State) : (s.setFlow f).bench = s.bench := rfl

theorem Ev.sendFlow_bench (kind : FlowPage) (e : Ev) : (e.sendFlow kind).1.s.bench = e.s.bench :=
  (State.setFlow_bench ..).trans (State.bench_of_desk (Ev.submitFlow_desk ..))

theorem State.dishNotice_bench (index : Nat) (code : NoticeCode) (p1 p2 p3 : Nat) (s : State) :
    (s.dishNotice index code p1 p2 p3).bench = s.bench := State.bench_of_desk (State.postNotice_desk ..)

theorem Ev.enterHolding_bench (total : Nat) (e : Ev) : (e.enterHolding total).s.bench = e.s.bench :=
  (State.dishNotice_bench ..).trans
    ((State.setFlow_bench ..).trans ((Ev.sendFlow_bench ..).trans (State.setFlow_bench ..)))

theorem Ev.enterFlowing_bench (total : Nat) (e : Ev) : (e.enterFlowing total).s.bench = e.s.bench :=
  (State.dishNotice_bench ..).trans
    ((State.setFlow_bench ..).trans ((Ev.sendFlow_bench ..).trans (State.setFlow_bench ..)))

theorem Ev.soiledHandover_bench (total : Nat) (e : Ev) : (e.soiledHandover total).s.bench = e.s.bench := by
  unfold Ev.soiledHandover
  simp only
  split
  · split
    · exact Ev.enterFlowing_bench ..
    · rfl
  · split
    · exact Ev.enterHolding_bench ..
    · rfl

theorem Ev.soiledChanged_bench (k : Kind) (before : Nat) (e : Ev) : (e.soiledChanged k before).s.bench = e.s.bench := by
  unfold Ev.soiledChanged
  split
  · rfl
  · exact Ev.soiledHandover_bench ..

/-! ### The movement (R88, R89) -/

/-- The pool record of the kind takes the movement, and STOCK DRIFT is raised where plates are found. -/
def Ev.shift (k : Kind) (src dst : Place) (n : Nat) (e : Ev) : Ev :=
  let e1 := e.on (fun s => s.setPool k ((e.s.ppu.pools[k]).move src dst n).1)
  if 0 < ((e.s.ppu.pools[k]).move src dst n).2.found then e1.raise .stockDrift k.val else e1

theorem Ev.movement_eq (k : Kind) (src dst : Place) (n : Nat) (e : Ev) :
    e.movement k src dst n =
      ((e.shift k src dst n).soiledChanged k (e.s.ppu.pools[k]).soiled, ((e.s.ppu.pools[k]).move src dst n).2) := rfl

theorem Ev.shift_desk (k : Kind) (src dst : Place) (n : Nat) (e : Ev) :
    (e.shift k src dst n).s.desk = (e.s.setPool k ((e.s.ppu.pools[k]).move src dst n).1).desk := by
  unfold Ev.shift
  simp only
  split
  · exact Ev.raise_desk ..
  · rfl

theorem Ev.movement_bench (k : Kind) (src dst : Place) (n : Nat) (e : Ev) :
    (e.movement k src dst n).1.s.bench = (e.s.setPool k ((e.s.ppu.pools[k]).move src dst n).1).bench :=
  (Ev.soiledChanged_bench ..).trans (State.bench_of_desk (Ev.shift_desk ..))

/-- A movement that neither takes soiled plates nor gives any hands nothing to flow control (R89). -/
theorem Ev.movement_desk {src dst : Place} (hs : src ≠ .soiled) (hd : dst ≠ .soiled) (k : Kind) (n : Nat) (e : Ev) :
    (e.movement k src dst n).1.s.desk = (e.s.setPool k ((e.s.ppu.pools[k]).move src dst n).1).desk := by
  obtain ⟨-, -, -, -, hppu, -⟩ := State.desk_eq (Ev.shift_desk k src dst n e)
  have hsoiled : ((e.shift k src dst n).s.ppu.pools[k]).soiled = (e.s.ppu.pools[k]).soiled := by
    rw [hppu, State.setPool_ppu_pools, get_set_same]
    exact PoolRec.move_at_ne hs.symm hd.symm
  have hsame : (e.shift k src dst n).soiledChanged k (e.s.ppu.pools[k]).soiled = e.shift k src dst n := if_pos hsoiled
  rw [Ev.movement_eq, hsame]
  exact Ev.shift_desk ..

/-- REQUEUE moves no more than QUAR holds and finds nothing (R88, R105). -/
theorem Ev.requeuePlates_bench (k : Kind) (n : Nat) (e : Ev) :
    (e.requeuePlates k n).1.s.bench = (e.s.setPool k { e.s.ppu.pools[k] with
      quar := (e.s.ppu.pools[k]).quar - min n (e.s.ppu.pools[k]).quar
      soiled := fitCount ((e.s.ppu.pools[k]).soiled + min n (e.s.ppu.pools[k]).quar) }).bench :=
  Ev.soiledChanged_bench ..

end Sys2Proof.Machine
end

section
/-! PROOFS. What the laws of the plates read of the state, and the operations that leave it alone: paging, fault reports, the heat
loops, the budget, the conveyor, and the engine beside its reservations. -/

namespace Sys2Proof.Machine

open Sys2Proof

/-- What is counted of a warmer (R91). -/
def WarmerRec.holds (r : WarmerRec) : Kind × Nat × Nat := (r.kind, r.capacity, r.count)

/-- What is counted of a rack record (R130). -/
def RackRec.holds (r : RackRec) : Option Kind × Nat := (r.kind, r.count)

/-- What a step record asks of the plate pool (R1). -/
def StepRec.asks (r : StepRec) : StepKind × Nat := (r.kind, r.count)

/-- The pool records, what the warmers hold, the live entries in their order, the labels and racks with their counts, and what the
step records ask for. -/
def State.larder (s : State) :
    Vector PoolRec 4 × (WarmerIx → Kind × Nat × Nat) × (Vector (Option ResRec) 16 × List ResIx) ×
      (List Label × List (Option Kind × Nat)) × (StepIx → StepKind × Nat) :=
  (s.ppu.pools, fun w => (s.ppu.warmers[w]).holds, (s.ppu.entries, s.ppu.ageList),
    (s.dlu.labels, s.dlu.racks.map RackRec.holds), fun i => (s.fse.steps[i]).asks)

theorem State.larder_eq {s t : State} (h : t.larder = s.larder) :
    t.ppu.pools = s.ppu.pools ∧ (∀ w : WarmerIx, (t.ppu.warmers[w]).holds = (s.ppu.warmers[w]).holds) ∧
      (t.ppu.entries = s.ppu.entries ∧ t.ppu.ageList = s.ppu.ageList) ∧
      (t.dlu.labels = s.dlu.labels ∧ t.dlu.racks.map RackRec.holds = s.dlu.racks.map RackRec.holds) ∧
      ∀ i : StepIx, (t.fse.steps[i]).asks = (s.fse.steps[i]).asks := by
  simpa [State.larder, funext_iff] using h

theorem State.larder_of_bench {s t : State} (h : t.bench = s.bench) : t.larder = s.larder := by
  obtain ⟨-, hfse, -, -, hppu, ⟨-, hlabels, hracks, -⟩, -⟩ := State.bench_eq h
  simp [State.larder, hfse, hppu, hlabels, hracks]

theorem State.larder_of_desk {s t : State} (h : t.desk = s.desk) : t.larder = s.larder :=
  State.larder_of_bench (State.bench_of_desk h)

/-! ### Updates of single records -/

/-- A record of a table is replaced by one that is seen alike. -/
theorem seen_set {α β : Type} {n : Nat} {v : Vector α n} {i : Fin n} {a : α} (f : α → β) (h : f a = f v[i]) :
    (fun j : Fin n => f (v.set i a)[j]) = fun j => f v[j] := by
  funext j
  by_cases hj : j = i
  · rw [hj, get_set_same, h]
  · rw [get_set_ne v hj]

theorem State.setWarmer_larder {w : WarmerIx} {r : WarmerRec} {s : State} (h : r.holds = (s.ppu.warmers[w]).holds) :
    (s.setWarmer w r).larder = s.larder := by
  simp only [State.larder, State.setWarmer_ppu_warmers, seen_set WarmerRec.holds h]
  rfl

theorem State.setStep_larder {i : StepIx} {r : StepRec} {s : State} (h : r.asks = (s.fse.steps[i]).asks) :
    (s.setStep i r).larder = s.larder := by
  simp only [State.larder, State.setStep_fse_steps, seen_set StepRec.asks h]
  rfl

theorem State.onFse_larder {f : Fse → Fse} {s : State} (h : (f s.fse).steps = s.fse.steps) : (s.onFse f).larder = s.larder := by
  simp only [State.larder, State.onFse_fse, h]
  rfl

theorem State.setRacks_larder {l : List RackRec} {s : State} (h : l.map RackRec.holds = s.dlu.racks.map RackRec.holds) :
    (s.setRacks l).larder = s.larder := by
  simp only [State.larder, State.setRacks_dlu_racks, h]
  rfl

theorem State.setDlu_larder {d : Dlu} {s : State} (hl : d.labels = s.dlu.labels) (hr : d.racks = s.dlu.racks) :
    (s.setDlu d).larder = s.larder := by
  simp only [State.larder, State.setDlu_dlu, hl, hr]
  rfl

@[simp] theorem State.setChan_larder (c : Chan) (r : ChanRec) (s : State) : (s.setChan c r).larder = s.larder := rfl
@[simp] theorem State.onChan_larder (c : Chan) (f : ChanRec → ChanRec) (s : State) : (s.onChan c f).larder = s.larder := rfl
@[simp] theorem State.setProbe_larder (p : ProbeIx) (r : ProbeRec) (s : State) : (s.setProbe p r).larder = s.larder := rfl
@[simp] theorem State.setLoad_larder (l : LoadIx) (r : LoadRec) (s : State) : (s.setLoad l r).larder = s.larder := rfl
@[simp] theorem State.setLine_larder (p : ProbeIx) (v : Level) (s : State) : (s.setLine p v).larder = s.larder := rfl
@[simp] theorem State.setPba_larder (b : Pba) (s : State) : (s.setPba b).larder = s.larder := rfl
@[simp] theorem State.setFlow_larder (f : Flow) (s : State) : (s.setFlow f).larder = s.larder := rfl
@[simp] theorem State.setConveyor_larder (c : Conveyor) (s : State) : (s.setConveyor c).larder = s.larder := rfl
@[simp] theorem State.takeSequence_larder (s : State) : s.takeSequence.larder = s.larder := rfl
@[simp] theorem State.second_larder (s : State) : s.second.larder = s.larder := rfl
@[simp] theorem State.setPgu_larder (p : Pgu) (s : State) : (s.setPgu p).larder = s.larder := rfl
@[simp] theorem State.setBadgeRec_larder (b : BadgeIx) (r : BadgeRec) (s : State) : (s.setBadgeRec b r).larder = s.larder := rfl
@[simp] theorem State.setFm_larder (f : Fm) (s : State) : (s.setFm f).larder = s.larder := rfl
@[simp] theorem State.setQueue_larder (x : Station) (q : NoticeQueue) (s : State) : (s.setQueue x q).larder = s.larder := rfl
@[simp] theorem State.joinWaiting_larder (x : Station) (c : Chan) (s : State) : (s.joinWaiting x c).larder = s.larder := rfl
@[simp] theorem State.setPort_larder (x : Station) (r : PortRec) (s : State) : (s.setPort x r).larder = s.larder := rfl
@[simp] theorem State.setAnswer_larder (x : Station) (a : Answer) (s : State) : (s.setAnswer x a).larder = s.larder := rfl
@[simp] theorem State.postNotice_larder (x : Station) (n : Notice) (s : State) : (s.postNotice x n).larder = s.larder :=
  State.larder_of_desk (State.postNotice_desk ..)

@[simp] theorem State.recompute_larder (l : LoadIx) (s : State) : (s.recompute l).larder = s.larder := rfl
@[simp] theorem State.shutLoad_larder (l : LoadIx) (f : LoadRec → LoadRec) (s : State) : (s.shutLoad l f).larder = s.larder := rfl

@[simp] theorem State.handSetpoint_larder (l : LoadIx) (v : Int) (a : Bool) (s : State) :
    (s.handSetpoint l v a).larder = s.larder := by
  unfold State.handSetpoint
  simp only
  split <;> rfl

@[simp] theorem State.coolWarmer_larder (w : WarmerIx) (s : State) : (s.coolWarmer w).larder = s.larder :=
  State.setWarmer_larder rfl

@[simp] theorem State.judgeWarmer_larder (w : WarmerIx) (s : State) : (s.judgeWarmer w).larder = s.larder := by
  unfold State.judgeWarmer
  simp only
  split
  · split
    · exact State.setWarmer_larder rfl
    · rfl
  all_goals
    split
    · exact State.coolWarmer_larder ..
    · rfl

@[simp] theorem State.rinseReading_larder (reading : Int) (s : State) : (s.rinseReading reading).larder = s.larder :=
  State.setRacks_larder (by rw [List.map_map]; rfl)

@[simp] theorem State.rinseFault_larder (s : State) : s.rinseFault.larder = s.larder :=
  State.setRacks_larder (by rw [List.map_map]; rfl)

/-! ### Pages and faults -/

@[simp] theorem Ev.raise_larder (c : Cond) (source : Nat) (e : Ev) : (e.raise c source).s.larder = e.s.larder :=
  State.larder_of_desk (Ev.raise_desk ..)
@[simp] theorem Ev.condHolds_larder (c : Cond) (source : Nat) (e : Ev) : (e.condHolds c source).s.larder = e.s.larder :=
  State.larder_of_desk (Ev.condHolds_desk ..)
@[simp] theorem Ev.condEnds_larder (c : Cond) (source : Nat) (e : Ev) : (e.condEnds c source).s.larder = e.s.larder :=
  State.larder_of_desk (Ev.condEnds_desk ..)
@[simp] theorem Ev.submit_larder (sub : Submission) (o : Originator) (n : Option Station) (r : ReportTo) (e : Ev) :
    (e.submit sub o n r).s.larder = e.s.larder := State.larder_of_desk (Ev.submit_desk ..)
@[simp] theorem Ev.endPage_larder (p : PageRec) (o : PageOutcome) (tell : Bool) (e : Ev) :
    (e.endPage p o tell).s.larder = e.s.larder := State.larder_of_desk (Ev.endPage_desk ..)
@[simp] theorem Ev.reportPageEnd_larder (p : PageRec) (o : PageOutcome) (tell : Bool) (e : Ev) :
    (e.reportPageEnd p o tell).s.larder = e.s.larder := State.larder_of_desk (Ev.reportPageEnd_desk ..)
@[simp] theorem Ev.settlePage_larder (p : PageRec) (e : Ev) : (e.settlePage p).s.larder = e.s.larder :=
  State.larder_of_desk (Ev.settlePage_desk ..)
@[simp] theorem Ev.requeue_larder (p : PageRec) (e : Ev) : (e.requeue p).s.larder = e.s.larder :=
  State.larder_of_desk (Ev.requeue_desk ..)
@[simp] theorem Ev.select_larder (e : Ev) : e.select.s.larder = e.s.larder := State.larder_of_desk (Ev.select_desk ..)
@[simp] theorem Ev.trySelect_larder (e : Ev) : e.trySelect.s.larder = e.s.larder := State.larder_of_desk (Ev.trySelect_desk ..)
@[simp] theorem Ev.releasePage_larder (c : Chan) (n : Nat) (e : Ev) : (e.releasePage c n).s.larder = e.s.larder :=
  State.larder_of_desk (Ev.releasePage_desk ..)
@[simp] theorem Ev.sendFlow_larder (kind : FlowPage) (e : Ev) : (e.sendFlow kind).1.s.larder = e.s.larder :=
  State.larder_of_bench (Ev.sendFlow_bench ..)

@[simp] theorem Ev.report_larder (c : Cond) (holds : Bool) (e : Ev) : (e.report c holds).s.larder = e.s.larder := by
  unfold Ev.report
  split <;> simp

@[simp] theorem Ev.linkAfter_larder (ok : Bool) (e : Ev) : (e.linkAfter ok).s.larder = e.s.larder := by
  unfold Ev.linkAfter
  simp only
  split <;> split <;> simp

@[simp] theorem Ev.pageAfter_larder (p : PageRec) (b : BadgeIx) (ok : Bool) (e : Ev) :
    (e.pageAfter p b ok).s.larder = e.s.larder := by
  have hset : ∀ (q : PageRec) (ends : Bool),
      (if ends then (e.on (fun s => s.setPgu (s.pgu.change p.number (fun _ => q)))).endPage q .done true
        else (e.on (fun s => s.setPgu (s.pgu.change p.number (fun _ => q)))).settlePage q).s.larder = e.s.larder := by
    intro q ends
    split <;> simp
  exact hset _ _

@[simp] theorem Ev.completeTx_larder (f : InFlight) (ok : Bool) (e : Ev) : (e.completeTx f ok).s.larder = e.s.larder := by
  unfold Ev.completeTx
  simp only [Ev.trySelect_larder]
  split
  · simp
  · split <;> simp

@[simp] theorem State.lateAnswer_larder (number address : Nat) (s : State) : (s.lateAnswer number address).larder = s.larder := by
  unfold State.lateAnswer
  split
  · rfl
  · split
    · rfl
    · simp only
      split <;> simp

theorem Ev.txDone_larder (number address : Nat) (ok : Bool) (e : Ev) : (e.txDone number address ok).s.larder = e.s.larder := by
  unfold Ev.txDone
  split
  · split <;> simp
  · rfl

theorem Ev.txTimeout_larder (e : Ev) : e.txTimeout.s.larder = e.s.larder := by
  unfold Ev.txTimeout
  split <;> simp

theorem Ev.retry_larder (e : Ev) : e.retry.s.larder = e.s.larder := by
  unfold Ev.retry
  split
  · rfl
  · simp only
    split <;> simp

theorem Ev.ack_larder (address number : Nat) (e : Ev) : (e.ack address number).s.larder = e.s.larder := by
  unfold Ev.ack
  split
  · split
    · unfold Ev.countAck
      simp only
      split <;> simp
    · simp
  all_goals simp

theorem Ev.deadline_larder (number : Nat) (e : Ev) : (e.deadline number).s.larder = e.s.larder := by
  unfold Ev.deadline
  split
  · rfl
  · split
    · rfl
    · split
      · simp
      · split
        · simp
        · refine (Ev.reportPageEnd_larder ..).trans ?_
          split <;> simp

/-! ### The heat loops (chapter 2) -/

@[simp] theorem Ev.loadLost_larder (l : LoadIx) (e : Ev) : (e.loadLost l).s.larder = e.s.larder := by
  unfold Ev.loadLost
  split <;> simp

@[simp] theorem Ev.loadChanged_larder (l : LoadIx) (before : LoadState) (e : Ev) :
    (e.loadChanged l before).s.larder = e.s.larder := by
  unfold Ev.loadChanged
  simp only
  split <;> simp

@[simp] theorem Ev.readingUpdate_larder (p : ProbeIx) (e : Ev) : (e.readingUpdate p).s.larder = e.s.larder := by
  unfold Ev.readingUpdate
  simp only
  split <;> split <;> split <;> simp

@[simp] theorem Ev.probeFault_larder (p : ProbeIx) (e : Ev) : (e.probeFault p).s.larder = e.s.larder := by
  unfold Ev.probeFault
  simp only
  split <;> split <;> split <;> simp

@[simp] theorem Ev.compareTrip_larder (p : ProbeIx) (raw : Int) (e : Ev) : (e.compareTrip p raw).s.larder = e.s.larder := by
  unfold Ev.compareTrip
  split
  · rfl
  · simp only
    split <;> simp

@[simp] theorem Ev.validConversion_larder (p : ProbeIx) (raw : Int) (e : Ev) :
    (e.validConversion p raw).s.larder = e.s.larder := by
  unfold Ev.validConversion
  simp only
  split <;> split <;> simp

@[simp] theorem Ev.invalidConversion_larder (p : ProbeIx) (e : Ev) : (e.invalidConversion p).s.larder = e.s.larder := by
  unfold Ev.invalidConversion
  simp only
  split
  · split <;> simp
  · simp

theorem Ev.risingEdge_larder (p : ProbeIx) (elapsed : Nat) (e : Ev) : (e.risingEdge p elapsed).s.larder = e.s.larder := by
  unfold Ev.risingEdge
  simp only
  split
  · split <;> simp
  · simp
  · simp

theorem Ev.fallingEdge_larder (p : ProbeIx) (elapsed : Nat) (e : Ev) : (e.fallingEdge p elapsed).s.larder = e.s.larder := rfl

theorem Ev.overflow_larder (p : ProbeIx) (e : Ev) : (e.overflow p).s.larder = e.s.larder := by
  unfold Ev.overflow
  simp only
  split
  · split <;> simp
  · simp

@[simp] theorem Ev.resetLoad_larder (l : LoadIx) (e : Ev) : (e.resetLoad l).1.s.larder = e.s.larder := by
  unfold Ev.resetLoad
  simp only
  split
  · rfl
  · rfl
  · split <;> simp
  · split <;> rfl

theorem Ev.testCompletion_larder (l : LoadIx) (e : Ev) : (e.testCompletion l).s.larder = e.s.larder := by
  unfold Ev.testCompletion
  simp only
  split
  · split <;> split <;> simp
  · rfl

theorem Ev.verifyLoad_larder (l : LoadIx) (e : Ev) : (e.verifyLoad l).s.larder = e.s.larder := by
  unfold Ev.verifyLoad
  simp only
  split <;> simp

theorem Ev.verify_larder (e : Ev) : e.verify.s.larder = e.s.larder :=
  List.foldlRecOn (motive := fun f : Ev => f.s.larder = e.s.larder) (List.finRange 22) _ rfl
    fun _ hf l _ => (Ev.verifyLoad_larder l _).trans hf

/-! ### The budget (chapter 3) -/

theorem Ev.allocate_larder (cause : AllocCause) (e : Ev) : (e.allocate cause).s.larder = e.s.larder := by
  obtain ⟨b, o, hdesk, -⟩ := e.allocate_desk cause
  obtain ⟨loads, hgrant⟩ := e.grant_writes (e.s.allocation e.s.pba.available cause)
  rw [State.larder_of_desk hdesk, State.setPba_larder, hgrant]
  rfl

theorem Ev.setBudget_larder (cap unmanaged interval : Nat) (e : Ev) : (e.setBudget cap unmanaged interval).s.larder = e.s.larder := by
  have hclear : ∀ f : Ev, f.clearHeadroom.s.larder = f.s.larder := fun f => by
    obtain ⟨⟨o, hdesk⟩, -⟩ := f.clearHeadroom_writes
    exact (State.larder_of_desk hdesk).trans (State.setPba_larder ..)
  unfold Ev.setBudget
  simp only
  split
  · exact Ev.allocate_larder ..
  · split
    · exact hclear _
    · rfl

/-! ### The conveyor and flow control (6.5, 6.6) -/

theorem Ev.jamCheck_larder (e : Ev) : e.jamCheck.s.larder = e.s.larder := by
  refine List.foldlRecOn (motive := fun f : Ev => f.s.larder = e.s.larder) _ _ ?_ fun f hf r _ => (Ev.raise_larder ..).trans hf
  refine State.setRacks_larder ?_
  rw [List.map_map]
  refine List.map_congr_left fun r _ => ?_
  simp only [Function.comp_apply]
  split <;> rfl

theorem Ev.judgeConveyor_larder (e : Ev) : e.judgeStall.judgeFast.s.larder = e.s.larder :=
  (Ev.report_larder ..).trans (Ev.report_larder ..)

theorem Ev.conveyorPulse_larder (e : Ev) : e.conveyorPulse.s.larder = e.s.larder := by
  unfold Ev.conveyorPulse
  simp only
  split
  · split
    · exact (Ev.judgeConveyor_larder _).trans (State.setConveyor_larder ..)
    · rfl
  · split
    · rfl
    · exact (Ev.report_larder ..).trans (State.setConveyor_larder ..)

theorem Ev.stallExpiry_larder (e : Ev) : e.stallExpiry.s.larder = e.s.larder := by
  unfold Ev.stallExpiry
  split
  · exact (Ev.judgeConveyor_larder _).trans (State.setConveyor_larder ..)
  · rfl

theorem Ev.refresh_larder (e : Ev) : e.refresh.s.larder = e.s.larder := by
  unfold Ev.refresh
  simp only
  split
  · rfl
  · split
    · exact (State.setFlow_larder ..).trans (Ev.sendFlow_larder ..)
    · split
      · split <;> exact (State.setFlow_larder ..).trans (Ev.sendFlow_larder ..)
      · rfl

theorem State.handDish_larder (s : State) : s.handDish.larder = s.larder :=
  (State.handSetpoint_larder ..).trans (State.handSetpoint_larder ..)

/-! ### The counting of a warmer (R93, R97) -/

@[simp] theorem Ev.restartCounting_larder (w : WarmerIx) (e : Ev) : (e.restartCounting w).s.larder = e.s.larder :=
  (Ev.condEnds_larder ..).trans (State.setWarmer_larder rfl)

@[simp] theorem Ev.encoderFault_larder (w : WarmerIx) (e : Ev) : (e.encoderFault w).s.larder = e.s.larder :=
  (Ev.condHolds_larder ..).trans (State.setWarmer_larder rfl)

/-! ### The engine beside its reservations (chapter 1) -/

@[simp] theorem State.handOven_larder (c : Chan) (s : State) : (s.handOven c).larder = s.larder := by
  unfold State.handOven
  simp only
  split <;> simp

@[simp] theorem State.chanNotice_larder (c : Chan) (code : NoticeCode) (x y z : Nat) (s : State) :
    (s.chanNotice c code x y z).larder = s.larder := by
  unfold State.chanNotice
  split <;> simp

@[simp] theorem State.resNotice_larder (i : ResIx) (r : ResRec) (code : NoticeCode) (a b : Nat) (s : State) :
    (s.resNotice i r code a b).larder = s.larder := by
  unfold State.resNotice
  split <;> simp

@[simp] theorem State.postEnding_larder (c : Chan) (i : StepIx) (o : StepOutcome) (s : State) :
    (s.postEnding c i o).larder = s.larder := by
  unfold State.postEnding
  simp only
  split
  · rfl
  · split <;> simp

@[simp] theorem State.releaseWalk_larder (c : Chan) (n : Nat) (i : Option StepIx) (s : State) :
    (s.releaseWalk c n i).larder = s.larder := by
  induction n generalizing i s with
  | zero => cases i <;> rfl
  | succ n ih =>
    cases i with
    | none => rfl
    | some i =>
      simp only [State.releaseWalk]
      split
      · split
        · exact State.setStep_larder rfl
        · exact (ih _ _).trans (State.setStep_larder rfl)
      · rfl

@[simp] theorem State.closeStep_larder (c : Chan) (i : StepIx) (o : StepOutcome) (s : State) :
    (s.closeStep c i o).larder = s.larder := by
  unfold State.closeStep
  simp only
  split
  · exact (State.chanNotice_larder ..).trans ((State.onChan_larder ..).trans (State.setStep_larder rfl))
  · exact (State.onChan_larder ..).trans (State.setStep_larder rfl)

@[simp] theorem Ev.releaseHeld_larder (c : Chan) (e : Ev) : (e.releaseHeld c).s.larder = e.s.larder := by
  unfold Ev.releaseHeld
  split <;> simp

@[simp] theorem State.countSoak_larder (c : Chan) (r : StepRec) (s : State) : (s.countSoak c r).larder = s.larder := by
  unfold State.countSoak
  split
  · split
    · split <;> simp
    · rfl
  · rfl

theorem State.toIdle_larder (c : Chan) (s : State) : (s.toIdle c).larder = s.larder := State.handOven_larder ..

theorem State.refill_larder (x : Station) (s : State) : (s.refill x).larder = s.larder := by
  unfold State.refill
  simp only
  split
  · rfl
  · split <;> rfl

theorem Ev.heard_larder (x : Station) (e : Ev) : (e.heard x).s.larder = e.s.larder := by
  have hends : ∀ (b : Bool) (c : Cond) (f : Ev), (if b then f.condEnds c x.val else f).s.larder = f.s.larder := by
    intro b c f
    split
    · exact Ev.condEnds_larder ..
    · rfl
  exact (hends _ _ _).trans (hends _ _ _)

theorem State.key_larder (address : Nat) (s : State) : (s.key address).larder = s.larder := by
  unfold State.key
  split
  · rfl
  · simp only
    split <;> rfl

end Sys2Proof.Machine
end

section
/-! PROOFS. An induction principle for the reservation table: what the engine's taking of every report does of it is an entry made, an
entry judged READY and an entry freed, so a property of the plates that these three keep is kept by the whole engine. -/

namespace Sys2Proof.Machine

open Sys2Proof

/-- A property of what `State.larder` tells that the engine's three acts on the reservation table keep. `Fair` is what it needs to
know of the number of plates a reservation is made for. -/
structure EngineLaw (Fair : Nat → Prop) (P : State → Prop) : Prop where
  frame : ∀ s t : State, t.larder = s.larder → P s → P t
  asks : ∀ (i : StepIx) (s : State), P s → (s.fse.steps[i]).kind = .waitPlates → Fair (s.fse.steps[i]).count
  ready : ∀ (i : ResIx) (r : ResRec) (s : State), s.ppu.entries[i] = some r → r.state = .waiting →
    r.count + s.ppu.sumOutstanding r.kind ≤ s.ppu.readyWarm r.kind → P s → P (s.setEntry i (some { r with state := .ready }))
  free : ∀ (i : ResIx) (s : State), P s → P { s with ppu := s.ppu.freed i }
  create : ∀ (i : ResIx) (r : ResRec) (s : State), s.ppu.freeEntry = some i → r.state = .waiting → r.drawn = 0 → Fair r.count →
    P s → P { s with ppu := s.ppu.withEntry i r }

theorem State.running_record {s : State} {c : Chan} {i : StepIx} {r : StepRec} (h : s.running c = some (i, r)) :
    r = s.fse.steps[i] := by
  unfold State.running at h
  simp only at h
  split at h
  · obtain ⟨j, -, hj⟩ := Option.map_eq_some_iff.mp h
    cases hj
    rfl
  · cases h

namespace EngineLaw

variable {Fair : Nat → Prop} {P : State → Prop} (k : EngineLaw Fair P)
include k

theorem same {f : State → State} {e : Ev} (hf : (f e.s).larder = e.s.larder) (h : P e.s) : P (e.on f).s := k.frame _ _ hf h

theorem fair {c : Chan} {i : StepIx} {r : StepRec} {s : State} (hrun : s.running c = some (i, r)) (hk : r.kind = .waitPlates)
    (h : P s) : Fair r.count := by
  cases State.running_record hrun
  exact k.asks i s h hk

/-! ### The reservation table (chapter 5) -/

theorem becomeReady {i : ResIx} {r : ResRec} {e : Ev} (hi : e.s.ppu.entries[i] = some r) (hr : r.state = .waiting)
    (hroom : r.count + e.s.ppu.sumOutstanding r.kind ≤ e.s.ppu.readyWarm r.kind) (h : P e.s) : P (e.becomeReady i r).s := by
  have h1 := k.frame _ _ (State.resNotice_larder i r .reservationReady r.kind.val r.count _) (k.ready i r e.s hi hr hroom h)
  unfold Ev.becomeReady
  simp only
  split <;> exact h1

theorem evaluateFrom {kind : Kind} (l : List ResIx) {e : Ev} (h : P e.s) : P (e.evaluateFrom kind l).s := by
  induction l generalizing e with
  | nil => exact h
  | cons i l ih =>
    unfold Ev.evaluateFrom
    split
    next r hi =>
      split
      next hk =>
        obtain ⟨rfl, hwait⟩ := hk
        split
        next hroom => exact ih (k.becomeReady hi hwait hroom h)
        next => exact h
      next => exact ih h
    next => exact ih h

theorem evaluate {kind : Kind} {e : Ev} (h : P e.s) : P (e.evaluate kind).s := k.evaluateFrom _ h

theorem endEntry {i : ResIx} {r : ResRec} {o : ResEnd} {tell : Bool} {e : Ev} (h : P { e.s with ppu := e.s.ppu.freed i }) :
    P (e.endEntry i r o tell).s := by
  unfold Ev.endEntry
  simp only
  split
  · split
    · exact k.frame _ _ (State.resNotice_larder ..) h
    · exact h
  · exact h

theorem afterEnd {kind : Kind} {e : Ev} (h : P e.s) : P (e.afterEnd kind).s := k.evaluate h

theorem finishEntry {i : ResIx} {r : ResRec} {o : ResEnd} {tell : Bool} {e : Ev} (h : P e.s) :
    P (e.finishEntry i r o tell).s := k.afterEnd (k.endEntry (k.free i e.s h))

theorem times {kind : Kind} (n : Nat) {e : Ev} (h : P e.s) : P (Ev.times (fun x => x.afterEnd kind) n e).s := by
  induction n generalizing e with
  | zero => exact h
  | succ n ih => exact ih (k.afterEnd h)

theorem createEntry {i : ResIx} {kind : Kind} {n : Nat} {o : ResOwner} {e : Ev} (hi : e.s.ppu.freeEntry = some i) (hn : Fair n)
    (h : P e.s) : P (e.createEntry i kind n o).1.s :=
  k.evaluate (k.create i
    { kind := kind, count := n, requested := n, drawn := 0, owner := o, state := .waiting, shortened := false
      creation := e.s.ppu.nextCreation, createdAt := e.s.clock } e.s hi rfl rfl hn h)

theorem requestPlates {c : Chan} {kind : Byte} {n : Nat} {e : Ev} (hn : Fair n) (h : P e.s) :
    P (e.requestPlates c kind n).1.s := by
  unfold Ev.requestPlates
  split
  · exact h
  · split
    · exact h
    · split
      · exact h
      next hi => exact k.createEntry hi hn h

theorem cancelEntry {i : ResIx} {n : Nat} {e : Ev} (h : P e.s) : P (e.cancelEntry i n).s := by
  unfold Ev.cancelEntry
  split
  · exact k.finishEntry h
  · exact h

theorem closeEntry {i : ResIx} {n : Nat} {e : Ev} (h : P e.s) : P (e.closeEntry i n).s := by
  unfold Ev.closeEntry
  split
  · exact k.finishEntry h
  · exact h

/-! ### The engine (chapter 1) -/

theorem onChan {c : Chan} {f : ChanRec → ChanRec} {e : Ev} (h : P e.s) : P (e.on (State.onChan c f)).s := k.same rfl h

/-- The engine's waiting sets are changed. -/
theorem waits {f : Fse → Fse} {e : Ev} (h : P e.s) (hf : (f e.s.fse).steps = e.s.fse.steps := by rfl) :
    P (e.on (State.onFse f)).s :=
  k.same (State.onFse_larder hf) h

theorem cancelHeld {c : Chan} {e : Ev} (h : P e.s) : P (e.cancelHeld c).s := by
  unfold Ev.cancelHeld
  split
  · exact k.cancelEntry (k.onChan h)
  · exact h

theorem closeHeld {c : Chan} {e : Ev} (h : P e.s) : P (e.closeHeld c).s := by
  unfold Ev.closeHeld
  split
  · exact k.closeEntry (k.onChan h)
  · exact h

theorem releaseHeld {c : Chan} {e : Ev} (h : P e.s) : P (e.releaseHeld c).s := k.frame _ _ (Ev.releaseHeld_larder c e) h

theorem endChain {c : Chan} {o : StepOutcome} {byEnd : Bool} {at_ : Option Int} {walk : Option StepIx} {e : Ev} (h : P e.s) :
    P (e.endChain c o byEnd at_ walk).s := by
  have h1 : P (if byEnd then e else e.on (State.releaseWalk c 513 walk)).s := by
    split
    · exact h
    · exact k.same (State.releaseWalk_larder ..) h
  have h2 : ∀ f : State → State, (∀ t : State, (f t).larder = t.larder) →
      P ((((((if byEnd then e else e.on (State.releaseWalk c 513 walk)).on f).cancelHeld c).on
        (State.onFse (fun f => (f.leaveEntry c).leavePlace c))).releaseHeld c)).s :=
    fun f hf => k.releaseHeld (k.waits (k.cancelHeld (k.same (hf _) h1)))
  have h3 := h2 (fun s => (s.onChan c (fun ch => { ch.entering o byEnd at_ with
      current := none, prefetched := none, stepTimer := false, repeated := false, delayedEnd := none })).handOven c)
    fun t => State.handOven_larder ..
  unfold Ev.endChain
  simp only
  split
  · exact k.same (State.postEnding_larder ..) h3
  · exact h3

theorem skipStep {c : Chan} {j : Option StepIx} {e : Ev} (h : P e.s) : P (e.skipStep c j).s := by
  unfold Ev.skipStep
  split
  · exact k.endChain h
  · simp only
    split
    · exact k.endChain h
    · split
      · exact k.endChain h
      · exact k.frame e.s _ (State.setStep_larder (by rfl)) h

theorem endStep {c : Chan} {o : StepOutcome} {e : Ev} (h : P e.s) : P (e.endStep c o).s := by
  unfold Ev.endStep
  split
  · exact h
  next i _ _ =>
    have h1 : P (e.on (State.closeStep c i o)).s := k.same (State.closeStep_larder ..) h
    simp only
    split
    · split
      · exact k.skipStep h1
      · exact h1
    · exact k.endChain h1

theorem endByKind {c : Chan} {o : StepOutcome} {e : Ev} (h : P e.s) : P (e.endByKind c o).s := by
  unfold Ev.endByKind
  split
  · exact k.onChan h
  · exact k.endStep h

theorem testReading {c : Chan} {r : StepRec} {e : Ev} (h : P e.s) : P (e.testReading c r).s := by
  unfold Ev.testReading
  split
  · exact k.endByKind h
  · exact h

theorem askPlates {c : Chan} {r : StepRec} {e : Ev} (hr : Fair r.count) (h : P e.s) : P (e.askPlates c r).s := by
  have h1 := k.requestPlates (c := c) (kind := r.plateKind) hr h
  unfold Ev.askPlates
  simp only
  split
  · exact k.endByKind h1
  · exact k.waits h1
  · split
    · exact k.endByKind (k.onChan h1)
    · exact k.onChan h1

theorem askPage {c : Chan} {r : StepRec} {e : Ev} (h : P e.s) : P (e.askPage c r).s := by
  unfold Ev.askPage
  split
  · exact h
  · simp only
    split
    · split
      · exact k.frame _ _ (Ev.submit_larder ..) (k.onChan h)
      · exact k.endByKind (k.frame _ _ (Ev.submit_larder ..) h)
    · exact k.waits h

theorem postNote {c : Chan} {i : StepIx} {r : StepRec} {e : Ev} (h : P e.s) : P (e.postNote c i r).s :=
  k.endStep (k.same (State.chanNotice_larder ..) h)

theorem beginKind {c : Chan} {i : StepIx} {r : StepRec} {again : Bool} {e : Ev} (hr : r.kind = .waitPlates → Fair r.count)
    (h : P e.s) : P (e.beginKind c i r again).s := by
  unfold Ev.beginKind
  split
  · exact k.testReading h
  · exact k.testReading h
  · exact k.testReading h
  next hk => exact k.askPlates (hr hk) (k.cancelHeld h)
  · split
    · exact k.endByKind h
    · exact h
  · exact k.askPage h
  · split
    · exact h
    · exact k.postNote h
  · exact k.endByKind h

theorem beginStep {c : Chan} {i : StepIx} {e : Ev} (h : P e.s) : P (e.beginStep c i).s := by
  unfold Ev.beginStep
  refine k.beginKind (k.asks i e.s h) (k.frame e.s _ ?_ h)
  exact (State.handOven_larder ..).trans ((State.onChan_larder ..).trans (State.setStep_larder rfl))

theorem moveOn {c : Chan} {j : Option StepIx} {e : Ev} (h : P e.s) : P (e.moveOn c j).s := by
  unfold Ev.moveOn
  split
  · exact k.endChain h
  · simp only
    split
    · exact k.endChain h
    · split
      · exact k.endChain h
      · exact k.beginStep h

theorem timeout {c : Chan} {r : StepRec} {e : Ev} (h : P e.s) : P (e.timeout c r).s := by
  unfold Ev.timeout
  refine k.endStep ?_
  split
  · exact k.waits (k.cancelHeld h)
  · exact k.closeHeld h
  · exact k.releaseHeld (k.waits h)
  all_goals exact h

theorem timeSteps {c : Chan} {r : StepRec} {e : Ev} (h : P e.s) : P (e.timeSteps c r).s := by
  have h1 : P (e.on (State.countSoak c r)).s := k.same (State.countSoak_larder ..) h
  unfold Ev.timeSteps
  simp only
  split
  · exact k.endStep h1
  · split
    · exact k.timeout h1
    · exact h1

theorem stepSecond {c : Chan} {e : Ev} (h : P e.s) : P (e.stepSecond c).s := by
  unfold Ev.stepSecond
  split
  · exact h
  · simp only
    split
    · split
      · split
        · exact k.postNote (k.onChan h)
        · split
          · exact k.endStep (k.onChan h)
          · exact k.timeSteps (k.onChan h)
      · exact k.timeSteps (k.onChan h)
    · exact h

/-! ### What the engine is handed (R17, R18, R21 to R26, R124) -/

theorem ovenFault {c : Chan} {e : Ev} (h : P e.s) : P (e.ovenFault c).s := by
  have h1 : P (e.on (fun s => (s.onChan c (fun q => { q with state := .stopped })).handOven c)).s :=
    k.same (State.handOven_larder ..) h
  unfold Ev.ovenFault
  simp only
  split
  · exact k.endStep h
  · split
    · exact k.same (State.postEnding_larder ..) h1
    · exact h1
  · exact h
  · exact h

theorem coreFault {c : Chan} {e : Ev} (h : P e.s) : P (e.coreFault c).s := by
  unfold Ev.coreFault
  split
  · split
    · exact k.endStep h
    · exact h
  · exact h

theorem cavityReading {c : Chan} {e : Ev} (h : P e.s) : P (e.cavityReading c).s := by
  unfold Ev.cavityReading
  split
  · simp only
    split
    · exact k.testReading (k.onChan h)
    · exact k.onChan h
  all_goals exact h

theorem coreReading {c : Chan} {e : Ev} (h : P e.s) : P (e.coreReading c).s := by
  unfold Ev.coreReading
  split
  · split
    · exact k.testReading h
    · exact h
  · exact h

theorem entryReady {c : Chan} {i : ResIx} {n : Nat} {e : Ev} (h : P e.s) : P (e.entryReady c i n).s := by
  unfold Ev.entryReady
  split
  · split
    · exact k.endByKind h
    · exact h
  · exact h

theorem entryEnded {c : Chan} {i : ResIx} {n : Nat} {b : Bool} {e : Ev} (h : P e.s) : P (e.entryEnded c i n b).s := by
  unfold Ev.entryEnded
  split
  · simp only
    split
    · split
      · exact k.endByKind (k.onChan h)
      · exact k.onChan h
    · exact k.onChan h
  · exact h

theorem entryFree {e : Ev} (h : P e.s) : P e.entryFree.s := by
  unfold Ev.entryFree
  split
  · exact h
  next c _ =>
    have h1 : P (e.on (State.onFse (fun f => { f.leaveEntry c with entryServed := c }))).s := k.waits h
    simp only
    split
    next hrun =>
      split
      next hk => exact k.askPlates (k.fair hrun hk h1) h1
      next => exact h1
    next => exact h1

theorem placeFree {e : Ev} (h : P e.s) : P e.placeFree.s := by
  unfold Ev.placeFree
  split
  · exact h
  next c _ =>
    have h1 : P (e.on (State.onFse (fun f => { f.leavePlace c with placeServed := c }))).s := k.waits h
    simp only
    split
    · split
      · exact k.askPage h1
      · exact h1
    · exact h1

theorem pageEnded {c : Chan} {n : Nat} {o : PageOutcome} {e : Ev} (h : P e.s) : P (e.pageEnded c n o).s := by
  unfold Ev.pageEnded
  split
  · simp only
    split
    · split
      · exact k.endByKind (k.onChan h)
      · exact k.onChan h
    · exact k.onChan h
  · exact h

theorem linkLost {c : Chan} {x : Station} {e : Ev} (h : P e.s) : P (e.linkLost c x).s := by
  unfold Ev.linkLost
  split
  · split
    · exact k.endStep h
    · exact h
  · exact h

theorem take (r : Report) {e : Ev} (h : P e.s) : P (e.take r).s := by
  cases r with
  | moveOn c j => exact k.moveOn h
  | cavityReading c => exact k.cavityReading h
  | coreReading c => exact k.coreReading h
  | ovenFault c => exact k.ovenFault h
  | coreFault c => exact k.coreFault h
  | entryReady c i n => exact k.entryReady h
  | entryEnded c i n b => exact k.entryEnded h
  | entryFree => exact k.entryFree h
  | pageEnded c n o => exact k.pageEnded h
  | placeFree => exact k.placeFree h
  | linkLost c x => exact k.linkLost h

theorem drain (n : Nat) {e : Ev} (h : P e.s) : P (e.drain n).s := by
  induction n generalizing e with
  | zero => exact h
  | succ n ih =>
    unfold Ev.drain
    split
    · exact h
    · exact ih (k.take _ h)

theorem finish {e : Ev} (h : P e.s) : P e.finish := k.drain _ h

end EngineLaw

end Sys2Proof.Machine
end

section
/-! PROOFS. The commands that reach the plates by the engine alone, or not at all, keep a property that `EngineLaw` describes. -/

namespace Sys2Proof.Machine

open Sys2Proof

namespace EngineLaw

variable {Fair : Nat → Prop} {P : State → Prop} (k : EngineLaw Fair P)
include k

/-! ### Commands on channels (R11, R13 to R16) -/

theorem toIdle {c : Chan} {e : Ev} (h : P e.s) : P (e.on (State.toIdle c)).s := k.same (State.toIdle_larder ..) h

theorem start (x : Station) (chan : Byte) (first : BitVec 16) {e : Ev} (h : P e.s) : P (cmdStart x chan first e).1.s := by
  refine withIndex_keeps h fun c => withIndex_keeps h fun i => ?_
  simp only
  split
  · exact k.same rfl h
  · split
    · exact h
    · split
      · exact h
      · split
        · exact h
        · exact k.beginStep (k.onChan h)

theorem halt (chan : Byte) {e : Ev} (h : P e.s) : P (cmdHalt chan e).1.s := by
  refine withIndex_keeps h fun c => ?_
  split
  · exact k.endStep h
  · exact k.toIdle h
  · exact h
  · exact h

theorem releaseHold (chan : Byte) {e : Ev} (h : P e.s) : P (cmdReleaseHold chan e).1.s := by
  refine withIndex_keeps h fun c => ?_
  split
  · exact k.toIdle h
  · exact h
  · exact h
  · exact h

theorem resetLoad (l : LoadIx) {e : Ev} (h : P e.s) : P (e.resetLoad l).1.s := k.frame _ _ (Ev.resetLoad_larder ..) h

theorem resetChannel (chan : Byte) {e : Ev} (h : P e.s) : P (cmdResetChannel chan e).1.s := by
  refine withIndex_keeps h fun c => ?_
  split
  · exact h
  · exact h
  · exact h
  · split
    · exact h
    · split
      · exact h
      · exact k.toIdle (k.resetLoad _ h)

/-! ### Commands on loads and on the budget (R55, R58, R61, R66, R67) -/

theorem setLoad (load : Byte) (im : LoadImage) {e : Ev} (h : P e.s) : P (cmdSetLoad load im e).1.s := by
  have hset : ∀ (l : LoadIx) (r : LoadRec), P (e.on (fun s => (s.setLoad l r).recompute l)).s := fun _ _ =>
    k.same ((State.recompute_larder ..).trans (State.setLoad_larder ..)) h
  refine withIndex_keeps h fun l => ?_
  simp only
  split
  · exact h
  · simp only
    split
    · exact k.frame _ _ (Ev.loadLost_larder ..) (hset _ _)
    · exact k.frame _ _ (Ev.loadChanged_larder ..) (hset _ _)

theorem testCutout (x : Station) (load : Byte) {e : Ev} (h : P e.s) : P (cmdTestCutout x load e).1.s := by
  refine withIndex_keeps h fun l => ?_
  simp only
  split
  · exact h
  · split
    · exact h
    · split
      · exact h
      · exact k.same rfl h

theorem setBudget (cap unmanaged interval : Nat) {e : Ev} (h : P e.s) : P (e.setBudget cap unmanaged interval).s :=
  k.frame _ _ (Ev.setBudget_larder ..) h

/-! ### Commands on reservations and dish settings (R113, R122, R127) -/

theorem reserve (fair : ∀ n : Nat, 1 ≤ n → Fair n) (x : Station) (kind n : Byte) {e : Ev} (h : P e.s) :
    P (cmdReserve x kind n e).1.s := by
  refine withIndex_keeps h fun i => ?_
  split
  · exact h
  next hrange =>
    split
    · exact h
    next hfree => exact k.createEntry hfree (fair _ (by omega)) h

theorem cancelReservation (x : Station) (idx : Byte) (creation : BitVec 16) {e : Ev} (h : P e.s) :
    P (cmdCancelReservation x idx creation e).1.s := by
  refine withIndex_keeps h fun i => ?_
  split
  · exact h
  · split
    · exact h
    · exact k.finishEntry h

theorem setDish (im : DishImage) {e : Ev} (h : P e.s) : P (cmdSetDish im e).1.s := by
  refine withIndex_keeps h fun station => ?_
  have hdish : ∀ f : State → Dlu, (f e.s).labels = e.s.dlu.labels → (f e.s).racks = e.s.dlu.racks →
      P (e.on (fun s => (s.setDlu (f s)).handDish)).s :=
    fun _ hl hr => k.same ((State.handDish_larder _).trans (State.setDlu_larder hl hr)) h
  simp only
  split
  · exact hdish _ rfl rfl
  · exact k.frame _ _ (Ev.report_larder ..) (hdish _ rfl rfl)

/-! ### Commands on the roster and on pages (chapters 7 and 8) -/

theorem setBadge (badge : Byte) (address : BitVec 24) (role zone : Byte) {e : Ev} (h : P e.s) :
    P (cmdSetBadge badge address role zone e).1.s := by
  refine withIndex_keeps h fun b => ?_
  simp only
  split
  · exact h
  · split
    · exact h
    · split
      · exact h
      · exact k.same rfl h

theorem badgeState (badge st : Byte) {e : Ev} (h : P e.s) : P (cmdBadgeState badge st e).1.s := by
  refine withIndex_keeps h fun b => ?_
  split
  · exact h
  · simp only
    split
    · exact h
    · exact k.same rfl h

theorem page (x : Station) (im : PageImage) {e : Ev} (h : P e.s) : P (cmdPage x im e).1.s := by
  unfold cmdPage
  split
  · exact h
  · split
    · exact k.frame _ _ (Ev.submit_larder ..) h
    · exact h

theorem cancelPage (x : Station) (number : BitVec 16) {e : Ev} (h : P e.s) : P (cmdCancelPage x number e).1.s := by
  unfold cmdCancelPage
  split
  · exact h
  · split
    · exact h
    · split
      · exact h
      · exact k.frame _ _ (Ev.endPage_larder ..) h

theorem setPaging (im : PagingImage) {e : Ev} (h : P e.s) : P (cmdSetPaging im e).1.s := by
  unfold cmdSetPaging
  split
  · exact k.same rfl h
  · exact h

/-! ### Commands on the fault monitor, on notices and on ports (chapters 9 and 10) -/

theorem clearFaults (groups : Byte) {e : Ev} (h : P e.s) : P (cmdClearFaults groups e).1.s := by
  unfold cmdClearFaults
  split
  · exact h
  · split
    · exact h
    · exact k.same rfl h

theorem setFaultMask (masks : Vector Byte 6) {e : Ev} (h : P e.s) : P (cmdSetFaultMask masks e).1.s := by
  unfold cmdSetFaultMask
  split
  · exact k.same rfl h
  · exact h

theorem subscribeFaults (x : Station) (groups : Byte) {e : Ev} (h : P e.s) : P (cmdSubscribeFaults x groups e).1.s := by
  unfold cmdSubscribeFaults
  split
  · exact h
  · exact k.same rfl h

theorem setFaultPaging (paging : Vector (Byte × Byte) 6) {e : Ev} (h : P e.s) : P (cmdSetFaultPaging paging e).1.s := by
  unfold cmdSetFaultPaging
  split
  · exact k.same rfl h
  · exact h

theorem fetchNotice (x : Station) {e : Ev} (h : P e.s) : P (cmdFetchNotice x e).1.s := by
  unfold cmdFetchNotice
  simp only
  split
  · exact k.same rfl h
  · exact k.frame e.s _ (State.refill_larder ..) h

theorem setPort (port short : Byte) (long : BitVec 16) (action : Byte) {e : Ev} (h : P e.s) :
    P (cmdSetPort port short long action e).1.s := by
  refine withIndex_keeps h fun y => ?_
  split
  · exact h
  · exact k.same rfl h

end EngineLaw

end Sys2Proof.Machine
end

section
/-! PROOFS. An induction principle for the laws of the plates: a property that `EngineLaw` describes, and that survives the changes the
commands and events of chapters 1, 4 and 6 make to pool records, warmers, labels, racks and step records, is kept by every step. -/

namespace Sys2Proof.Machine

open Sys2Proof

/-- A movement between WARM and another place, with the COUNT of a warmer written (R99, R100, R106). -/
def State.carry (w : WarmerIx) (src dst : Place) (n m : Nat) (s : State) : State :=
  (s.setPool (s.ppu.warmers[w]).kind ((s.ppu.pools[(s.ppu.warmers[w]).kind]).move src dst n).1).setCount w m

/-- What the law of R117 reads: WARM of each kind, what the warmers hold, the live entries in their order, and what the step
records ask for. -/
def State.pledges (s : State) :
    (Kind → Nat) × (WarmerIx → Kind × Nat × Nat) × (Vector (Option ResRec) 16 × List ResIx) × (StepIx → StepKind × Nat) :=
  (fun k => (s.ppu.pools[k]).warm, fun w => (s.ppu.warmers[w]).holds, (s.ppu.entries, s.ppu.ageList),
    fun i => (s.fse.steps[i]).asks)

/-- A property `P` of the plates that every step keeps: it survives each change of a pool record, a warmer, a label, a rack or a
step record made from a state where `A` holds. After WARM of a kind has fallen by `n` it is `Q n` of the kind that holds, until
the draw is charged or the kind is revoked. -/
structure PlateLaw (Fair : Nat → Prop) (A : State → Prop) (Q : Nat → Kind → State → Prop) (P : State → Prop) : Prop
    extends EngineLaw Fair P where
  fair : ∀ n : Nat, 1 ≤ n → Fair n
  reset : ∀ pins : Pins, P (State.resetWith pins)
  before : ∀ s t : State, t.larder = s.larder → A s → A t
  weaken : ∀ s : State, A s → P s
  writeStep : ∀ (i : StepIx) (r : StepRec) (s : State), (r.kind = .waitPlates → 1 ≤ r.count) → A s → P (s.setStep i r)
  configure : ∀ (w : WarmerIx) (r : WarmerRec) (s : State), r.count = (s.ppu.warmers[w]).count →
    (r.kind = (s.ppu.warmers[w]).kind ∨ r.count = 0) → r.count ≤ r.capacity → r.capacity ≤ 240 → A s → P (s.setWarmer w r)
  settle : ∀ s t : State, t.pledges = s.pledges → (s.PoolSound → s.PoolHeadroom → t.PoolSound) → A s → P t
  rise : ∀ (w : WarmerIx) (src : Place) (n : Nat) (s t : State), src = .cool ∨ src = .floor →
    (s.ppu.warmers[w]).count + n ≤ (s.ppu.warmers[w]).capacity →
    t.larder = (s.carry w src .warm n ((s.ppu.warmers[w]).count + n)).larder → A s → P t
  fall : ∀ (w : WarmerIx) (dst : Place) (n : Nat) (s t : State), dst = .cool ∨ dst = .floor → n ≤ (s.ppu.warmers[w]).count →
    t.larder = (s.carry w .warm dst n ((s.ppu.warmers[w]).count - n)).larder → A s → Q n (s.ppu.warmers[w]).kind t
  charge : ∀ (k : Kind) (e : Ev), Q 1 k e.s → P (e.chargeDraw k).s
  revoke : ∀ (n : Nat) (k : Kind) (e : Ev), Q n k e.s → P (e.revoke k).s

theorem State.setCount_desk {s t : State} (h : t.desk = s.desk) (w : WarmerIx) (m : Nat) :
    (t.setCount w m).desk = (s.setCount w m).desk := by
  obtain ⟨hclock, hfse, hhlu, hpba, hppu, hdlu, hpins, hpending⟩ := State.desk_eq h
  simp [State.desk, State.setCount, State.setWarmer, hclock, hfse, hhlu, hpba, hppu, hdlu, hpins, hpending]

/-- The movement of a count step or a recount, with COUNT written after it (R99, R100, R106). -/
theorem Ev.carry_desk {src dst : Place} (hs : src ≠ .soiled) (hd : dst ≠ .soiled) (w : WarmerIx) (n m : Nat) (e : Ev) :
    ((e.movement (e.s.ppu.warmers[w]).kind src dst n).1.on (State.setCount w m)).s.desk = (e.s.carry w src dst n m).desk :=
  State.setCount_desk (Ev.movement_desk hs hd ..) w m

theorem Ev.carry_larder {src dst : Place} (hs : src ≠ .soiled) (hd : dst ≠ .soiled) (w : WarmerIx) (n m : Nat) (e : Ev) :
    ((e.movement (e.s.ppu.warmers[w]).kind src dst n).1.on (State.setCount w m)).s.larder = (e.s.carry w src dst n m).larder :=
  State.larder_of_desk (Ev.carry_desk hs hd ..)

theorem Ev.recount_larder {src dst : Place} (hs : src ≠ .soiled) (hd : dst ≠ .soiled) (w : WarmerIx) (n m : Nat) (e : Ev) :
    (((e.movement (e.s.ppu.warmers[w]).kind src dst n).1.on (State.setCount w m)).restartCounting w).s.larder =
      (e.s.carry w src dst n m).larder := (Ev.restartCounting_larder ..).trans (Ev.carry_larder hs hd ..)

theorem PoolRec.sourceUp_cases (p : PoolRec) (m : Mode) : p.sourceUp m = .cool ∨ p.sourceUp m = .floor := by
  unfold PoolRec.sourceUp
  split
  · exact .inl rfl
  · split
    · exact .inr rfl
    · exact .inl rfl

theorem Place.ne_soiled_of_source {q : Place} (h : q = .cool ∨ q = .floor) : q ≠ .soiled := by
  rcases h with rfl | rfl <;> decide

namespace PlateLaw

variable {Fair : Nat → Prop} {A : State → Prop} {Q : Nat → Kind → State → Prop} {P : State → Prop} (k : PlateLaw Fair A Q P)
include k

/-- What leaves alone all that the laws of the plates read. -/
theorem quiet {s t : State} (ht : t.larder = s.larder) (h : A s) : P t := k.frame _ _ ht (k.weaken _ h)

/-! ### The warmers (R93 to R101, R106) -/

theorem countDown (w : WarmerIx) {e : Ev} (hc : 0 < (e.s.ppu.warmers[w]).count) (h : A e.s) : P (e.countDown w).s := by
  unfold Ev.countDown
  simp only
  split
  · exact k.charge _ _ (k.fall w .floor 1 e.s _ (.inr rfl) hc (Ev.carry_larder (by decide) (by decide) ..) h)
  · exact k.revoke 1 _ _ (k.fall w .cool 1 e.s _ (.inl rfl) hc (Ev.carry_larder (by decide) (by decide) ..) h)

theorem countUp (w : WarmerIx) {e : Ev} (hc : (e.s.ppu.warmers[w]).count < (e.s.ppu.warmers[w]).capacity) (h : A e.s) :
    P (e.countUp w).s := by
  have hsrc := (e.s.ppu.pools[(e.s.ppu.warmers[w]).kind]).sourceUp_cases (e.s.ppu.warmers[w]).mode
  exact k.evaluate (k.rise w _ 1 e.s _ hsrc hc (Ev.carry_larder (Place.ne_soiled_of_source hsrc) (by decide) ..) h)

/-- The record of a warmer is written without a change of what it holds. -/
theorem rewritten {w : WarmerIx} {r : WarmerRec} {e : Ev} (hr : r.holds = (e.s.ppu.warmers[w]).holds) (h : A e.s) :
    A (e.on (fun s => s.setWarmer w r)).s := k.before _ _ (State.setWarmer_larder hr) h

theorem encoderFault (w : WarmerIx) {e : Ev} (h : A e.s) : P (e.encoderFault w).s := k.quiet (Ev.encoderFault_larder w e) h

theorem accumulate (w : WarmerIx) (edge : Int) {e : Ev} (h : A e.s) : P (e.accumulate w edge).s := by
  have hset : ∀ v : Int, A (e.on (fun s => s.setWarmer w { e.s.ppu.warmers[w] with sub := v })).s := fun _ => k.rewritten rfl h
  have hget : ∀ v : Int, (e.on (fun s => s.setWarmer w { e.s.ppu.warmers[w] with sub := v })).s.ppu.warmers[w] =
      { e.s.ppu.warmers[w] with sub := v } := fun _ => get_set_same ..
  unfold Ev.accumulate
  simp only
  split
  · split
    · exact k.encoderFault w (hset _)
    next hc => exact k.countDown w (by rw [hget]; exact Nat.pos_of_ne_zero hc) (hset _)
  · split
    · split
      · exact k.encoderFault w (hset _)
      next hc => exact k.countUp w (by rw [hget]; exact Nat.lt_of_not_le hc) (hset _)
    · exact k.weaken _ (hset _)

theorem invalidTurn (w : WarmerIx) {e : Ev} (h : A e.s) : P (e.invalidTurn w).s := by
  unfold Ev.invalidTurn
  simp only
  split
  · exact k.encoderFault w (k.rewritten rfl h)
  · exact k.weaken _ (k.rewritten rfl h)

theorem encoderPair (w : WarmerIx) (pair : Pair) {e : Ev} (h : A e.s) : P (e.encoderPair w pair).s := by
  have h1 : A (e.on (fun s => { s.setWarmer w { s.ppu.warmers[w] with pair := pair } with
      pins := { s.pins with encoders := s.pins.encoders.set w pair } })).s :=
    k.before _ _ (State.setWarmer_larder (s := e.s) (r := { e.s.ppu.warmers[w] with pair := pair }) rfl) h
  unfold Ev.encoderPair
  simp only
  split
  · exact k.weaken _ h1
  · split
    · exact k.weaken _ h1
    · exact k.accumulate w _ (k.rewritten rfl h1)
    · exact k.accumulate w _ (k.rewritten rfl h1)
    · exact k.invalidTurn w h1

theorem soakSecond (w : WarmerIx) {e : Ev} (h : A e.s) : P (e.soakSecond w).s := by
  unfold Ev.soakSecond
  simp only
  split
  · exact k.weaken _ h
  · split
    · exact k.weaken _ (k.rewritten rfl h)
    · exact k.evaluate (k.weaken _ (k.rewritten rfl h))

theorem warmerCount (warmer n : Byte) {e : Ev} (h : A e.s) : P (cmdWarmerCount warmer n e).1.s := by
  refine withIndex_keeps (k.weaken _ h) fun w => ?_
  have hfit : min n.toNat (e.s.ppu.warmers[w]).capacity ≤ (e.s.ppu.warmers[w]).capacity := Nat.min_le_right _ _
  simp only
  split
  · exact k.weaken _ h
  · generalize min n.toNat (e.s.ppu.warmers[w]).capacity = m at hfit
    split
    next hlt =>
      have hm : (e.s.ppu.warmers[w]).count + (m - (e.s.ppu.warmers[w]).count) = m := by omega
      refine k.evaluate (k.rise w .cool (m - (e.s.ppu.warmers[w]).count) e.s _ (.inl rfl) (hm ▸ hfit) ?_ h)
      rw [Ev.recount_larder (by decide) (by decide), hm]
    next =>
      split
      next hlt =>
        refine k.revoke _ _ _ (k.fall w .cool ((e.s.ppu.warmers[w]).count - m) e.s _ (.inl rfl) (Nat.sub_le _ _) ?_ h)
        rw [Ev.recount_larder (by decide) (by decide), Nat.sub_sub_self hlt.le]
      next hle hge =>
        have hsame : m = (e.s.ppu.warmers[w]).count := by omega
        exact k.quiet ((Ev.restartCounting_larder ..).trans (State.setWarmer_larder (by rw [hsame]))) h

theorem setWarmer (warmer : Byte) (im : WarmerImage) {e : Ev} (h : A e.s) : P (cmdSetWarmer warmer im e).1.s := by
  refine withIndex_keeps (k.weaken _ h) fun w => withIndex_keeps (k.weaken _ h) fun kind => ?_
  let c := (e.s.ppu.warmers[w]).configured kind im
  have hcount : P (e.on (State.setWarmer w c)).s → P (if (e.s.ppu.warmers[w]).capacity = 0 ∧ 0 < c.capacity then
      (e.on (State.setWarmer w c)).restartCounting w else e.on (State.setWarmer w c)).s := by
    intro hset
    split
    · exact k.frame _ _ (Ev.restartCounting_larder ..) hset
    · exact hset
  have hjudge : ∀ f : Ev, P f.s → P ((f.on (State.judgeWarmer w)).on (State.handWarmer w)).s := fun f hf =>
    k.same (State.handSetpoint_larder ..) (k.same (State.judgeWarmer_larder ..) hf)
  simp only
  split
  · exact k.weaken _ h
  next hkind =>
    split
    · exact k.weaken _ h
    next hcap =>
      have hset : P (e.on (State.setWarmer w c)).s := by
        refine k.configure w c e.s rfl ?_ (Nat.le_of_not_lt hcap) ?_ h
        · by_cases hk : kind = (e.s.ppu.warmers[w]).kind
          · exact .inl hk
          · exact .inr (Nat.eq_zero_of_not_pos fun hpos => hkind ⟨hk, hpos⟩)
        · show clampNat 0 240 _ ≤ 240
          rw [clampNat_zero]
          exact Nat.min_le_left _ _
      refine hjudge _ ?_
      split
      · exact k.same (State.coolWarmer_larder ..) (hcount hset)
      · exact hcount hset

/-! ### Step records (R4) -/

theorem stepRecord (idx : BitVec 16) (give : Byte) (im : StepImage) {e : Ev} (h : A e.s) : P (cmdWriteStep idx give im e).1.s := by
  refine withIndex_keeps (k.weaken _ h) fun i => ?_
  split
  · exact k.weaken _ h
  · split
    next kind g _ _ =>
      simp only
      split
      · refine k.writeStep i _ e.s (fun hk => ?_) h
        have hcount : ((recordOf im kind g).inRange).count = clampNat 1 240 (recordOf im kind g).count := if_pos hk
        rw [hcount]
        unfold clampNat
        split
        · exact Nat.le_refl 1
        · split <;> omega
      · exact k.weaken _ h
    all_goals exact k.weaken _ h

end PlateLaw

end Sys2Proof.Machine
end

section
/-! PROOFS. The pool stays sound under each change of a pool record, of the labels and of the racks inside the machine (R85, R88, R103
to R105, R129 to R137). -/

namespace Sys2Proof.Machine

open Sys2Proof

/-! ### What soundness of the pool reads -/

/-- The plates of a kind in racks that hold these (R130). -/
def washOf (l : List (Option Kind × Nat)) (k : Kind) : Nat := ((l.filter (fun x => decide (x.1 = some k))).map Prod.snd).sum

theorem washOf_cons (x : Option Kind × Nat) (l : List (Option Kind × Nat)) (k : Kind) :
    washOf (x :: l) k = (if x.1 = some k then x.2 else 0) + washOf l k := by
  unfold washOf
  rw [List.filter_cons]
  by_cases h : x.1 = some k <;> simp [h]

theorem washOf_append (l m : List (Option Kind × Nat)) (k : Kind) : washOf (l ++ m) k = washOf l k + washOf m k := by
  simp [washOf]

/-- Soundness of the pool, in what `State.larder` tells. -/
theorem State.poolSound_iff (s : State) :
    s.PoolSound ↔
      (∀ k : Kind, (s.ppu.pools[k]).Balanced) ∧
      (∀ w : WarmerIx, (s.ppu.warmers[w]).holds.2.2 ≤ (s.ppu.warmers[w]).holds.2.1 ∧ (s.ppu.warmers[w]).holds.2.1 ≤ 240) ∧
      (∀ l ∈ s.dlu.labels, l.count ≤ 60) ∧ (∀ x ∈ s.dlu.racks.map RackRec.holds, x.2 ≤ 60) ∧
      ∀ k : Kind, (s.ppu.pools[k]).wash = washOf (s.dlu.racks.map RackRec.holds) k := by
  have hracks : (∀ x ∈ s.dlu.racks.map RackRec.holds, x.2 ≤ 60) ↔ ∀ r ∈ s.dlu.racks, r.count ≤ 60 := List.forall_mem_map
  have hwash : ∀ k : Kind, washOf (s.dlu.racks.map RackRec.holds) k =
      ((s.dlu.racks.filter (fun r => decide (r.kind = some k))).map (fun r => r.count)).sum := by
    intro k
    rw [washOf, List.filter_map, List.map_map]
    rfl
  simp only [hracks, hwash]
  rfl

theorem State.poolSound_of_larder {s t : State} (h : t.larder = s.larder) (hs : s.PoolSound) : t.PoolSound := by
  obtain ⟨hpools, hwarmers, -, ⟨hlabels, hracks⟩, -⟩ := State.larder_eq h
  rw [State.poolSound_iff] at hs ⊢
  simp only [hpools, hwarmers, hlabels, hracks]
  exact hs

theorem State.poolHeadroom_of_larder {s t : State} (h : t.larder = s.larder) (hs : s.PoolHeadroom) : t.PoolHeadroom := by
  obtain ⟨hpools, -⟩ := State.larder_eq h
  unfold State.PoolHeadroom
  rw [hpools]
  exact hs

/-! ### One pool record is written -/

section Pools
variable {s : State} {k : Kind}

/-- What holds of every pool record holds after one is written, where it holds of that one. -/
theorem pools_set {C : Kind → PoolRec → Prop} {p : PoolRec} (h : ∀ j : Kind, C j s.ppu.pools[j]) (hp : C k p) (j : Kind) :
    C j (s.ppu.pools.set k p)[j] := by
  by_cases hj : j = k
  · subst hj
    rw [get_set_same]
    exact hp
  · rw [get_set_ne _ hj]
    exact h j

theorem State.PoolSound.setPool {p : PoolRec} (h : s.PoolSound) (hb : p.Balanced) (hw : p.wash = (s.ppu.pools[k]).wash) :
    (s.setPool k p).PoolSound := by
  obtain ⟨hpools, hwarmers, hlabels, hracks, hwash⟩ := h
  refine ⟨pools_set (C := fun _ q => q.Balanced) hpools hb, hwarmers, hlabels, hracks, ?_⟩
  exact pools_set (C := fun j q => q.wash = _) hwash (hw.trans (hwash k))

/-- No count of a sound pool passes 32 bits in a movement of as many plates as a command or a rack carries (R85, R88). -/
theorem State.PoolSound.balanced_move {src dst : Place} {n : Nat} (h : s.PoolSound) (room : s.PoolHeadroom) (hsd : src ≠ dst)
    (hn : n ≤ 9999) : ((s.ppu.pools[k]).move src dst n).1.Balanced := by
  have hb := h.1 k
  have hdst := hb.at_le dst
  have hstock := (room k).1
  exact hb.move hsd (by omega) (by omega)

theorem State.PoolSound.move {src dst : Place} {n : Nat} (h : s.PoolSound) (room : s.PoolHeadroom) (hsd : src ≠ dst)
    (hs : src ≠ .wash) (hd : dst ≠ .wash) (hn : n ≤ 9999) :
    (s.setPool k ((s.ppu.pools[k]).move src dst n).1).PoolSound :=
  h.setPool (h.balanced_move room hsd hn) (PoolRec.move_at_ne hs.symm hd.symm)

/-- REQUEUE moves what QUAR holds (R105). -/
theorem State.PoolSound.requeue (h : s.PoolSound) (room : s.PoolHeadroom) (n : Nat) :
    (s.setPool k { s.ppu.pools[k] with
      quar := (s.ppu.pools[k]).quar - min n (s.ppu.pools[k]).quar
      soiled := fitCount ((s.ppu.pools[k]).soiled + min n (s.ppu.pools[k]).quar) }).PoolSound := by
  refine h.setPool ?_ rfl
  have hb := h.1 k
  have hroom := (room k).1
  unfold PoolRec.Balanced at hb ⊢
  rw [fitCount_fits (by omega)]
  simp only
  omega

/-- DISCARD takes what QUAR holds out of the house (R105). -/
theorem State.PoolSound.discard (h : s.PoolSound) (n : Nat) :
    (s.setPool k { s.ppu.pools[k] with
      quar := (s.ppu.pools[k]).quar - min n (s.ppu.pools[k]).quar
      stock := (s.ppu.pools[k]).stock - min n (s.ppu.pools[k]).quar }).PoolSound := by
  refine h.setPool ?_ rfl
  have hb := h.1 k
  unfold PoolRec.Balanced at hb ⊢
  simp only
  omega

/-- INVENTORY SET puts all plates that stand nowhere else to COOL (R103). -/
theorem State.PoolSound.inventory (h : s.PoolSound) {stock : Nat} (hs : (s.ppu.pools[k]).placed ≤ stock) :
    (s.setPool k { s.ppu.pools[k] with stock := stock, cool := stock - (s.ppu.pools[k]).placed, found := 0 }).PoolSound := by
  refine h.setPool ?_ rfl
  unfold PoolRec.Balanced
  unfold PoolRec.placed at hs ⊢
  simp only
  omega

end Pools

/-! ### Labels and racks (R129 to R137) -/

theorem State.setDlu_poolSound {s : State} {d : Dlu} (h : s.PoolSound) (hlabels : ∀ l ∈ d.labels, l.count ≤ 60)
    (hracks : ∀ x ∈ d.racks.map RackRec.holds, x.2 ≤ 60)
    (hwash : ∀ k : Kind, (s.ppu.pools[k]).wash = washOf (d.racks.map RackRec.holds) k) : (s.setDlu d).PoolSound := by
  rw [State.poolSound_iff] at h ⊢
  exact ⟨h.1, h.2.1, hlabels, hracks, hwash⟩

theorem State.PoolSound.label {s : State} (h : s.PoolSound) (k : Kind) (n : Nat) :
    (s.setDlu { s.dlu with labels := s.dlu.labels ++ [⟨k, min 60 n⟩] }).PoolSound := by
  obtain ⟨-, -, hlabels, hracks, hwash⟩ := s.poolSound_iff.mp h
  refine State.setDlu_poolSound h (fun l hl => ?_) hracks hwash
  rcases List.mem_append.mp hl with hl | hl
  · exact hlabels l hl
  · rw [List.mem_singleton.mp hl]
    exact Nat.min_le_left _ _

/-- A labelled rack enters: the plates it carries are in the machine (R131). -/
theorem State.PoolSound.enter {s : State} {l : Label} {rest : List Label} (h : s.PoolSound) (room : s.PoolHeadroom)
    (hl : s.dlu.labels = l :: rest) :
    ((s.setDlu { s.dlu with labels := rest, racks := s.dlu.racks ++ [s.newRack (some l.kind) l.count] }).setPool l.kind
      ((s.ppu.pools[l.kind]).move .soiled .wash l.count).1).PoolSound := by
  obtain ⟨hpools, hwarmers, hlabels, hracks, hwash⟩ := s.poolSound_iff.mp h
  rw [hl] at hlabels
  have hcount : l.count ≤ 60 := hlabels l List.mem_cons_self
  have hin : ∀ k : Kind, washOf ((s.dlu.racks ++ [s.newRack (some l.kind) l.count]).map RackRec.holds) k =
      washOf (s.dlu.racks.map RackRec.holds) k + if l.kind = k then l.count else 0 := by
    intro k
    rw [List.map_append, washOf_append, List.map_singleton, washOf_cons]
    simp [RackRec.holds, State.newRack, washOf]
  rw [State.poolSound_iff]
  refine ⟨pools_set (C := fun _ q => q.Balanced) hpools (h.balanced_move room (by decide) (by omega)), hwarmers,
    fun m hm => hlabels m (List.mem_cons_of_mem _ hm), fun x hx => ?_, fun k => ?_⟩
  · rw [State.setPool_dlu, State.setDlu_dlu, List.map_append] at hx
    rcases List.mem_append.mp hx with hx | hx
    · exact hracks x hx
    · rw [List.map_singleton, List.mem_singleton] at hx
      rw [hx]
      exact hcount
  · rw [State.setPool_dlu, State.setDlu_dlu, hin, State.setPool_ppu_pools, State.setDlu_ppu, ← hwash]
    by_cases hk : k = l.kind
    · subst hk
      have hfit := (hpools l.kind).at_le .wash
      have hroom := (room l.kind).1
      have hmove := PoolRec.move_at_dst (p := s.ppu.pools[l.kind]) (n := l.count) (show Place.soiled ≠ .wash by decide)
      rw [get_set_same, if_pos rfl]
      exact hmove.trans (fitCount_fits (by omega))
    · rw [get_set_ne _ hk, if_neg (Ne.symm hk), Nat.add_zero]

/-- A rack without a label enters (R132). -/
theorem State.PoolSound.enterUnlabelled {s : State} (h : s.PoolSound) :
    (s.setRacks (s.dlu.racks ++ [s.newRack none 0])).PoolSound := by
  obtain ⟨-, -, hlabels, hracks, hwash⟩ := s.poolSound_iff.mp h
  refine State.setDlu_poolSound h hlabels (fun x hx => ?_) fun k => ?_
  · rw [List.map_append] at hx
    rcases List.mem_append.mp hx with hx | hx
    · exact hracks x hx
    · rw [List.map_singleton, List.mem_singleton] at hx
      rw [hx]
      exact Nat.zero_le _
  · rw [hwash k, List.map_append, washOf_append]
    simp [washOf, RackRec.holds, State.newRack]

/-- A rack is refused at a full machine: its label is spent (R133). -/
theorem State.PoolSound.spendLabel {s : State} {l : Label} {rest : List Label} (h : s.PoolSound)
    (hl : s.dlu.labels = l :: rest) : (s.setDlu { s.dlu with labels := rest }).PoolSound := by
  obtain ⟨-, -, hlabels, hracks, hwash⟩ := s.poolSound_iff.mp h
  exact State.setDlu_poolSound h (fun m hm => hlabels m (by rw [hl]; exact List.mem_cons_of_mem _ hm)) hracks hwash

/-- A rack leaves: the plates it carries are no more in the machine (R135). -/
theorem State.PoolSound.leave {s : State} {r : RackRec} {rest : List RackRec} {k : Kind} {dst : Place} (h : s.PoolSound)
    (room : s.PoolHeadroom) (hr : s.dlu.racks = r :: rest) (hk : r.kind = some k) (hd : dst ≠ .wash) :
    ((s.setRacks rest).setPool k ((s.ppu.pools[k]).move .wash dst r.count).1).PoolSound := by
  obtain ⟨hpools, hwarmers, hlabels, hracks, hwash⟩ := s.poolSound_iff.mp h
  rw [hr, List.map_cons] at hracks hwash
  have hcount : r.count ≤ 60 := hracks _ List.mem_cons_self
  rw [State.poolSound_iff]
  refine ⟨pools_set (C := fun _ q => q.Balanced) hpools (h.balanced_move room hd.symm (by omega)), hwarmers, hlabels,
    fun x hx => hracks x (List.mem_cons_of_mem _ hx), fun j => ?_⟩
  rw [State.setPool_dlu, State.setRacks_dlu_racks, State.setPool_ppu_pools, State.setRacks_ppu]
  have hj := hwash j
  rw [washOf_cons, show (RackRec.holds r).1 = some k from hk] at hj
  by_cases hjk : j = k
  · subst hjk
    rw [if_pos rfl] at hj
    rw [get_set_same]
    exact (PoolRec.move_at_src hd.symm).trans (Nat.sub_eq_of_eq_add' hj)
  · rw [if_neg (fun heq => hjk (Option.some.inj heq).symm), Nat.zero_add] at hj
    rw [get_set_ne _ hjk, hj]

theorem State.PoolSound.leaveUnlabelled {s : State} {r : RackRec} {rest : List RackRec} (h : s.PoolSound)
    (hr : s.dlu.racks = r :: rest) (hk : r.kind = none) : (s.setRacks rest).PoolSound := by
  obtain ⟨-, -, hlabels, hracks, hwash⟩ := s.poolSound_iff.mp h
  rw [hr, List.map_cons] at hracks hwash
  refine State.setDlu_poolSound h hlabels (fun x hx => hracks x (List.mem_cons_of_mem _ hx)) fun j => ?_
  rw [hwash j, washOf_cons, show (RackRec.holds r).1 = none from hk]
  exact Nat.zero_add _

end Sys2Proof.Machine
end

section
/-! PROOFS. The pool commands, the racks, the receivers of the ports and every other event keep a property that `PlateLaw` describes,
and so does every step. -/

namespace Sys2Proof.Machine

open Sys2Proof

theorem State.pledges_of_larder {s t : State} (h : t.larder = s.larder) : t.pledges = s.pledges := by
  obtain ⟨hpools, hwarmers, ⟨hentries, hage⟩, -, hsteps⟩ := State.larder_eq h
  simp only [State.pledges, hpools, hwarmers, hentries, hage, hsteps]

theorem State.setPool_pledges {k : Kind} {r : PoolRec} {s : State} (h : r.warm = (s.ppu.pools[k]).warm) :
    (s.setPool k r).pledges = s.pledges := by
  simp only [State.pledges, State.setPool_ppu_pools, seen_set PoolRec.warm h]
  rfl

theorem State.setDlu_pledges (d : Dlu) (s : State) : (s.setDlu d).pledges = s.pledges := rfl

/-- A movement between places that are not WARM is no matter of the law of R117. -/
theorem State.move_pledges {src dst : Place} (hs : src ≠ .warm) (hd : dst ≠ .warm) (k : Kind) (n : Nat) (s : State) :
    (s.setPool k ((s.ppu.pools[k]).move src dst n).1).pledges = s.pledges :=
  State.setPool_pledges (PoolRec.move_at_ne hs.symm hd.symm)

/-- A movement reads and writes one pool record; what else stands in the state is no matter. -/
theorem State.setPool_larder {s t : State} (h : t.larder = s.larder) (k : Kind) (r : PoolRec) :
    (t.setPool k r).larder = (s.setPool k r).larder := by
  obtain ⟨hpools, hwarmers, ⟨hentries, hage⟩, ⟨hlabels, hracks⟩, hsteps⟩ := State.larder_eq h
  simp only [State.larder, State.setPool_ppu_pools, State.setPool_ppu_warmers, State.setPool_ppu_entries,
    State.setPool_ppu_ageList, State.setPool_dlu, State.setPool_fse, hpools, hwarmers, hentries, hage, hlabels, hracks, hsteps]

theorem Ev.movement_larder {e : Ev} {s : State} (h : e.s.larder = s.larder) (k : Kind) (src dst : Place) (n : Nat) :
    (e.movement k src dst n).1.s.larder = (s.setPool k ((s.ppu.pools[k]).move src dst n).1).larder := by
  obtain ⟨hpools, -⟩ := State.larder_eq h
  rw [State.larder_of_bench (Ev.movement_bench ..), State.setPool_larder h, hpools]

theorem plates_le (n : BitVec 16) : clampNat 0 9999 n.toNat ≤ 9999 := by
  rw [clampNat_zero]
  exact Nat.min_le_left _ _

namespace PlateLaw

variable {Fair : Nat → Prop} {A : State → Prop} {Q : Nat → Kind → State → Prop} {P : State → Prop} (k : PlateLaw Fair A Q P)
include k

theorem held {f : State → State} {e : Ev} (hf : (f e.s).larder = e.s.larder) (h : A e.s) : A (e.on f).s := k.before _ _ hf h

theorem settled {s u t : State} (ht : t.larder = u.larder) (hu : u.pledges = s.pledges)
    (hs : s.PoolSound → s.PoolHeadroom → u.PoolSound) (h : A s) : P t :=
  k.settle s t ((State.pledges_of_larder ht).trans hu) (fun hsound hroom => State.poolSound_of_larder ht (hs hsound hroom)) h

/-! ### Commands on the pool (R103 to R105, R129) -/

theorem inventorySet (kind : Byte) (stock : BitVec 32) {e : Ev} (h : A e.s) : P (cmdInventorySet kind stock e).1.s := by
  refine withIndex_keeps (k.weaken _ h) fun i => ?_
  simp only
  split
  · exact k.weaken _ h
  next hstock =>
    exact k.settled rfl (State.setPool_pledges rfl) (fun hs _ => hs.inventory (Nat.le_of_not_lt hstock)) h

theorem returnPlates (kind : Byte) (n : BitVec 16) {e : Ev} (h : A e.s) : P (cmdReturnPlates kind n e).1.s :=
  withIndex_keeps (k.weaken _ h) fun _ =>
    k.settled (Ev.movement_larder rfl ..) (State.move_pledges (by decide) (by decide) ..)
      (fun hs room => hs.move room (by decide) (by decide) (by decide) (plates_le n)) h

theorem requeue (kind : Byte) (n : BitVec 16) {e : Ev} (h : A e.s) : P (cmdRequeue kind n e).1.s :=
  withIndex_keeps (k.weaken _ h) fun _ =>
    k.settled (State.larder_of_bench (Ev.requeuePlates_bench ..)) (State.setPool_pledges rfl) (fun hs room => hs.requeue room _) h

theorem discard (kind : Byte) (n : BitVec 16) {e : Ev} (h : A e.s) : P (cmdDiscard kind n e).1.s :=
  withIndex_keeps (k.weaken _ h) fun _ => k.settled rfl (State.setPool_pledges rfl) (fun hs _ => hs.discard _) h

theorem labelRack (kind count : Byte) {e : Ev} (h : A e.s) : P (cmdLabelRack kind count e).1.s := by
  refine withIndex_keeps (k.weaken _ h) fun i => ?_
  split
  · exact k.weaken _ h
  · split
    · exact k.weaken _ h
    · exact k.settled rfl (State.setDlu_pledges ..) (fun hs _ => hs.label i count.toNat) h

/-! ### Racks (R131 to R137) -/

theorem rackEntry {e : Ev} (h : A e.s) : P e.rackEntry.s := by
  unfold Ev.rackEntry
  simp only
  split
  next l rest hl =>
    split
    · exact k.settled (Ev.movement_larder (State.takeSequence_larder _) ..)
        (State.move_pledges (s := e.s) (by decide) (by decide) l.kind l.count) (fun hs room => hs.enter room hl) h
    · exact k.settled (Ev.movement_larder ((Ev.raise_larder ..).trans (State.takeSequence_larder _)) ..)
        (State.move_pledges (s := e.s) (by decide) (by decide) l.kind l.count)
        (fun hs room => (hs.spendLabel hl).move room (by decide) (by decide) (by decide)
          ((hs.2.2.1 l (by rw [hl]; exact List.mem_cons_self)).trans (by decide))) h
  · split
    · exact k.settled (s := e.s) ((Ev.raise_larder ..).trans (State.takeSequence_larder _)) (State.setDlu_pledges ..)
        (fun hs _ => hs.enterUnlabelled) h
    · exact k.quiet ((Ev.raise_larder ..).trans ((Ev.raise_larder ..).trans (State.takeSequence_larder e.s))) h

/-- A rack that leaves gives its plates to COOL or to QUAR (R135, R136). -/
theorem rackLeaves {r : RackRec} {rest : List RackRec} {dst : Place} {e : Ev} (hr : e.s.dlu.racks = r :: rest)
    (hw : dst ≠ .warm) (hd : dst ≠ .wash) (h : A e.s) :
    P (match r.kind with
      | some kind => ((e.on (fun s => s.setRacks rest)).movement kind .wash dst r.count).1
      | none => e.on (fun s => s.setRacks rest)).s := by
  split
  next kind hk =>
    exact k.settled (Ev.movement_larder rfl ..) (State.move_pledges (s := e.s) (by decide) hw kind r.count)
      (fun hs room => hs.leave room hr hk hd) h
  next hk => exact k.settled rfl (State.setDlu_pledges ..) (fun hs _ => hs.leaveUnlabelled hr hk) h

theorem rackExit {e : Ev} (h : A e.s) : P e.rackExit.s := by
  unfold Ev.rackExit
  split
  · exact k.quiet (Ev.raise_larder ..) h
  next r rest hr =>
    have hleaves : ∀ bad : Bool, P (match r.kind with
        | some kind => ((e.on (fun s => s.setRacks rest)).movement kind .wash (if bad then .quar else .cool) r.count).1
        | none => e.on (fun s => s.setRacks rest)).s := by
      intro bad
      refine k.rackLeaves hr ?_ ?_ h <;> cases bad <;> decide
    simp only
    split
    · exact hleaves _
    · exact k.frame _ _ ((State.larder_of_bench (State.dishNotice_bench ..)).trans (Ev.raise_larder ..)) (hleaves _)

/-! ### A command taken by its block, from its own row or from a frame (R204, R205) -/

theorem takeCommand (i : Instr) {e : Ev} (h : A e.s) : P (Machine.takeCommand i e).1.s := by
  have hp := k.weaken _ h
  cases i with
  | writeStep x idx give im => exact k.stepRecord idx give im h
  | start x chan first => exact k.start x chan first hp
  | halt x chan => exact k.halt chan hp
  | releaseHold x chan => exact k.releaseHold chan hp
  | resetChannel x chan => exact k.resetChannel chan hp
  | setChannel x chan fallback => exact withIndex_keeps hp fun _ => k.onChan hp
  | setLoad x load im => exact k.setLoad load im hp
  | resetLoad x load => exact withIndex_keeps hp fun l => k.resetLoad l hp
  | testCutout x load => exact k.testCutout x load hp
  | setCap x cap => exact k.setBudget _ _ _ hp
  | setBudget x cap unmanaged interval => exact k.setBudget _ _ _ hp
  | inventorySet x kind stock => exact k.inventorySet kind stock h
  | returnPlates x kind n => exact k.returnPlates kind n h
  | requeue x kind n => exact k.requeue kind n h
  | discard x kind n => exact k.discard kind n h
  | warmerCount x warmer n => exact k.warmerCount warmer n h
  | setWarmer x warmer im => exact k.setWarmer warmer im h
  | reserve x kind n => exact k.reserve k.fair x kind n hp
  | cancelReservation x idx creation => exact k.cancelReservation x idx creation hp
  | labelRack x kind count => exact k.labelRack kind count h
  | setDish x im => exact k.setDish im hp
  | setBadge x badge address role zone => exact k.setBadge badge address role zone hp
  | badgeState x badge st => exact k.badgeState badge st hp
  | assignFunction x badge function => exact withIndex_keeps hp fun _ => k.same rfl hp
  | clearFunctions x badge => exact withIndex_keeps hp fun _ => k.same rfl hp
  | page x im => exact k.page x im hp
  | cancelPage x number => exact k.cancelPage x number hp
  | setPaging x im => exact k.setPaging im hp
  | clearFaults x groups => exact k.clearFaults groups hp
  | setFaultMask x masks => exact k.setFaultMask masks hp
  | subscribeFaults x groups => exact k.subscribeFaults x groups hp
  | setFaultPaging x paging => exact k.setFaultPaging paging hp
  | fetchNotice x => exact k.fetchNotice x hp
  | setPort x port short long action => exact k.setPort port short long action hp
  | _ => exact hp

theorem takeFrame (x : Station) (f : HeldFrame) {e : Ev} (h : A e.s) : P (e.takeFrame x f).s := by
  have h1 : A (e.on (fun s => s.setPort x { s.sp.ports[x] with outstanding := true })).s := k.held rfl h
  unfold Ev.takeFrame
  refine k.same rfl ?_
  unfold Ev.answerFrame
  split
  · split
    · exact k.takeCommand _ h1
    · exact k.weaken _ h1
    · exact k.weaken _ h1
  · exact k.weaken _ h1

/-- A frame that has arrived is taken, buffered or discarded; its arrival is no matter of the plates (R203, R204). -/
theorem completeFrame (x : Station) (body : List Byte) (checksum : BitVec 16) {e : Ev} (h : A e.s) :
    P (e.completeFrame x body checksum).s := by
  let f : HeldFrame := ⟨body, decide (frameCheck body = checksum)⟩
  let e0 : Ev := e.on (fun s => s.setPort x { s.sp.ports[x] with inFrame := false, soFar := [] })
  have h1 : A (if f.valid then e0.heard x else e0.raise .frameError x.val).s := by
    split
    · exact k.before _ _ (Ev.heard_larder x e0) (k.held rfl h)
    · exact k.before _ _ (Ev.raise_larder ..) (k.held rfl h)
  have h2 : ∀ g : Ev, A g.s → P (if (g.s.sp.ports[x]).outstanding = false then g.takeFrame x f
      else if (g.s.sp.ports[x]).buffered.isNone then g.on (fun s => s.setPort x { s.sp.ports[x] with buffered := some f })
      else g.raise .frameError x.val).s := by
    intro g hg
    split
    · exact k.takeFrame x f hg
    · split
      · exact k.weaken _ (k.held rfl hg)
      · exact k.quiet (Ev.raise_larder ..) hg
  exact h2 _ h1

theorem abandon (x : Station) {e : Ev} (h : A e.s) : P (e.abandon x).s :=
  k.quiet (Ev.raise_larder ..) (k.held rfl h)

theorem wholeFrame (x : Station) (body : List Byte) (checksum : BitVec 16) {e : Ev} (h : A e.s) :
    P (e.wholeFrame x body checksum).s := by
  unfold Ev.wholeFrame
  split
  · exact k.completeFrame x body checksum h
  · exact k.abandon x h

theorem byte (x : Station) (b : Byte) {e : Ev} (h : A e.s) : P (e.byte x b).s := by
  unfold Ev.byte
  simp only
  split
  · split
    · exact k.abandon x h
    · split
      · exact k.completeFrame x _ _ h
      · exact k.weaken _ (k.held rfl h)
  · split
    · exact k.weaken _ (k.held rfl h)
    · exact k.weaken _ h

theorem responseSent (x : Station) {e : Ev} (h : A e.s) : P (e.responseSent x).s := by
  unfold Ev.responseSent
  simp only
  split
  · split
    · exact k.takeFrame x _ (k.held rfl h)
    · exact k.weaken _ (k.held rfl h)
  · exact k.weaken _ h

/-! ### The silence timers (R208) -/

theorem shortExpiry (x : Station) {e : Ev} (h : A e.s) : P (e.shortExpiry x).s := by
  unfold Ev.shortExpiry
  simp only
  split
  · exact k.quiet (Ev.condHolds_larder ..) (k.held rfl h)
  · exact k.weaken _ h

theorem longExpiry (x : Station) {e : Ev} (h : A e.s) : P (e.longExpiry x).s := by
  unfold Ev.longExpiry
  simp only
  split
  · have h1 : P ((e.silent x).condHolds .lost x.val).s := k.quiet (Ev.condHolds_larder ..) (k.held rfl h)
    split
    · rw [Ev.hand_all]
      exact h1
    · exact h1
  · exact k.weaken _ h

/-! ### Rows and steps -/

theorem happens {e : Ev} {t : State} (h : P e.s) (ht : happened e = .next t) : P t := by
  cases ht
  exact k.finish h

theorem concludes {x : Station} {code : Byte} {r : Ev × Response} {t : State} (h : P r.1.s)
    (ht : concluded x code r = .next t) : P t := by
  cases ht
  exact k.frame r.1.finish _ rfl (k.finish h)

/-- A command or an event carried out. -/
theorem exec (i : Instr) {s t : State} (h : A s) (ht : Machine.exec i s = .next t) : P t := by
  have hp : P (Ev.start s).s := k.weaken _ h
  have hq : ∀ {e : Ev}, e.s.larder = s.larder → happened e = .next t → P t := fun he => k.happens (k.quiet he h)
  rcases hx : senderOf i with _ | x
  case some =>
    obtain ⟨code, hc⟩ := exec_command hx s
    exact k.concludes (k.takeCommand i h) (hc.symm.trans ht)
  case none =>
    cases i with
    | deviceReset => cases ht; exact k.frame (State.resetWith s.pins) _ rfl (k.reset s.pins)
    | commandFrame x body checksum => exact k.happens (k.wholeFrame x body checksum h) ht
    | byteGapExpiry x =>
      refine k.happens ?_ ht
      split
      · exact k.abandon x h
      · exact hp
    | responseSent x => exact k.happens (k.responseSent x h) ht
    | shortTimerExpiry x => exact k.happens (k.shortExpiry x h) ht
    | longTimerExpiry x => exact k.happens (k.longExpiry x h) ht
    | txDone number address ok => exact hq (Ev.txDone_larder ..) ht
    | ack address number => exact hq (Ev.ack_larder ..) ht
    | key address value => cases ht; exact k.quiet (State.key_larder ..) h
    | unreadableBaseFrame => cases ht; exact hp
    | transmissionTimerExpiry => exact hq (Ev.txTimeout_larder _) ht
    | retryExpiry => exact hq (Ev.retry_larder _) ht
    | deadlineExpiry number => exact hq (Ev.deadline_larder ..) ht
    | probeRisingEdge p elapsed => exact hq (Ev.risingEdge_larder ..) ht
    | probeFallingEdge p elapsed => exact hq (Ev.fallingEdge_larder ..) ht
    | captureOverflow p => exact hq (Ev.overflow_larder ..) ht
    | outputTick l => cases ht; exact k.quiet (State.setLoad_larder ..) h
    | cutoutTestCompletion l => exact hq (Ev.testCompletion_larder ..) ht
    | verificationExpiry => exact hq (Ev.verify_larder _) ht
    | intervalExpiry => exact hq (e := (Ev.start s).intervalExpiry) (Ev.allocate_larder .interval _) ht
    | encoderTransition w a b => exact k.happens (k.encoderPair w _ h) ht
    | loadSwitchChange w isOpen => cases ht; exact k.quiet (State.setWarmer_larder rfl) h
    | soakTimerExpiry w => exact k.happens (k.soakSecond w h) ht
    | stepTimerExpiry c => exact k.happens (k.stepSecond hp) ht
    | rackEntry => exact k.happens (k.rackEntry h) ht
    | rackExit => exact k.happens (k.rackExit h) ht
    | jamCheck => exact hq ((Ev.jamCheck_larder _).trans (State.second_larder s)) ht
    | conveyorPulse elapsed => exact hq ((Ev.conveyorPulse_larder _).trans (State.setConveyor_larder _ s)) ht
    | stallExpiry => exact hq (Ev.stallExpiry_larder _) ht
    | refreshExpiry => exact hq (Ev.refresh_larder _) ht
    | receivedByte x b => exact k.happens (k.byte x b h) ht
    | _ => cases hx

/-- Every step keeps a property of the plates that their changes keep. -/
theorem step {s t : State} (h : A s) (ht : Machine.step s = .next t) : P t := by
  unfold Machine.step at ht
  split at ht
  · cases ht; exact k.weaken _ h
  next i rest _ => exact k.exec i (k.before s { s with pending := rest } rfl h) ht

end PlateLaw

end Sys2Proof.Machine
end

section
/-! PROOFS. Every step keeps the pool sound (R85, R91, R129, R130). -/

namespace Sys2Proof.Machine

open Sys2Proof

theorem State.poolSound_of_still {s t : State} (h : t.still = s.still) (hs : s.PoolSound) : t.PoolSound := by
  obtain ⟨-, -, -, -, hpools, hwarmers, hdlu, -⟩ := State.still_eq h
  unfold State.PoolSound
  rw [hpools, hwarmers, hdlu]
  exact hs

/-- The COUNTs and CAPACITYs of the warmers are in range after one warmer is written that is (R91). -/
theorem warmers_fit_set {s : State} {w : WarmerIx} {r : WarmerRec}
    (h : ∀ v : WarmerIx, (s.ppu.warmers[v]).count ≤ (s.ppu.warmers[v]).capacity ∧ (s.ppu.warmers[v]).capacity ≤ 240)
    (hr : r.count ≤ r.capacity ∧ r.capacity ≤ 240) (v : WarmerIx) :
    ((s.ppu.warmers.set w r)[v]).count ≤ ((s.ppu.warmers.set w r)[v]).capacity ∧ ((s.ppu.warmers.set w r)[v]).capacity ≤ 240 := by
  by_cases hv : v = w
  · rw [hv, get_set_same]
    exact hr
  · rw [get_set_ne _ hv]
    exact h v

theorem State.PoolSound.setWarmer {s : State} {w : WarmerIx} {r : WarmerRec} (h : s.PoolSound)
    (hr : r.count ≤ r.capacity ∧ r.capacity ≤ 240) : (s.setWarmer w r).PoolSound := by
  obtain ⟨hpools, hwarmers, hrest⟩ := h
  exact ⟨hpools, warmers_fit_set hwarmers hr, hrest⟩

/-- Plates go to or from a warmer, and its COUNT is written within its CAPACITY (R91, R99, R100, R106). -/
theorem State.PoolSound.carry {s : State} {w : WarmerIx} {src dst : Place} {n m : Nat} (h : s.PoolSound) (room : s.PoolHeadroom)
    (hsd : src ≠ dst) (hs : src ≠ .wash) (hd : dst ≠ .wash) (hn : n ≤ (s.ppu.warmers[w]).capacity)
    (hm : m ≤ (s.ppu.warmers[w]).capacity) : (s.carry w src dst n m).PoolSound := by
  have hcap := (h.2.1 w).2
  exact (h.move room hsd hs hd (by omega)).setWarmer ⟨hm, hcap⟩

theorem poolSound_law :
    PlateLaw (fun _ => True) (fun s => s.PoolSound ∧ s.PoolHeadroom) (fun _ _ => State.PoolSound) State.PoolSound where
  frame := fun _ _ => State.poolSound_of_larder
  asks := fun _ _ _ _ => trivial
  ready := fun _ _ _ _ _ _ h => h
  free := fun _ _ h => h
  create := fun _ _ _ _ _ _ _ h => h
  fair := fun _ _ => trivial
  reset := resetWith_poolSound
  before := fun _ _ ht h => ⟨State.poolSound_of_larder ht h.1, State.poolHeadroom_of_larder ht h.2⟩
  weaken := fun _ h => h.1
  writeStep := fun _ _ _ _ h => h.1
  configure := fun _ _ _ _ _ hcount hcap h => h.1.setWarmer ⟨hcount, hcap⟩
  settle := fun _ _ _ hs h => hs h.1 h.2
  rise := fun w src n s t hsrc hfit ht h => State.poolSound_of_larder ht <| by
    rcases hsrc with rfl | rfl
    · exact h.1.carry h.2 (by decide) (by decide) (by decide) (by omega) hfit
    · exact h.1.carry h.2 (by decide) (by decide) (by decide) (by omega) hfit
  fall := fun w dst n s t hdst hn ht h => State.poolSound_of_larder ht <| by
    have hcount := (h.1.2.1 w).1
    rcases hdst with rfl | rfl
    · exact h.1.carry h.2 (by decide) (by decide) (by decide) (by omega) (by omega)
    · exact h.1.carry h.2 (by decide) (by decide) (by decide) (by omega) (by omega)
  charge := fun k e => State.poolSound_of_still (Ev.chargeDraw_still k e)
  revoke := fun _ k e => State.poolSound_of_still (Ev.revoke_still k e)

/-- Settles O29: soundness of the pool is a property that `PlateLaw` describes, from states with headroom, and every step keeps
such a property. -/
theorem everyStepKeepsThePool : Obligations.EveryStepKeepsThePool :=
  fun _ _ h room ht => poolSound_law.step ⟨h, room⟩ ht

end Sys2Proof.Machine
end

section
/-! PROOFS. The plates promised of a kind, as a sum over the reservation table, and what each change of one entry does to it (R108,
R109, R114 to R120). -/

namespace Sys2Proof.Machine

open Sys2Proof

/-- Two functions that differ at one place alone have sums that differ by what they are there. -/
theorem sum_change {ι : Type} [Fintype ι] [DecidableEq ι] {f g : ι → Nat} {i : ι} (h : ∀ j : ι, j ≠ i → f j = g j) :
    ∑ j, f j + g i = ∑ j, g j + f i := by
  have hrest : ∑ j ∈ Finset.univ.erase i, f j = ∑ j ∈ Finset.univ.erase i, g j :=
    Finset.sum_congr rfl fun j hj => h j (Finset.ne_of_mem_erase hj)
  have hf := Finset.add_sum_erase _ f (Finset.mem_univ i)
  have hg := Finset.add_sum_erase _ g (Finset.mem_univ i)
  omega

/-! ### The entries of a kind -/

/-- What an entry of the table has outstanding of a kind (R109). -/
def owed (k : Kind) : Option ResRec → Nat
  | some r => if r.kind = k then r.outstanding else 0
  | none => 0

/-- 1 for an entry of a kind that is READY or DRAWING (R108). -/
def promised (k : Kind) : Option ResRec → Nat
  | some r => if r.kind = k ∧ r.state ≠ .waiting then 1 else 0
  | none => 0

theorem ResRec.outstanding_waiting {r : ResRec} (h : r.state = .waiting) : r.outstanding = 0 := by
  unfold ResRec.outstanding
  rw [h]

theorem ResRec.outstanding_promised {r : ResRec} (h : r.state ≠ .waiting) : r.outstanding = r.count - r.drawn := by
  unfold ResRec.outstanding
  split
  next hw => exact absurd hw h
  · rfl
  · rfl

theorem Ppu.mem_live {p : Ppu} {k : Kind} {i : ResIx} {r : ResRec} (h : (i, r) ∈ p.live k) :
    p.entries[i] = some r ∧ r.kind = k := by
  obtain ⟨j, -, hj⟩ := List.mem_filterMap.mp h
  split at hj
  next q hq =>
    split at hj
    next hk =>
      cases hj
      exact ⟨hq, hk⟩
    next => cases hj
  next => cases hj

theorem Ppu.sumOutstanding_waiting {p : Ppu} {k : Kind} (h : ∀ x ∈ p.live k, x.2.state = .waiting) : p.sumOutstanding k = 0 :=
  List.sum_eq_zero fun n hn => by
    obtain ⟨x, hx, rfl⟩ := List.mem_map.mp hn
    exact ResRec.outstanding_waiting (h x hx)

/-- A sum over the AGE LIST is one over the table, where the AGE LIST is right and free entries count nothing (R108). -/
theorem Ppu.AgeListRight.sum {p : Ppu} (h : p.AgeListRight) {f : Option ResRec → Nat} (hf : f none = 0) :
    (p.ageList.map (fun i => f p.entries[i])).sum = ∑ i : ResIx, f p.entries[i] := by
  rw [← List.sum_toFinset _ h.1]
  refine Finset.sum_subset (Finset.subset_univ _) fun i _ hi => ?_
  rw [List.mem_toFinset, h.2 i, Bool.not_eq_true, Option.isSome_eq_false_iff, Option.isNone_iff_eq_none] at hi
  rw [hi, hf]

theorem Ppu.sumOutstanding_ageList (p : Ppu) (k : Kind) :
    p.sumOutstanding k = (p.ageList.map (fun i => owed k p.entries[i])).sum := by
  unfold Ppu.sumOutstanding Ppu.live
  induction p.ageList with
  | nil => rfl
  | cons i l ih =>
    rw [List.filterMap_cons, List.map_cons, List.sum_cons, ← ih]
    rcases p.entries[i] with _ | r
    · exact (Nat.zero_add _).symm
    · by_cases hk : r.kind = k
      · simp [owed, hk]
      · simp [owed, hk]

theorem Ppu.sumOutstanding_eq {p : Ppu} (h : p.AgeListRight) (k : Kind) :
    p.sumOutstanding k = ∑ i : ResIx, owed k p.entries[i] := by
  rw [Ppu.sumOutstanding_ageList, h.sum rfl]

/-- How many entries of a kind are READY or DRAWING. -/
def Ppu.promises (p : Ppu) (k : Kind) : Nat := ∑ i : ResIx, promised k p.entries[i]

theorem Ppu.promises_le {p : Ppu} (h : p.AgeListRight) (k : Kind) : p.promises k ≤ p.ageList.length := by
  rw [Ppu.promises, ← h.sum (f := promised k) rfl]
  refine (List.sum_le_card_nsmul _ 1 fun n hn => ?_).trans (by simp)
  obtain ⟨i, -, rfl⟩ := List.mem_map.mp hn
  unfold promised
  split
  · split <;> decide
  · exact Nat.zero_le 1

/-! ### One entry of the table is written -/

section Write
variable {p : Ppu} {i : ResIx}

/-- A sum over the table, after one entry of it is written. -/
theorem table_sum_set (f : Option ResRec → Nat) (v : Vector (Option ResRec) 16) (i : ResIx) (x : Option ResRec) :
    ∑ j : ResIx, f (v.set i x)[j] + f v[i] = ∑ j : ResIx, f v[j] + f x := by
  have h := sum_change (f := fun j : ResIx => f (v.set i x)[j]) (g := fun j => f v[j]) (i := i)
    fun j hj => by rw [get_set_ne v hj]
  rwa [get_set_same] at h

/-- A live entry is written again. -/
def Ppu.rewrite (p : Ppu) (i : ResIx) (r : ResRec) : Ppu := { p with entries := p.entries.set i (some r) }

theorem Ppu.AgeListRight.rewrite (h : p.AgeListRight) {q : ResRec} (hi : p.entries[i] = some q) (r : ResRec) :
    (p.rewrite i r).AgeListRight := by
  refine ⟨h.1, fun j => ?_⟩
  show j ∈ p.ageList ↔ _
  rw [h.2 j]
  by_cases hj : j = i
  · subst hj
    rw [hi, Ppu.rewrite, get_set_same]
    exact Iff.rfl
  · rw [Ppu.rewrite, get_set_ne _ hj]

theorem Ppu.AgeListRight.freed (h : p.AgeListRight) (i : ResIx) : (p.freed i).AgeListRight := by
  refine ⟨h.1.filter _, fun j => ?_⟩
  show j ∈ p.ageList.filter _ ↔ ((p.entries.set i none)[j]).isSome = true
  rw [List.mem_filter, h.2 j, decide_eq_true_iff]
  by_cases hj : j = i
  · subst hj
    rw [get_set_same]
    exact iff_of_false (fun hne => hne.2 rfl) Bool.false_ne_true
  · rw [get_set_ne _ hj]
    exact and_iff_left hj

theorem Ppu.AgeListRight.withEntry (h : p.AgeListRight) (hi : p.freeEntry = some i) (r : ResRec) :
    (p.withEntry i r).AgeListRight := by
  have hn := Ppu.not_mem_ageList hi h
  refine ⟨?_, fun j => ?_⟩
  · exact List.nodup_append.mpr ⟨h.1, List.nodup_singleton i, fun a ha b hb hab =>
      hn (by rw [← List.mem_singleton.mp hb, ← hab]; exact ha)⟩
  · show j ∈ p.ageList ++ [i] ↔ ((p.entries.set i (some r))[j]).isSome = true
    rw [List.mem_append, List.mem_singleton, h.2 j]
    by_cases hj : j = i
    · subst hj
      rw [get_set_same]
      exact iff_of_true (.inr rfl) rfl
    · rw [get_set_ne _ hj]
      exact or_iff_left hj

theorem Ppu.sumOutstanding_rewrite (h : p.AgeListRight) {q : ResRec} (hi : p.entries[i] = some q) (r : ResRec) (k : Kind) :
    (p.rewrite i r).sumOutstanding k + owed k (some q) = p.sumOutstanding k + owed k (some r) := by
  rw [Ppu.sumOutstanding_eq h, Ppu.sumOutstanding_eq (h.rewrite hi r), ← hi]
  exact table_sum_set (owed k) p.entries i (some r)

theorem Ppu.sumOutstanding_freed (h : p.AgeListRight) (i : ResIx) (k : Kind) :
    (p.freed i).sumOutstanding k + owed k p.entries[i] = p.sumOutstanding k := by
  rw [Ppu.sumOutstanding_eq h, Ppu.sumOutstanding_eq (h.freed i)]
  exact (table_sum_set (owed k) p.entries i none).trans (Nat.add_zero _)

theorem Ppu.promises_rewrite {q : ResRec} (hi : p.entries[i] = some q) (r : ResRec) (k : Kind) :
    (p.rewrite i r).promises k + promised k (some q) = p.promises k + promised k (some r) := by
  rw [← hi]
  exact table_sum_set (promised k) p.entries i (some r)

theorem Ppu.promises_freed (p : Ppu) (i : ResIx) (k : Kind) :
    (p.freed i).promises k + promised k p.entries[i] = p.promises k :=
  (table_sum_set (promised k) p.entries i none).trans (Nat.add_zero _)

/-- The other live entries of a kind are those of the table without this one (R118). -/
theorem Ppu.live_freed (p : Ppu) (i : ResIx) (k : Kind) : (p.freed i).live k = (p.live k).filter (fun e => decide (e.1 ≠ i)) := by
  unfold Ppu.live Ppu.freed
  simp only
  rw [List.filterMap_filter, List.filter_filterMap]
  refine List.filterMap_congr fun j _ => ?_
  by_cases hj : j = i
  · subst hj
    rcases p.entries[j] with _ | r
    · simp
    · by_cases hk : r.kind = k <;> simp [hk, Option.filter]
  · rw [get_set_ne _ hj]
    rcases p.entries[j] with _ | r
    · simp
    · by_cases hk : r.kind = k <;> simp [hj, hk, Option.filter]

theorem Ppu.roomFor_eq (p : Ppu) (i : ResIx) (k : Kind) :
    p.roomFor i k = (p.pools[k]).warm - (p.freed i).sumOutstanding k := by
  unfold Ppu.roomFor Ppu.sumOutstanding
  rw [Ppu.live_freed]

end Write

/-! ### Whom a draw is charged to, and whom a revocation takes (R116, R117) -/

theorem Ppu.chargeTo_some {p : Ppu} {k : Kind} {i : ResIx} {r : ResRec} (h : p.chargeTo k = some (i, r)) :
    p.entries[i] = some r ∧ r.kind = k ∧ r.state ≠ .waiting := by
  unfold Ppu.chargeTo at h
  split at h
  next x hx =>
    cases h
    obtain ⟨hi, hk⟩ := Ppu.mem_live (List.mem_of_find?_eq_some hx)
    have hs : r.state = .drawing := by simpa using List.find?_some hx
    exact ⟨hi, hk, fun hw => by rw [hw] at hs; cases hs⟩
  next =>
    obtain ⟨hi, hk⟩ := Ppu.mem_live (List.mem_of_find?_eq_some h)
    have hs : r.state = .ready := by simpa using List.find?_some h
    exact ⟨hi, hk, fun hw => by rw [hw] at hs; cases hs⟩

theorem ResState.waiting_of {st : ResState} (hd : st ≠ .drawing) (hr : st ≠ .ready) : st = .waiting := by
  cases st
  · rfl
  · exact absurd rfl hr
  · exact absurd rfl hd

theorem Ppu.chargeTo_none {p : Ppu} {k : Kind} (h : p.chargeTo k = none) : p.sumOutstanding k = 0 := by
  unfold Ppu.chargeTo at h
  split at h
  · cases h
  next hd =>
    refine Ppu.sumOutstanding_waiting fun x hx => ResState.waiting_of ?_ ?_
    · exact fun hs => List.find?_eq_none.mp hd x hx (decide_eq_true hs)
    · exact fun hs => List.find?_eq_none.mp h x hx (decide_eq_true hs)

/-- The newest entry of a kind in a state. -/
theorem Ppu.newest_some {p : Ppu} {k : Kind} {st : ResState} {i : ResIx} {r : ResRec}
    (h : (p.live k).reverse.find? (fun x => decide (x.2.state = st)) = some (i, r)) :
    p.entries[i] = some r ∧ r.kind = k ∧ r.state = st := by
  obtain ⟨hi, hk⟩ := Ppu.mem_live (List.mem_reverse.mp (List.mem_of_find?_eq_some h))
  exact ⟨hi, hk, by simpa using List.find?_some h⟩

theorem Ppu.newest_none {p : Ppu} {k : Kind} {st : ResState}
    (h : (p.live k).reverse.find? (fun x => decide (x.2.state = st)) = none) : ∀ x ∈ p.live k, x.2.state ≠ st :=
  fun x hx hs => List.find?_eq_none.mp h x (List.mem_reverse.mpr hx) (decide_eq_true hs)

end Sys2Proof.Machine
end

section
/-! PROOFS. The law of R117 with some slack, and what keeps it: the changes of one entry, of WARM with a warmer's COUNT, the charge of
a draw and a revocation (R91, R108, R114 to R118). -/

namespace Sys2Proof.Machine

open Sys2Proof

/-- What a warmer that holds this has of a kind. -/
def heldOf (k : Kind) (x : Kind × Nat × Nat) : Nat := if x.1 = k then x.2.2 else 0

theorem heldOf_holds (k : Kind) (r : WarmerRec) : heldOf k r.holds = if r.kind = k then r.count else 0 := rfl

theorem heldOf_count (k : Kind) (r : WarmerRec) (n : Nat) :
    heldOf k ({ r with count := n } : WarmerRec).holds = if r.kind = k then n else 0 := rfl

/-- What `State.ReservationsSound` says, with the law of R117 broken by no more than some slack of each kind. -/
structure State.Promises (slack : Kind → Nat) (s : State) : Prop where
  age : s.ppu.AgeListRight
  warm : ∀ k : Kind, (s.ppu.pools[k]).warm = ∑ w : WarmerIx, heldOf k (s.ppu.warmers[w]).holds
  law : ∀ k : Kind, s.ppu.sumOutstanding k ≤ (s.ppu.pools[k]).warm + slack k
  left : ∀ (i : ResIx) (r : ResRec), s.ppu.entries[i] = some r → r.drawn < r.count
  fit : ∀ w : WarmerIx, (s.ppu.warmers[w]).holds.2.2 ≤ (s.ppu.warmers[w]).holds.2.1 ∧ (s.ppu.warmers[w]).holds.2.1 ≤ 240
  asks : ∀ i : StepIx, (s.fse.steps[i]).asks.1 = .waitPlates → 1 ≤ (s.fse.steps[i]).asks.2

theorem State.reservationsSound_iff (s : State) : s.ReservationsSound ↔ s.Promises fun _ => 0 := by
  have hwarm : ∀ k : Kind, ((List.finRange 8).map (fun w : WarmerIx =>
      if (s.ppu.warmers[w]).kind = k then (s.ppu.warmers[w]).count else 0)).sum = ∑ w : WarmerIx, heldOf k (s.ppu.warmers[w]).holds :=
    fun k => (Fin.sum_univ_def _).symm
  constructor
  · rintro ⟨hage, hlaw, hleft, hfit, hasks⟩
    exact ⟨hage, fun k => (hlaw k).1.trans (hwarm k), fun k => (hlaw k).2, hleft, hfit, hasks⟩
  · rintro ⟨hage, hw, hlaw, hleft, hfit, hasks⟩
    exact ⟨hage, fun k => ⟨(hw k).trans (hwarm k).symm, hlaw k⟩, hleft, hfit, hasks⟩

/-- Slack of one kind alone. -/
def slackOf (n : Nat) (k j : Kind) : Nat := if j = k then n else 0

namespace State.Promises

variable {slack : Kind → Nat} {s : State}

/-! ### What the law reads -/

theorem of_pledges {t : State} (ht : t.pledges = s.pledges) (h : s.Promises slack) : t.Promises slack := by
  simp only [State.pledges, Prod.mk.injEq, funext_iff] at ht
  obtain ⟨hwarm, hwarmers, ⟨hentries, hage⟩, hsteps⟩ := ht
  have hlive : ∀ k : Kind, t.ppu.live k = s.ppu.live k := fun k => by rw [Ppu.live, Ppu.live, hentries, hage]
  refine ⟨?_, fun k => ?_, fun k => ?_, fun i r hi => ?_, fun w => ?_, fun i => ?_⟩
  · rw [Ppu.AgeListRight, hentries, hage]
    exact h.age
  · rw [hwarm, h.warm k]
    exact Finset.sum_congr rfl fun w _ => by rw [hwarmers w]
  · rw [hwarm, Ppu.sumOutstanding, hlive]
    exact h.law k
  · rw [hentries] at hi
    exact h.left i r hi
  · rw [hwarmers w]
    exact h.fit w
  · rw [hsteps i]
    exact h.asks i

theorem of_larder {t : State} (ht : t.larder = s.larder) (h : s.Promises slack) : t.Promises slack :=
  h.of_pledges (State.pledges_of_larder ht)

/-- The law may be stated with the slack that it has. -/
theorem of_law {slack' : Kind → Nat} (h : s.Promises slack)
    (hlaw : ∀ k : Kind, s.ppu.sumOutstanding k ≤ (s.ppu.pools[k]).warm + slack' k) : s.Promises slack' :=
  ⟨h.age, h.warm, hlaw, h.left, h.fit, h.asks⟩

/-- The ready plates of a kind are among the WARM ones (R85, R91, R109). -/
theorem readyWarm_le (h : s.Promises slack) (k : Kind) : s.ppu.readyWarm k ≤ (s.ppu.pools[k]).warm := by
  rw [h.warm k, Ppu.readyWarm, ← Fin.sum_univ_def]
  refine Finset.sum_le_sum fun w _ => ?_
  simp only
  split
  next hw => exact (if_pos hw.1).ge
  next => exact Nat.zero_le _

/-- WARM of a kind is no more than eight warmers hold (R91). -/
theorem warm_le (h : s.Promises slack) (k : Kind) : (s.ppu.pools[k]).warm ≤ 1920 := by
  rw [h.warm k]
  refine (Finset.sum_le_sum (g := fun _ => 240) fun w _ => ?_).trans (by simp)
  obtain ⟨hcount, hcap⟩ := h.fit w
  unfold heldOf
  split <;> omega

/-- A warmer holds no more than WARM of its kind (R85, R91). -/
theorem count_le_warm (h : s.Promises slack) (w : WarmerIx) :
    (s.ppu.warmers[w]).count ≤ (s.ppu.pools[(s.ppu.warmers[w]).kind]).warm := by
  rw [h.warm]
  refine Eq.trans_le ?_ (Finset.single_le_sum (f := fun v : WarmerIx => heldOf (s.ppu.warmers[w]).kind (s.ppu.warmers[v]).holds)
    (fun _ _ => Nat.zero_le _) (Finset.mem_univ w))
  exact (if_pos rfl).symm

/-! ### One entry of the table (R111, R114, R116, R120) -/

/-- A live entry is written again, with plates left to draw. -/
theorem rewrite {slack' : Kind → Nat} {i : ResIx} {q r : ResRec} (h : s.Promises slack) (hi : s.ppu.entries[i] = some q)
    (hk : r.kind = q.kind) (hleft : r.drawn < r.count) (hslack : ∀ k : Kind, k ≠ q.kind → slack k ≤ slack' k)
    (hlaw : s.ppu.sumOutstanding q.kind + r.outstanding ≤ (s.ppu.pools[q.kind]).warm + slack' q.kind + q.outstanding) :
    (s.setEntry i (some r)).Promises slack' := by
  refine ⟨h.age.rewrite hi r, h.warm, fun k => ?_, fun j p hj => ?_, h.fit, h.asks⟩
  · have hsum := Ppu.sumOutstanding_rewrite h.age hi r k
    show (s.ppu.rewrite i r).sumOutstanding k ≤ (s.ppu.pools[k]).warm + slack' k
    by_cases hkq : k = q.kind
    · subst hkq
      simp only [owed, hk, if_true] at hsum
      omega
    · have h1 := h.law k
      have h2 := hslack k hkq
      simp only [owed, hk, if_neg (Ne.symm hkq)] at hsum
      omega
  · by_cases hji : j = i
    · subst hji
      rw [State.setEntry_ppu_entries, get_set_same] at hj
      cases hj
      exact hleft
    · rw [State.setEntry_ppu_entries, get_set_ne _ hji] at hj
      exact h.left j p hj

/-- An entry leaves the table. -/
theorem freed {slack' : Kind → Nat} {i : ResIx} (h : s.Promises slack)
    (hlaw : ∀ k : Kind, s.ppu.sumOutstanding k ≤ (s.ppu.pools[k]).warm + slack' k + owed k s.ppu.entries[i]) :
    ({ s with ppu := s.ppu.freed i } : State).Promises slack' := by
  refine ⟨h.age.freed i, h.warm, fun k => ?_, fun j p hj => ?_, h.fit, h.asks⟩
  · have hsum := Ppu.sumOutstanding_freed h.age i k
    have hk := hlaw k
    show (s.ppu.freed i).sumOutstanding k ≤ (s.ppu.pools[k]).warm + slack' k
    omega
  · change (s.ppu.entries.set i none)[j] = some p at hj
    by_cases hji : j = i
    · subst hji
      rw [get_set_same] at hj
      cases hj
    · rw [get_set_ne _ hji] at hj
      exact h.left j p hj

/-- An entry that waits joins the table. -/
theorem withEntry {i : ResIx} {r : ResRec} (h : s.Promises slack) (hi : s.ppu.freeEntry = some i) (hr : r.state = .waiting)
    (hleft : r.drawn < r.count) : ({ s with ppu := s.ppu.withEntry i r } : State).Promises slack := by
  refine ⟨h.age.withEntry hi r, h.warm, fun k => ?_, fun j p hj => ?_, h.fit, h.asks⟩
  · show (s.ppu.withEntry i r).sumOutstanding k ≤ _
    rw [Ppu.sumOutstanding_withEntry (Ppu.not_mem_ageList hi h.age) hr]
    exact h.law k
  · change (s.ppu.entries.set i (some r))[j] = some p at hj
    by_cases hji : j = i
    · subst hji
      rw [get_set_same] at hj
      cases hj
      exact hleft
    · rw [get_set_ne _ hji] at hj
      exact h.left j p hj

/-! ### Warmers and step records (R91, R93, R99, R100, R106) -/

theorem setStep {i : StepIx} {r : StepRec} (h : s.Promises slack) (hr : r.kind = .waitPlates → 1 ≤ r.count) :
    (s.setStep i r).Promises slack := by
  refine ⟨h.age, h.warm, h.law, h.left, h.fit, fun j => ?_⟩
  rw [State.setStep_fse_steps]
  by_cases hj : j = i
  · rw [hj, get_set_same]
    exact hr
  · rw [get_set_ne _ hj]
    exact h.asks j

/-- A warmer is written, and WARM of each kind with it. -/
theorem refilled {slack' : Kind → Nat} {t : State} {w : WarmerIx} {r : WarmerRec} (h : s.Promises slack)
    (hentries : t.ppu.entries = s.ppu.entries) (hage : t.ppu.ageList = s.ppu.ageList) (hsteps : t.fse = s.fse)
    (hwarmers : t.ppu.warmers = s.ppu.warmers.set w r) (hfit : r.count ≤ r.capacity ∧ r.capacity ≤ 240)
    (hwarm : ∀ k : Kind, (t.ppu.pools[k]).warm + heldOf k (s.ppu.warmers[w]).holds = (s.ppu.pools[k]).warm + heldOf k r.holds)
    (hlaw : ∀ k : Kind, s.ppu.sumOutstanding k ≤ (t.ppu.pools[k]).warm + slack' k) : t.Promises slack' := by
  have hlive : ∀ k : Kind, t.ppu.live k = s.ppu.live k := fun k => by rw [Ppu.live, Ppu.live, hentries, hage]
  refine ⟨?_, fun k => ?_, fun k => ?_, fun i q hi => ?_, fun v => ?_, fun i => ?_⟩
  · rw [Ppu.AgeListRight, hentries, hage]
    exact h.age
  · have hsum := sum_change (f := fun v : WarmerIx => heldOf k (s.ppu.warmers.set w r)[v].holds)
      (g := fun v => heldOf k (s.ppu.warmers[v]).holds) (i := w) fun v hv => by rw [get_set_ne _ hv]
    simp only [get_set_same] at hsum
    have h1 := hwarm k
    have h2 := h.warm k
    rw [hwarmers]
    omega
  · rw [Ppu.sumOutstanding, hlive]
    exact hlaw k
  · rw [hentries] at hi
    exact h.left i q hi
  · rw [hwarmers]
    exact warmers_fit_set h.fit hfit v
  · rw [hsteps]
    exact h.asks i

/-- SET WARMER changes what a warmer may hold, and its kind where it holds nothing (R93). -/
theorem configured {w : WarmerIx} {r : WarmerRec} (h : s.Promises slack) (hcount : r.count = (s.ppu.warmers[w]).count)
    (hkind : r.kind = (s.ppu.warmers[w]).kind ∨ r.count = 0) (hfit : r.count ≤ r.capacity ∧ r.capacity ≤ 240) :
    (s.setWarmer w r).Promises slack := by
  refine h.refilled rfl rfl rfl rfl hfit (fun k => ?_) h.law
  have hheld : heldOf k (s.ppu.warmers[w]).holds = heldOf k r.holds := by
    rw [heldOf_holds, heldOf_holds, ← hcount]
    rcases hkind with hk | hz
    · rw [hk]
    · simp only [hz, ite_self]
  rw [hheld]
  rfl

/-- Plates come to a warmer (R100, R106). -/
theorem rise {w : WarmerIx} {src : Place} {n : Nat} (h : s.Promises slack) (hsrc : src ≠ .warm)
    (hfit : (s.ppu.warmers[w]).count + n ≤ (s.ppu.warmers[w]).capacity) :
    (s.carry w src .warm n ((s.ppu.warmers[w]).count + n)).Promises slack := by
  have hcap := h.fit w
  have hmax := h.warm_le (s.ppu.warmers[w]).kind
  have hwarm : ((s.ppu.pools[(s.ppu.warmers[w]).kind]).move src .warm n).1.warm =
      fitCount ((s.ppu.pools[(s.ppu.warmers[w]).kind]).warm + n) := PoolRec.move_at_dst hsrc
  rw [fitCount_fits (by have := hcap.2; simp only [WarmerRec.holds] at this; omega)] at hwarm
  have hpool : ∀ k : Kind, ((s.carry w src .warm n ((s.ppu.warmers[w]).count + n)).ppu.pools[k]).warm =
      (s.ppu.pools[k]).warm + if (s.ppu.warmers[w]).kind = k then n else 0 := by
    intro k
    show ((s.ppu.pools.set (s.ppu.warmers[w]).kind _)[k]).warm = _
    by_cases hk : k = (s.ppu.warmers[w]).kind
    · rw [hk, get_set_same, if_pos rfl]
      exact hwarm
    · rw [get_set_ne _ hk, if_neg (Ne.symm hk), Nat.add_zero]
  refine h.refilled (r := { s.ppu.warmers[w] with count := (s.ppu.warmers[w]).count + n }) rfl rfl rfl rfl ⟨hfit, hcap.2⟩
    (fun k => ?_) fun k => ?_
  · rw [hpool, heldOf_holds k s.ppu.warmers[w], heldOf_count]
    split <;> omega
  · have hlaw := h.law k
    rw [hpool]
    omega

/-- Plates leave a warmer: the law may then be broken by as many (R99, R106, R116, R117). -/
theorem fall {w : WarmerIx} {dst : Place} {n : Nat} (h : s.Promises fun _ => 0) (hdst : dst ≠ .warm)
    (hn : n ≤ (s.ppu.warmers[w]).count) :
    (s.carry w .warm dst n ((s.ppu.warmers[w]).count - n)).Promises (slackOf n (s.ppu.warmers[w]).kind) := by
  have hcap := h.fit w
  have hcount := h.count_le_warm w
  have hwarm : ((s.ppu.pools[(s.ppu.warmers[w]).kind]).move .warm dst n).1.warm =
      (s.ppu.pools[(s.ppu.warmers[w]).kind]).warm - n := PoolRec.move_at_src hdst.symm
  have hpool : ∀ k : Kind, ((s.carry w .warm dst n ((s.ppu.warmers[w]).count - n)).ppu.pools[k]).warm +
      (if (s.ppu.warmers[w]).kind = k then n else 0) = (s.ppu.pools[k]).warm := by
    intro k
    show ((s.ppu.pools.set (s.ppu.warmers[w]).kind _)[k]).warm + _ = _
    by_cases hk : k = (s.ppu.warmers[w]).kind
    · rw [hk, get_set_same, if_pos rfl, hwarm]
      omega
    · rw [get_set_ne _ hk, if_neg (Ne.symm hk), Nat.add_zero]
  refine h.refilled (r := { s.ppu.warmers[w] with count := (s.ppu.warmers[w]).count - n }) rfl rfl rfl rfl
    ⟨(Nat.sub_le _ _).trans hcap.1, hcap.2⟩ (fun k => ?_) fun k => ?_
  · have hk := hpool k
    rw [heldOf_holds k s.ppu.warmers[w], heldOf_count]
    split at hk
    next hkind => rw [if_pos hkind, if_pos hkind]; omega
    next hkind => rw [if_neg hkind, if_neg hkind]; omega
  · have hk := hpool k
    have hlaw := h.law k
    simp only [slackOf, eq_comm (a := k)]
    omega

end State.Promises

end Sys2Proof.Machine
end

section
/-! PROOFS. A draw is charged and a kind is revoked so that the law of R117 holds again; with that, every step keeps it. -/

namespace Sys2Proof.Machine

open Sys2Proof

/-- The engine's acts on the reservation table keep the law: an entry judged READY is covered by the ready plates (R114). -/
theorem promises_engine : EngineLaw (fun n => 1 ≤ n) (State.Promises fun _ => 0) where
  frame := fun _ _ ht h => h.of_larder ht
  asks := fun i _ h hk => h.asks i hk
  ready := fun i r s hi hr hroom h => by
    have hwarm := h.readyWarm_le r.kind
    have hout : ({ r with state := .ready } : ResRec).outstanding = r.count - r.drawn := rfl
    refine h.rewrite hi rfl (h.left i r hi) (fun _ _ => Nat.le_refl 0) ?_
    omega
  free := fun i s h => h.freed fun k => (h.law k).trans (Nat.le_add_right _ _)
  create := fun i r s hi hr hdrawn hcount h => h.withEntry hi hr (by omega)

/-- What an end leaves of the plates: the entry is free (R120). -/
theorem Ev.endEntry_larder (i : ResIx) (r : ResRec) (o : ResEnd) (tell : Bool) (e : Ev) :
    (e.endEntry i r o tell).s.larder = ({ e.s with ppu := e.s.ppu.freed i } : State).larder := by
  unfold Ev.endEntry
  simp only
  split
  · split
    · exact State.resNotice_larder ..
    · rfl
  · rfl

theorem owed_self {i : ResIx} {r : ResRec} {p : Ppu} (hi : p.entries[i] = some r) : owed r.kind p.entries[i] = r.outstanding := by
  rw [hi]
  exact if_pos rfl

/-! ### The charge of a draw (R116) -/

/-- A draw leaves the law broken by one plate at most, and the entry it is charged to has one plate less to draw; where no entry
is promised plates there is none to break it. -/
theorem Ev.chargeDraw_promises {k : Kind} {e : Ev} (h : e.s.Promises (slackOf 1 k)) : (e.chargeDraw k).s.Promises fun _ => 0 := by
  have hother : ∀ j : Kind, j ≠ k → e.s.ppu.sumOutstanding j ≤ (e.s.ppu.pools[j]).warm := fun j hj => by
    have hlaw := h.law j
    rwa [slackOf, if_neg hj] at hlaw
  have hself : e.s.ppu.sumOutstanding k ≤ (e.s.ppu.pools[k]).warm + 1 := by
    have hlaw := h.law k
    rwa [slackOf, if_pos rfl] at hlaw
  unfold Ev.chargeDraw
  split
  next hnone =>
    refine h.of_law fun j => ?_
    by_cases hj : j = k
    · rw [hj, Ppu.chargeTo_none hnone]
      exact Nat.zero_le _
    · exact hother j hj
  next i r hsome =>
    obtain ⟨hi, rfl, hstate⟩ := Ppu.chargeTo_some hsome
    have hout := ResRec.outstanding_promised hstate
    have hleft := h.left i r hi
    simp only
    split
    · refine promises_engine.afterEnd ((State.Promises.freed h fun j => ?_).of_larder (Ev.endEntry_larder ..))
      by_cases hj : j = r.kind
      · rw [hj, owed_self hi]
        omega
      · exact (hother j hj).trans (Nat.le_add_right _ _)
    next hmore =>
      refine h.rewrite hi rfl (Nat.lt_of_not_le hmore) (fun j hj => by rw [slackOf, if_neg hj]) ?_
      have hnew : ({ r with drawn := r.drawn + 1, state := .drawing } : ResRec).outstanding = r.count - (r.drawn + 1) := rfl
      omega

/-! ### Revocation (R117, R118) -/

/-- The law may be broken of one kind. -/
def State.Broken (k : Kind) (s : State) : Prop := ∃ n : Nat, s.Promises (slackOf n k)

theorem State.Promises.broken {k : Kind} {n : Nat} {s : State} (h : s.Promises (slackOf n k)) : s.Broken k := ⟨n, h⟩

theorem State.Broken.mended {k : Kind} {s : State} (h : s.Broken k) (hlaw : s.ppu.LawHolds k) : s.Promises fun _ => 0 := by
  obtain ⟨n, hs⟩ := h
  refine hs.of_law fun j => ?_
  by_cases hj : j = k
  · rw [hj]
    exact hlaw
  · have hj' := hs.law j
    rwa [slackOf, if_neg hj] at hj'

theorem State.Broken.of_larder {k : Kind} {s t : State} (ht : t.larder = s.larder) (h : s.Broken k) : t.Broken k :=
  h.imp fun _ hs => hs.of_larder ht

/-- A READY entry returns to WAITING (R117). -/
theorem State.Broken.wait {i : ResIx} {r : ResRec} {s : State} (h : s.Broken r.kind) (hi : s.ppu.entries[i] = some r) :
    (s.setEntry i (some { r with state := .waiting })).Broken r.kind := by
  obtain ⟨n, hs⟩ := h
  refine ⟨n, hs.rewrite hi rfl (hs.left i r hi) (fun _ _ => Nat.le_refl _) ?_⟩
  have hlaw := hs.law r.kind
  have hnew : ({ r with state := .waiting } : ResRec).outstanding = 0 := rfl
  omega

theorem State.Broken.freed {k : Kind} {s : State} (h : s.Broken k) (i : ResIx) :
    ({ s with ppu := s.ppu.freed i } : State).Broken k :=
  h.imp fun _ hs => hs.freed fun j => (hs.law j).trans (Nat.le_add_right _ _)

/-- A DRAWING entry is left what the others leave of WARM, where they leave any (R118). -/
theorem State.Broken.shorten {i : ResIx} {r : ResRec} {s : State} (h : s.Broken r.kind) (hi : s.ppu.entries[i] = some r)
    (hr : r.state = .drawing) (hroom : 0 < s.ppu.roomFor i r.kind) :
    (s.setEntry i (some { r with count := r.drawn + s.ppu.roomFor i r.kind, shortened := true })).Promises fun _ => 0 := by
  obtain ⟨n, hs⟩ := h
  have hothers := Ppu.sumOutstanding_freed hs.age i r.kind
  rw [owed_self hi] at hothers
  have hnew : ({ r with count := r.drawn + s.ppu.roomFor i r.kind, shortened := true } : ResRec).outstanding =
      s.ppu.roomFor i r.kind := by
    rw [ResRec.outstanding_promised (by rw [hr]; decide)]
    exact Nat.add_sub_cancel_left ..
  refine hs.rewrite hi rfl (Nat.lt_add_of_pos_right hroom) (fun j hj => by rw [slackOf, if_neg hj]) ?_
  rw [hnew, Ppu.roomFor_eq] at *
  omega

theorem promised_one {r : ResRec} (h : r.state ≠ .waiting) : promised r.kind (some r) = 1 := if_pos ⟨rfl, h⟩

/-- Where nothing of a kind is promised the law holds of it. -/
theorem Ppu.lawHolds_of_promises {p : Ppu} (h : p.AgeListRight) {k : Kind} (hp : p.promises k = 0) : p.LawHolds k := by
  have howed : ∀ x : Option ResRec, promised k x = 0 → owed k x = 0 := by
    intro x hx
    rcases x with _ | r
    · rfl
    · by_cases hk : r.kind = k
      · subst hk
        refine (if_pos rfl).trans (ResRec.outstanding_waiting (not_not.mp fun hw => ?_))
        rw [promised_one hw] at hx
        cases hx
      · exact if_neg hk
  have hsum : p.sumOutstanding k = 0 := by
    rw [Ppu.sumOutstanding_eq h]
    exact Finset.sum_eq_zero fun i hi => howed _ (Finset.sum_eq_zero_iff.mp hp i hi)
  rw [Ppu.LawHolds, hsum]
  exact Nat.zero_le _

theorem State.promises_of_larder {s t : State} (h : t.larder = s.larder) (k : Kind) : t.ppu.promises k = s.ppu.promises k := by
  obtain ⟨-, -, ⟨hentries, -⟩, -⟩ := State.larder_eq h
  rw [Ppu.promises, Ppu.promises, hentries]

theorem State.setEntry_ppu (i : ResIx) (r : ResRec) (s : State) : (s.setEntry i (some r)).ppu = s.ppu.rewrite i r := rfl

/-- One entry fewer is promised plates once it returns to WAITING. -/
theorem State.promises_wait {i : ResIx} {r : ResRec} {s : State} (hi : s.ppu.entries[i] = some r) (hr : r.state ≠ .waiting) :
    (s.setEntry i (some { r with state := .waiting })).ppu.promises r.kind + 1 = s.ppu.promises r.kind := by
  have h := Ppu.promises_rewrite hi { r with state := .waiting } r.kind
  have hnone : promised r.kind (some { r with state := .waiting }) = 0 := if_neg fun hw => hw.2 rfl
  rw [promised_one hr, hnone] at h
  rw [State.setEntry_ppu]
  omega

/-- One entry fewer is promised plates once it has ended. -/
theorem State.promises_end {i : ResIx} {r : ResRec} {s : State} (hi : s.ppu.entries[i] = some r) (hr : r.state ≠ .waiting) :
    (s.ppu.freed i).promises r.kind + 1 = s.ppu.promises r.kind := by
  have h := Ppu.promises_freed s.ppu i r.kind
  rwa [hi, promised_one hr] at h

theorem State.freed_larder {s t : State} (h : t.larder = s.larder) (i : ResIx) :
    ({ t with ppu := t.ppu.freed i } : State).larder = ({ s with ppu := s.ppu.freed i } : State).larder := by
  obtain ⟨hpools, hwarmers, ⟨hentries, hage⟩, ⟨hlabels, hracks⟩, hsteps⟩ := State.larder_eq h
  simp only [State.larder, Ppu.freed, hpools, hwarmers, hentries, hage, hlabels, hracks, hsteps]

/-- An entry that the shortening leaves no plate ends (R118). -/
theorem Ev.shorten_ends {i : ResIx} {r : ResRec} {e : Ev} (h : e.s.ppu.roomFor i r.kind = 0) :
    (e.shorten i r).1.s.larder = ({ e.s with ppu := e.s.ppu.freed i } : State).larder := by
  have hset : ∀ x : Option ResRec, ({ e.s.setEntry i x with ppu := (e.s.setEntry i x).ppu.freed i } : State).larder =
      ({ e.s with ppu := e.s.ppu.freed i } : State).larder := fun x => by
    simp only [State.larder, Ppu.freed, State.setEntry, set_set_same]
  unfold Ev.shorten
  simp only [h, if_true]
  exact (Ev.endEntry_larder ..).trans ((State.freed_larder (Ev.raise_larder ..) i).trans (hset _))

/-- An entry is left the room there is (R118). -/
theorem Ev.shorten_leaves {i : ResIx} {r : ResRec} {e : Ev} (h : 0 < e.s.ppu.roomFor i r.kind) :
    (e.shorten i r).1.s.larder =
      (e.s.setEntry i (some { r with count := r.drawn + e.s.ppu.roomFor i r.kind, shortened := true })).larder := by
  unfold Ev.shorten
  simp only [if_neg h.ne']
  exact Ev.raise_larder ..

theorem Ev.revokeFrom_of_law {k : Kind} {e : Ev} (h : e.s.ppu.LawHolds k) (n : Nat) : e.revokeFrom k n = (e, 0) := by
  cases n with
  | zero => rfl
  | succ n => exact if_pos h

/-- Revocation mends the law in as many turns as entries of the kind are promised plates (R117, R118): each turn takes one of them out
of READY, ends a DRAWING one, or mends the law. -/
theorem Ev.revokeFrom_promises {k : Kind} (n : Nat) {e : Ev} (h : e.s.Broken k) (hn : e.s.ppu.promises k ≤ n) :
    (e.revokeFrom k n).1.s.Promises fun _ => 0 := by
  induction n generalizing e with
  | zero =>
    obtain ⟨m, hs⟩ := h
    exact hs.broken.mended (Ppu.lawHolds_of_promises hs.age (Nat.le_zero.mp hn))
  | succ n ih =>
    unfold Ev.revokeFrom
    split
    next hlaw => exact h.mended hlaw
    next hlaw =>
      split
      next i r hready =>
        obtain ⟨hi, rfl, hr⟩ := Ppu.newest_some hready
        have hlarder := State.resNotice_larder i r .reservationRevoked r.kind.val r.count
          (e.s.setEntry i (some { r with state := .waiting }))
        have hfewer := State.promises_wait hi (by rw [hr]; decide)
        have hsame := State.promises_of_larder hlarder r.kind
        exact ih ((h.wait hi).of_larder hlarder) (by rw [Ev.on_s]; omega)
      next hready =>
        split
        next i r hdrawing =>
          obtain ⟨hi, rfl, hr⟩ := Ppu.newest_some hdrawing
          rcases Nat.eq_zero_or_pos (e.s.ppu.roomFor i r.kind) with hroom | hroom
          · have hlarder := Ev.shorten_ends (e := e) hroom
            have hfewer := State.promises_end hi (by rw [hr]; decide)
            have hsame : (e.shorten i r).1.s.ppu.promises r.kind = (e.s.ppu.freed i).promises r.kind :=
              State.promises_of_larder hlarder r.kind
            exact ih ((h.freed i).of_larder hlarder) (by omega)
          · have hmended := (h.shorten hi hr hroom).of_larder (Ev.shorten_leaves (e := e) hroom)
            show ((e.shorten i r).1.revokeFrom r.kind n).1.s.Promises _
            rw [Ev.revokeFrom_of_law (hmended.law r.kind)]
            exact hmended
        next hdrawing =>
          refine absurd ?_ hlaw
          rw [Ppu.sumOutstanding_waiting fun x hx =>
            ResState.waiting_of (Ppu.newest_none hdrawing x hx) (Ppu.newest_none hready x hx)]
          exact Nat.zero_le _

theorem Ev.revoke_promises {k : Kind} {e : Ev} (h : e.s.Broken k) : (e.revoke k).s.Promises fun _ => 0 := by
  have hmost : e.s.ppu.promises k ≤ e.s.ppu.ageList.length + 1 := by
    obtain ⟨n, hs⟩ := h
    exact (Ppu.promises_le hs.age k).trans (Nat.le_succ _)
  exact promises_engine.times _ (Ev.revokeFrom_promises _ h hmost)

/-! ### Every step -/

theorem promises_law :
    PlateLaw (fun n => 1 ≤ n) (State.Promises fun _ => 0) (fun n k => State.Promises (slackOf n k)) (State.Promises fun _ => 0) where
  toEngineLaw := promises_engine
  fair := fun _ hn => hn
  reset := fun pins => (State.reservationsSound_iff _).mp (resetWith_reservationsSound pins)
  before := fun _ _ ht h => h.of_larder ht
  weaken := fun _ h => h
  writeStep := fun _ _ _ hr h => h.setStep hr
  configure := fun _ _ _ hcount hkind hfit hcap h => h.configured hcount hkind ⟨hfit, hcap⟩
  settle := fun _ _ ht _ h => h.of_pledges ht
  rise := fun w src n s t hsrc hfit ht h => by
    refine (h.rise ?_ hfit).of_larder ht
    rcases hsrc with rfl | rfl <;> decide
  fall := fun w dst n s t hdst hn ht h => by
    refine (h.fall ?_ hn).of_larder ht
    rcases hdst with rfl | rfl <;> decide
  charge := fun _ _ h => Ev.chargeDraw_promises h
  revoke := fun _ _ _ h => Ev.revoke_promises h.broken

/-- Settles O36: the law of R117, with what it needs to know of the warmers and the step records, is a property that `PlateLaw`
describes, and every step keeps such a property. -/
theorem everyStepKeepsTheReservationLaw : Obligations.EveryStepKeepsTheReservationLaw := fun s t h ht =>
  t.reservationsSound_iff.mpr (promises_law.step (s.reservationsSound_iff.mp h) ht)

end Sys2Proof.Machine
end

section
/-! PROOFS. Movements that pass no count beyond 32 bits, and the commands on the pool (R88, R103 to R105). -/

namespace Sys2Proof.Machine

open Sys2Proof

/-! ### A movement, written out (R88) -/

/-- A movement that passes no count beyond 32 bits. -/
theorem PoolRec.move_eq {p : PoolRec} {src dst : Place} {n : Nat} (h : src ≠ dst) (hd : p.at dst + n < 4294967296)
    (hs : p.stock + (n - p.at src) < 4294967296) (hf : p.found + (n - p.at src) < 4294967296) :
    (p.move src dst n).1 =
      { (p.put (p.at src - n) src).put (p.at dst + n) dst with
        stock := p.stock + (n - p.at src), found := p.found + (n - p.at src) } := by
  have hleft : p.at src - min n (p.at src) = p.at src - n := by omega
  have hmissing : n - min n (p.at src) = n - p.at src := by omega
  unfold PoolRec.move
  simp only [hleft, hmissing, PoolRec.put_at_ne h.symm, PoolRec.put_stock, PoolRec.put_found, fitCount_fits hd, fitCount_fits hs,
    fitCount_fits hf]

theorem taken_decide (P : Prop) [Decidable P] : taken (decide P) = if P then .clamped else .ok := by
  unfold taken
  simp only [decide_eq_true_eq]

/-! ### A command closes -/

/-- A command answered: what its block left on the desk stands, but for what the engine's taking of reports changes. -/
theorem Ev.finish_bench {e : Ev} {u : State} (h : e.s.bench = u.bench) (x : Station) (a : Answer) :
    let t := e.finish.setAnswer x a
    t.ppu.pools = u.ppu.pools ∧ t.ppu.warmers = u.ppu.warmers ∧ t.clock = u.clock ∧ t.hlu.probes = u.hlu.probes ∧ t.pba = u.pba ∧
      t.dlu.racks = u.dlu.racks ∧ t.dlu.settings = u.dlu.settings ∧ t.pending = u.pending := by
  obtain ⟨hclock, hprobes, -, hpba, hpools, hwarmers, hdlu, -, hpending⟩ := State.still_eq e.finish_still
  obtain ⟨hclock', -, hhlu, hpba', hppu, ⟨hsettings, -, hracks, -⟩, -, hpending'⟩ := State.bench_eq h
  refine ⟨?_, ?_, hclock.trans hclock', ?_, hpba.trans hpba', ?_, ?_, hpending.trans hpending'⟩
  · exact hpools.trans (congrArg Ppu.pools hppu)
  · exact hwarmers.trans (congrArg Ppu.warmers hppu)
  · exact hprobes.trans (congrArg Hlu.probes hhlu)
  · exact (congrArg Dlu.racks hdlu).trans hracks
  · exact (congrArg Dlu.settings hdlu).trans hsettings

/-! ### INVENTORY SET (R103) -/

theorem exec_inventorySet (x : Station) (kind : Byte) (stock : BitVec 32) (s : State) :
    exec (.inventorySet x kind stock) s = concluded x 0x40 (cmdInventorySet kind stock (Ev.start s)) := by
  rfl

/-- Settles O26, from the branches of the command. -/
theorem inventorySetRule : Obligations.InventorySetRule := by
  intro x kind stock s
  rw [exec_inventorySet, cmdInventorySet]
  refine ⟨fun h => ?_, fun k hk => ?_⟩
  · rw [withIndex_none h]
    exact concluded_start ..
  · rw [withIndex_some k hk]
    refine ⟨fun h => ?_, fun h => ?_⟩
    · exact (congrArg _ (if_pos h)).trans (concluded_start ..)
    · exact (congrArg _ (if_neg (Nat.not_lt.mpr h))).trans (concluded_quiet _ _ _ _ rfl)

/-! ### RETURN, REQUEUE and DISCARD (R104, R105) -/

theorem exec_returnPlates (x : Station) (kind : Byte) (n : BitVec 16) (s : State) :
    exec (.returnPlates x kind n) s = concluded x 0x41 (cmdReturnPlates kind n (Ev.start s)) := by
  rfl

theorem exec_requeue (x : Station) (kind : Byte) (n : BitVec 16) (s : State) :
    exec (.requeue x kind n) s = concluded x 0x42 (cmdRequeue kind n (Ev.start s)) := by
  rfl

theorem exec_discard (x : Station) (kind : Byte) (n : BitVec 16) (s : State) :
    exec (.discard x kind n) s = concluded x 0x43 (cmdDiscard kind n (Ev.start s)) := by
  rfl

theorem platesCommand_none {kind : Byte} (h : 3 < kind.toNat) (n : BitVec 16) (e : Ev) (f : Kind → Nat → Ev × Moved) :
    platesCommand kind n e f = (e, refuse .badArgument) := withIndex_none h ..

theorem platesCommand_some {kind : Byte} {k : Kind} (h : kind.toNat = k.val) (n : BitVec 16) (e : Ev) (f : Kind → Nat → Ev × Moved) :
    platesCommand kind n e f =
      ((f k (min 9999 n.toNat)).1, ⟨if 9999 < n.toNat then .clamped else .ok, (f k (min 9999 n.toNat)).2.bytes⟩) := by
  rw [platesCommand, withIndex_some k h, clampNat_zero, taken_decide]

/-- RETURN moves plates from FLOOR to SOILED, found plates with them (R104). -/
theorem exec_returnPlates_taken {kind : Byte} {k : Kind} (hk : kind.toNat = k.val) (x : Station) (n : BitVec 16) (s : State) :
    let p := s.ppu.pools[k]
    let m := min 9999 n.toNat
    let t := ((Ev.start s).movement k .floor .soiled m).1.finish.setAnswer x
      ⟨0x41, ⟨if 9999 < n.toNat then .clamped else .ok, u16 (min m p.floor) ++ u16 (m - min m p.floor)⟩⟩
    exec (.returnPlates x kind n) s = .next t ∧ t.ppu.pools = s.ppu.pools.set k (p.move .floor .soiled m).1 ∧
      t.ppu.warmers = s.ppu.warmers ∧ t.clock = s.clock ∧ t.hlu.probes = s.hlu.probes ∧ t.pba = s.pba ∧
      t.dlu.racks = s.dlu.racks ∧ t.dlu.settings = s.dlu.settings ∧ t.pending = s.pending := by
  refine ⟨?_, Ev.finish_bench (Ev.movement_bench ..) ..⟩
  rw [exec_returnPlates, cmdReturnPlates, platesCommand_some hk]
  rfl

/-- REQUEUE moves plates from QUAR to SOILED, as many as there are (R105). -/
theorem exec_requeue_taken {kind : Byte} {k : Kind} (hk : kind.toNat = k.val) (x : Station) (n : BitVec 16) (s : State) :
    let p := s.ppu.pools[k]
    let m := min (min 9999 n.toNat) p.quar
    let t := ((Ev.start s).requeuePlates k (min 9999 n.toNat)).1.finish.setAnswer x
      ⟨0x42, ⟨if 9999 < n.toNat then .clamped else .ok, u16 m ++ u16 0⟩⟩
    exec (.requeue x kind n) s = .next t ∧
      t.ppu.pools = s.ppu.pools.set k { p with quar := p.quar - m, soiled := fitCount (p.soiled + m) } ∧
      t.ppu.warmers = s.ppu.warmers ∧ t.clock = s.clock ∧ t.hlu.probes = s.hlu.probes ∧ t.pba = s.pba ∧
      t.dlu.racks = s.dlu.racks ∧ t.dlu.settings = s.dlu.settings ∧ t.pending = s.pending := by
  refine ⟨?_, Ev.finish_bench (Ev.requeuePlates_bench ..) ..⟩
  rw [exec_requeue, cmdRequeue, platesCommand_some hk]
  rfl

/-- DISCARD takes plates of QUAR out of STOCK, as many as there are (R105). -/
theorem exec_discard_taken {kind : Byte} {k : Kind} (hk : kind.toNat = k.val) (x : Station) (n : BitVec 16) (s : State) :
    let p := s.ppu.pools[k]
    let m := min (min 9999 n.toNat) p.quar
    exec (.discard x kind n) s = .next ((s.setPool k { p with quar := p.quar - m, stock := p.stock - m }).setAnswer x
      ⟨0x43, ⟨if 9999 < n.toNat then .clamped else .ok, u16 m ++ u16 0⟩⟩) := by
  rw [exec_discard, cmdDiscard, platesCommand_some hk]
  exact concluded_quiet x 0x43 ((Ev.start s).discardPlates k (min 9999 n.toNat)).1 _ rfl

/-- Settles O27, from what a movement does to a pool record and leaves of the rest of the state. -/
theorem movementsAndPlateCommands : Obligations.MovementsAndPlateCommands := by
  refine ⟨fun p src dst n h hd hs hf => ?_, fun x kind n s => ⟨fun h => ⟨?_, ?_, ?_⟩, fun k hk => ?_⟩⟩
  · have hfit : p.stock + (n - p.at src) < 4294967296 ∧ p.found + (n - p.at src) < 4294967296 := by omega
    refine ⟨rfl, rfl, PoolRec.move_at_src h, ?_, fun q => PoolRec.move_at_ne, ?_, ?_, fun hb => hb.move h hd hfit.1⟩
    · rw [PoolRec.move_at_dst h, fitCount_fits hd]
    · rw [PoolRec.move_stock, fitCount_fits hfit.1]
    · rw [PoolRec.move_found, fitCount_fits hfit.2]
  · rw [exec_returnPlates, cmdReturnPlates, platesCommand_none h]
    exact concluded_start ..
  · rw [exec_requeue, cmdRequeue, platesCommand_none h]
    exact concluded_start ..
  · rw [exec_discard, cmdDiscard, platesCommand_none h]
    exact concluded_start ..
  · intro p m result hsoiled hstock hfound
    have hleft : p.quar - min m p.quar = p.quar - m := by omega
    refine ⟨?_, ?_, ?_⟩
    · have hmove : (p.move .floor .soiled m).1 = { p with
          floor := p.floor - m, soiled := p.soiled + m, stock := p.stock + (m - p.floor), found := p.found + (m - p.floor) } :=
        PoolRec.move_eq (by decide) hsoiled (by simp only [PoolRec.at]; omega) (by simp only [PoolRec.at]; omega)
      obtain ⟨hexec, hpools, hrest⟩ := exec_returnPlates_taken hk x n s
      exact ⟨_, hexec, hpools.trans (congrArg (fun q => s.ppu.pools.set k q) hmove), State.setAnswer_get .., hrest⟩
    · have hfit : fitCount (p.soiled + min m p.quar) = p.soiled + min m p.quar := fitCount_fits (by omega)
      obtain ⟨hexec, hpools, hrest⟩ := exec_requeue_taken hk x n s
      rw [hfit, hleft] at hpools
      exact ⟨_, hexec, hpools, State.setAnswer_get .., hrest⟩
    · rw [exec_discard_taken hk, hleft]

end Sys2Proof.Machine
end

section
/-! PROOFS. The encoder of a warmer: the table of R95, accepted pairs, and what SUB-COUNT makes of an edge (R95, R96). -/

namespace Sys2Proof.Machine

open Sys2Proof

/-- A pair of phase levels is accepted at a warmer, whose record becomes `r` (R95). -/
def State.accept (w : WarmerIx) (pair : Pair) (r : WarmerRec) (s : State) : State :=
  { s.setWarmer w r with pins := { s.pins with encoders := s.pins.encoders.set w pair } }

theorem State.accept_get (w : WarmerIx) (pair : Pair) (r : WarmerRec) (s : State) : (s.accept w pair r).ppu.warmers[w] = r :=
  get_set_same ..

theorem State.accept_setWarmer (w : WarmerIx) (pair : Pair) (r q : WarmerRec) (s : State) :
    (s.accept w pair r).setWarmer w q = s.accept w pair q := by
  simp only [State.accept, State.setWarmer, set_set_same]

/-- The state of an event that has handed nothing on changes. -/
theorem Ev.start_on (f : State → State) (s : State) : (Ev.start s).on f = Ev.start (f s) := rfl

/-! ### The table of R95 -/

theorem turn_eq (before after : Pair) :
    turn before after =
      if before = after then .none
      else if (before.a ≠ after.a) ∧ (before.b ≠ after.b) then .invalid
      else if after.b = (!before.a) ∧ before.a = after.a ∨ after.a = before.b ∧ before.b = after.b then .rise
      else .fall := by
  obtain ⟨a, b⟩ := before
  obtain ⟨c, d⟩ := after
  revert a b c d
  decide

/-! ### An accepted pair (R95) -/

section Pairs
variable {w : WarmerIx} {pair : Pair} {s : State}

/-- At a warmer that is not installed, or while ENCODER FAULT stands, a pair is accepted and not counted (R95, R97). -/
theorem Ev.encoderPair_uncounted (h : (s.ppu.warmers[w]).capacity = 0 ∨ (s.ppu.warmers[w]).encoderFault = true) :
    (Ev.start s).encoderPair w pair = Ev.start (s.accept w pair { s.ppu.warmers[w] with pair := pair }) := by
  have hget := State.accept_get w pair { s.ppu.warmers[w] with pair := pair } s
  refine if_pos ?_
  show (!((s.accept w pair { s.ppu.warmers[w] with pair := pair }).ppu.warmers[w]).installed ||
    ((s.accept w pair { s.ppu.warmers[w] with pair := pair }).ppu.warmers[w]).encoderFault) = true
  rw [hget, Bool.or_eq_true, Bool.not_eq_true']
  exact h.imp_left fun hc => decide_eq_false (show ¬ 0 < (s.ppu.warmers[w]).capacity by omega)

/-- Whether an accepted pair is counted: the warmer is installed, and no ENCODER FAULT stands (R95). -/
theorem Ev.encoderPair_counts (hc : 0 < (s.ppu.warmers[w]).capacity) (hf : (s.ppu.warmers[w]).encoderFault = false) :
    let e := Ev.start (s.accept w pair { s.ppu.warmers[w] with pair := pair })
    let clean := Ev.start (s.accept w pair { s.ppu.warmers[w] with pair := pair, errorRun := 0 })
    (turn (s.ppu.warmers[w]).pair pair = .none → (Ev.start s).encoderPair w pair = e) ∧
    (turn (s.ppu.warmers[w]).pair pair = .rise → (Ev.start s).encoderPair w pair = clean.accumulate w 1) ∧
    (turn (s.ppu.warmers[w]).pair pair = .fall → (Ev.start s).encoderPair w pair = clean.accumulate w (-1)) ∧
    (turn (s.ppu.warmers[w]).pair pair = .invalid → (Ev.start s).encoderPair w pair = e.invalidTurn w) := by
  intro e clean
  have hget : e.s.ppu.warmers[w] = { s.ppu.warmers[w] with pair := pair } := State.accept_get ..
  have hgo : ¬ (!(e.s.ppu.warmers[w]).installed || (e.s.ppu.warmers[w]).encoderFault) = true := by
    rw [hget, WarmerRec.installed, decide_eq_true hc, hf]
    decide
  have hclean : e.on (fun s => s.setWarmer w { e.s.ppu.warmers[w] with errorRun := 0 }) = clean := by
    rw [hget]
    exact congrArg Ev.start (State.accept_setWarmer ..)
  refine ⟨fun ht => ?_, fun ht => ?_, fun ht => ?_, fun ht => ?_⟩
  all_goals
    unfold Ev.encoderPair
    refine (if_neg hgo).trans ?_
    rw [Ev.start_s, ht]
  · rfl
  · exact congrArg (Ev.accumulate w 1) hclean
  · exact congrArg (Ev.accumulate w (-1)) hclean
  · rfl

/-- A pair that is not counted, or that turns nothing (R95). -/
theorem Ev.encoderPair_idle (h : (s.ppu.warmers[w]).capacity = 0 ∨ (s.ppu.warmers[w]).encoderFault = true ∨
      turn (s.ppu.warmers[w]).pair pair = .none) :
    (Ev.start s).encoderPair w pair = Ev.start (s.accept w pair { s.ppu.warmers[w] with pair := pair }) := by
  by_cases hcount : (s.ppu.warmers[w]).capacity = 0 ∨ (s.ppu.warmers[w]).encoderFault = true
  · exact Ev.encoderPair_uncounted hcount
  · obtain ⟨hc, hf⟩ := not_or.mp hcount
    have hnone := (h.resolve_left hc).resolve_left hf
    exact (Ev.encoderPair_counts (Nat.pos_of_ne_zero hc) (Bool.eq_false_iff.mpr hf)).1 hnone

end Pairs

/-! ### SUB-COUNT (R96) -/

section SubCount
variable {w : WarmerIx} {pair : Pair} {q : WarmerRec} {edge : Int} {s : State}

/-- An edge that completes no plate. -/
theorem Ev.accumulate_within (hlow : -(q.pitch : Int) < q.sub + edge) (hhigh : q.sub + edge < q.pitch) :
    (Ev.start (s.accept w pair q)).accumulate w edge = Ev.start (s.accept w pair { q with sub := q.sub + edge }) := by
  unfold Ev.accumulate
  simp only [Ev.start_s, State.accept_get, if_neg (Int.not_le.mpr hhigh), if_neg (Int.not_le.mpr hlow), Ev.start_on,
    State.accept_setWarmer]

/-- An edge that completes a plate taken off the warmer (R96, R97). -/
theorem Ev.accumulate_down (h : (q.pitch : Int) ≤ q.sub + edge) :
    let e := Ev.start (s.accept w pair q)
    let e0 := Ev.start (s.accept w pair { q with sub := 0 })
    (q.count = 0 → e.accumulate w edge = e0.encoderFault w) ∧ (0 < q.count → e.accumulate w edge = e0.countDown w) := by
  intro e e0
  unfold Ev.accumulate
  simp only [e, Ev.start_s, State.accept_get, if_pos h, Ev.start_on, State.accept_setWarmer]
  exact ⟨fun hz => if_pos hz, fun hpos => if_neg hpos.ne'⟩

/-- An edge that completes a plate put on the warmer (R96, R97). -/
theorem Ev.accumulate_up (hp : 0 < q.pitch) (h : q.sub + edge ≤ -(q.pitch : Int)) :
    let e := Ev.start (s.accept w pair q)
    let e0 := Ev.start (s.accept w pair { q with sub := 0 })
    (q.capacity ≤ q.count → e.accumulate w edge = e0.encoderFault w) ∧
      (q.count < q.capacity → e.accumulate w edge = e0.countUp w) := by
  intro e e0
  have hnot : ¬ (q.pitch : Int) ≤ q.sub + edge := by omega
  unfold Ev.accumulate
  simp only [e, Ev.start_s, State.accept_get, if_neg hnot, if_pos h, Ev.start_on, State.accept_setWarmer]
  exact ⟨fun hfull => if_pos hfull, fun hroom => if_neg (Nat.not_le.mpr hroom)⟩

/-- An invalid transition is the first to third in a row, or the fourth, at which counting stops (R95). -/
theorem Ev.invalidTurn_eq :
    (q.errorRun + 1 < 4 →
      (Ev.start (s.accept w pair q)).invalidTurn w = Ev.start (s.accept w pair { q with errorRun := q.errorRun + 1 })) ∧
    (3 ≤ q.errorRun → (Ev.start (s.accept w pair q)).invalidTurn w =
      (Ev.start (s.accept w pair { q with errorRun := q.errorRun + 1 })).encoderFault w) := by
  unfold Ev.invalidTurn
  simp only [Ev.start_s, State.accept_get, Ev.start_on, State.accept_setWarmer]
  exact ⟨fun h => if_neg (Nat.not_le.mpr h), fun h => if_pos (Nat.succ_le_succ h)⟩

end SubCount

/-! ### Count steps (R99, R100) -/

/-- Where a plate goes that is taken off a warmer (R99). -/
def Mode.sink : Mode → Place
  | .serving => .floor
  | .loading => .cool

/-- A count step down, beside what it does to the reservations (R99). -/
theorem Ev.countDown_still (w : WarmerIx) (e : Ev) :
    (e.countDown w).s.still =
      (e.s.carry w .warm (e.s.ppu.warmers[w]).mode.sink 1 ((e.s.ppu.warmers[w]).count - 1)).still := by
  unfold Ev.countDown
  simp only
  split
  next h =>
    rw [h]
    exact (Ev.chargeDraw_still ..).trans (State.still_of_desk (Ev.carry_desk (by decide) (by decide) ..))
  next h =>
    rw [h]
    exact (Ev.revoke_still ..).trans (State.still_of_desk (Ev.carry_desk (by decide) (by decide) ..))

/-- A count step up, beside what it does to the reservations (R100). -/
theorem Ev.countUp_still (w : WarmerIx) (e : Ev) :
    (e.countUp w).s.still = (e.s.carry w ((e.s.ppu.pools[(e.s.ppu.warmers[w]).kind]).sourceUp (e.s.ppu.warmers[w]).mode) .warm 1
      ((e.s.ppu.warmers[w]).count + 1)).still :=
  (Ev.evaluate_still ..).trans (State.still_of_desk
    (Ev.carry_desk (Place.ne_soiled_of_source (PoolRec.sourceUp_cases ..)) (by decide) ..))

theorem State.carry_accept (w : WarmerIx) (pair : Pair) (q : WarmerRec) (src dst : Place) (n m : Nat) (s : State) :
    (s.accept w pair q).carry w src dst n m =
      (s.setPool q.kind ((s.ppu.pools[q.kind]).move src dst n).1).accept w pair { q with count := m } := by
  simp only [State.carry, State.setCount, State.setPool, State.accept, State.setWarmer, get_set_same, set_set_same]

/-! ### What an accepted pair comes to -/

/-- A step that accepted a pair at a warmer, whose record became `r`, and made `p` of the pool record of a kind, whatever else
came of it at the reservations and the fault monitor. -/
def State.Turned (w : WarmerIx) (pair : Pair) (r : WarmerRec) (k : Kind) (p : PoolRec) (s t : State) : Prop :=
  t.ppu.warmers = s.ppu.warmers.set w r ∧ t.ppu.pools = s.ppu.pools.set k p ∧
    t.pins = { s.pins with encoders := s.pins.encoders.set w pair } ∧
    t.clock = s.clock ∧ t.hlu.probes = s.hlu.probes ∧ t.pba = s.pba ∧ t.dlu = s.dlu ∧ t.pending = s.pending

section Outcome
variable {w : WarmerIx} {pair : Pair} {q : WarmerRec} {s : State}

theorem State.Turned.of_still {k : Kind} {p : PoolRec} {t : State} (h : t.still = ((s.setPool k p).accept w pair q).still) :
    s.Turned w pair q k p t := by
  obtain ⟨hclock, hprobes, -, hpba, hpools, hwarmers, hdlu, hpins, hpending⟩ := State.still_eq h
  exact ⟨hwarmers, hpools, hpins, hclock, hprobes, hpba, hdlu, hpending⟩

/-- A count step down takes a plate from WARM (R99). -/
theorem Ev.countDown_turned :
    s.Turned w pair { q with count := q.count - 1 } q.kind ((s.ppu.pools[q.kind]).move .warm q.mode.sink 1).1
      ((Ev.start (s.accept w pair q)).countDown w).finish := by
  refine .of_still ((Ev.finish_still _).trans ((Ev.countDown_still ..).trans ?_))
  rw [Ev.start_s, State.accept_get, State.carry_accept]

/-- A count step up brings a plate to WARM (R100). -/
theorem Ev.countUp_turned :
    s.Turned w pair { q with count := q.count + 1 } q.kind
      ((s.ppu.pools[q.kind]).move ((s.ppu.pools[q.kind]).sourceUp q.mode) .warm 1).1
      ((Ev.start (s.accept w pair q)).countUp w).finish := by
  refine .of_still ((Ev.finish_still _).trans ((Ev.countUp_still ..).trans ?_))
  simp only [Ev.start_s, State.accept_get, State.carry_accept]
  rfl

/-- ENCODER FAULT is set, moves no plate, and holds for the warmer (R96, R97). -/
theorem Ev.encoderFault_turned (k : Kind) :
    let t := ((Ev.start (s.accept w pair q)).encoderFault w).finish
    s.Turned w pair { q with encoderFault := true } k s.ppu.pools[k] t ∧ w.val ∈ (t.fm.conds[Cond.encoder.index]).active := by
  refine ⟨.of_still ((Ev.finish_still _).trans ((Ev.condHolds_still ..).trans ?_)), ?_⟩
  · simp only [Ev.on, Ev.start_s, State.accept_get, State.accept_setWarmer, State.setPool, set_get_same]
  · rw [Ev.finish_fm]
    exact Ev.condHolds_active ..

end Outcome

/-! ### The rules -/

theorem exec_encoderTransition (w : WarmerIx) (a b : Bool) (s : State) :
    exec (.encoderTransition w a b) s = .next ((Ev.start s).encoderPair w ⟨a, b⟩).finish := by
  rfl

/-- The outcomes of a rise at a warmer that is counted (R96). -/
theorem exec_rise {w : WarmerIx} {a b : Bool} {s : State} (hc : 0 < (s.ppu.warmers[w]).capacity)
    (hf : (s.ppu.warmers[w]).encoderFault = false) (ht : turn (s.ppu.warmers[w]).pair ⟨a, b⟩ = .rise) :
    exec (.encoderTransition w a b) s = .next
      ((Ev.start (s.accept w ⟨a, b⟩ { s.ppu.warmers[w] with pair := ⟨a, b⟩, errorRun := 0 })).accumulate w 1).finish := by
  obtain ⟨-, hrise, -⟩ := Ev.encoderPair_counts (pair := ⟨a, b⟩) hc hf
  rw [exec_encoderTransition, hrise ht]

/-- The outcomes of a fall at a warmer that is counted (R96). -/
theorem exec_fall {w : WarmerIx} {a b : Bool} {s : State} (hc : 0 < (s.ppu.warmers[w]).capacity)
    (hf : (s.ppu.warmers[w]).encoderFault = false) (ht : turn (s.ppu.warmers[w]).pair ⟨a, b⟩ = .fall) :
    exec (.encoderTransition w a b) s = .next
      ((Ev.start (s.accept w ⟨a, b⟩
        { s.ppu.warmers[w] with pair := ⟨a, b⟩, errorRun := 0 })).accumulate w (-1)).finish := by
  obtain ⟨-, -, hfall, -⟩ := Ev.encoderPair_counts (pair := ⟨a, b⟩) hc hf
  rw [exec_encoderTransition, hfall ht]

/-- An invalid transition at a warmer that is counted (R95). -/
theorem exec_invalid {w : WarmerIx} {a b : Bool} {s : State} (hc : 0 < (s.ppu.warmers[w]).capacity)
    (hf : (s.ppu.warmers[w]).encoderFault = false) (ht : turn (s.ppu.warmers[w]).pair ⟨a, b⟩ = .invalid) :
    exec (.encoderTransition w a b) s = .next
      ((Ev.start (s.accept w ⟨a, b⟩ { s.ppu.warmers[w] with pair := ⟨a, b⟩ })).invalidTurn w).finish := by
  obtain ⟨-, -, -, hinvalid⟩ := Ev.encoderPair_counts (pair := ⟨a, b⟩) hc hf
  rw [exec_encoderTransition, hinvalid ht]

/-- An accepted pair that makes no count step (R95, R96). -/
theorem exec_encoderTransition_uncounted (w : WarmerIx) (a b : Bool) (s : State) :
    let r := s.ppu.warmers[w]
    ((r.capacity = 0 ∨ r.encoderFault = true ∨ turn r.pair ⟨a, b⟩ = .none) →
      exec (.encoderTransition w a b) s = .next (s.accept w ⟨a, b⟩ { r with pair := ⟨a, b⟩ })) ∧
    (0 < r.capacity → r.encoderFault = false → turn r.pair ⟨a, b⟩ = .rise → r.sub + 1 < r.pitch →
      -(r.pitch : Int) < r.sub + 1 → exec (.encoderTransition w a b) s =
        .next (s.accept w ⟨a, b⟩ { r with pair := ⟨a, b⟩, errorRun := 0, sub := r.sub + 1 })) ∧
    (0 < r.capacity → r.encoderFault = false → turn r.pair ⟨a, b⟩ = .fall → -(r.pitch : Int) < r.sub - 1 →
      r.sub - 1 < r.pitch → exec (.encoderTransition w a b) s =
        .next (s.accept w ⟨a, b⟩ { r with pair := ⟨a, b⟩, errorRun := 0, sub := r.sub - 1 })) ∧
    (0 < r.capacity → r.encoderFault = false → turn r.pair ⟨a, b⟩ = .invalid → r.errorRun + 1 < 4 →
      exec (.encoderTransition w a b) s =
        .next (s.accept w ⟨a, b⟩ { r with pair := ⟨a, b⟩, errorRun := r.errorRun + 1 })) := by
  intro r
  refine ⟨fun h => ?_, fun hc hf ht hhigh hlow => ?_, fun hc hf ht hlow hhigh => ?_, fun hc hf ht hrun => ?_⟩
  · rw [exec_encoderTransition, Ev.encoderPair_idle h]
    exact happened_quiet _ rfl
  · have hedge := Ev.accumulate_within (w := w) (pair := ⟨a, b⟩)
      (q := { r with pair := ⟨a, b⟩, errorRun := 0 }) (s := s) hlow hhigh
    rw [exec_rise hc hf ht, hedge]
    exact happened_quiet _ rfl
  · have hedge := Ev.accumulate_within (w := w) (pair := ⟨a, b⟩)
      (q := { r with pair := ⟨a, b⟩, errorRun := 0 }) (s := s) hlow hhigh
    rw [exec_fall hc hf ht, hedge]
    exact happened_quiet _ rfl
  · have hturn := (Ev.invalidTurn_eq (w := w) (pair := ⟨a, b⟩) (q := { r with pair := ⟨a, b⟩ }) (s := s)).1 hrun
    rw [exec_invalid hc hf ht, hturn]
    exact happened_quiet _ rfl

/-- A rise that completes a plate off a warmer, which has one (R96, R99). -/
theorem exec_plate_off {w : WarmerIx} {a b : Bool} {s : State} (hc : 0 < (s.ppu.warmers[w]).capacity)
    (hf : (s.ppu.warmers[w]).encoderFault = false) (ht : turn (s.ppu.warmers[w]).pair ⟨a, b⟩ = .rise)
    (hsub : (s.ppu.warmers[w]).sub + 1 = (s.ppu.warmers[w]).pitch) (hcount : 0 < (s.ppu.warmers[w]).count) :
    let r := s.ppu.warmers[w]
    ∃ t, exec (.encoderTransition w a b) s = .next t ∧
      s.Turned w ⟨a, b⟩ { r with pair := ⟨a, b⟩, errorRun := 0, sub := 0, count := r.count - 1 } r.kind
        ((s.ppu.pools[r.kind]).move .warm r.mode.sink 1).1 t := by
  intro r
  have hedge := (Ev.accumulate_down (w := w) (pair := ⟨a, b⟩)
    (q := { r with pair := ⟨a, b⟩, errorRun := 0 }) (s := s) hsub.ge).2 hcount
  refine ⟨_, ?_, Ev.countDown_turned (q := { r with pair := ⟨a, b⟩, errorRun := 0, sub := 0 })⟩
  rw [exec_rise hc hf ht, hedge]

/-- Settles O32, from the table, the outcomes of an edge, and the count step down. -/
theorem encoderRule : Obligations.EncoderRule := by
  refine ⟨⟨turn_eq, exec_encoderTransition_uncounted⟩, ?_⟩
  intro w a b s r p hc hf ht hsub hcount hmode hwarm hfloor hstock hfound
  obtain ⟨t, hexec, hwarmers, hpools, -, hrest⟩ := exec_plate_off hc hf ht hsub.symm hcount
  have hmove : (p.move .warm .floor 1).1 = { p with warm := p.warm - 1, floor := p.floor + 1 } := by
    have hthere : 1 - p.warm = 0 := by omega
    refine (PoolRec.move_eq (by decide) hfloor ?_ ?_).trans ?_
    all_goals simp only [PoolRec.at, PoolRec.put, hthere, Nat.add_zero]
    · exact hstock
    · exact hfound
  rw [hmode] at hpools
  exact ⟨t, hexec, hpools.trans (congrArg (fun q => s.ppu.pools.set r.kind q) hmove), hwarmers, hrest⟩

end Sys2Proof.Machine
end

section
/-! PROOFS. Count steps up, ENCODER FAULT, and the soak timer (R96 to R101). -/

namespace Sys2Proof.Machine

open Sys2Proof

/-! ### Count steps and ENCODER FAULT (R96, R97, R100) -/

section Counted
variable {w : WarmerIx} {a b : Bool} {s : State} (hc : 0 < (s.ppu.warmers[w]).capacity)
  (hf : (s.ppu.warmers[w]).encoderFault = false)
include hc hf

/-- A fall that completes a plate onto a warmer, which has room for it (R96, R100). -/
theorem exec_plate_on (hp : 0 < (s.ppu.warmers[w]).pitch) (ht : turn (s.ppu.warmers[w]).pair ⟨a, b⟩ = .fall)
    (hsub : (s.ppu.warmers[w]).sub - 1 = -((s.ppu.warmers[w]).pitch : Int))
    (hroom : (s.ppu.warmers[w]).count < (s.ppu.warmers[w]).capacity) :
    let r := s.ppu.warmers[w]
    ∃ t, exec (.encoderTransition w a b) s = .next t ∧
      s.Turned w ⟨a, b⟩ { r with pair := ⟨a, b⟩, errorRun := 0, sub := 0, count := r.count + 1 } r.kind
        ((s.ppu.pools[r.kind]).move ((s.ppu.pools[r.kind]).sourceUp r.mode) .warm 1).1 t := by
  intro r
  have hedge := (Ev.accumulate_up (w := w) (pair := ⟨a, b⟩)
    (q := { r with pair := ⟨a, b⟩, errorRun := 0 }) (s := s) hp hsub.le).2 hroom
  refine ⟨_, ?_, Ev.countUp_turned (q := { r with pair := ⟨a, b⟩, errorRun := 0, sub := 0 })⟩
  rw [exec_fall hc hf ht, hedge]

/-- The fourth invalid transition in a row (R95). -/
theorem exec_fourth_invalid (ht : turn (s.ppu.warmers[w]).pair ⟨a, b⟩ = .invalid) (hrun : 3 ≤ (s.ppu.warmers[w]).errorRun) :
    let r := s.ppu.warmers[w]
    exec (.encoderTransition w a b) s = .next
      ((Ev.start (s.accept w ⟨a, b⟩ { r with pair := ⟨a, b⟩, errorRun := r.errorRun + 1 })).encoderFault w).finish := by
  intro r
  have hturn := (Ev.invalidTurn_eq (w := w) (pair := ⟨a, b⟩) (q := { r with pair := ⟨a, b⟩ }) (s := s)).2 hrun
  rw [exec_invalid hc hf ht, hturn]

/-- A rise that completes a plate off a warmer that has none (R97). -/
theorem exec_plate_off_empty (ht : turn (s.ppu.warmers[w]).pair ⟨a, b⟩ = .rise)
    (hsub : (s.ppu.warmers[w]).sub + 1 = (s.ppu.warmers[w]).pitch) (hcount : (s.ppu.warmers[w]).count = 0) :
    let r := s.ppu.warmers[w]
    exec (.encoderTransition w a b) s = .next
      ((Ev.start (s.accept w ⟨a, b⟩ { r with pair := ⟨a, b⟩, errorRun := 0, sub := 0 })).encoderFault w).finish := by
  intro r
  have hedge := (Ev.accumulate_down (w := w) (pair := ⟨a, b⟩)
    (q := { r with pair := ⟨a, b⟩, errorRun := 0 }) (s := s) hsub.ge).1 hcount
  rw [exec_rise hc hf ht, hedge]

/-- A fall that completes a plate onto a warmer that is full (R97). -/
theorem exec_plate_on_full (hp : 0 < (s.ppu.warmers[w]).pitch) (ht : turn (s.ppu.warmers[w]).pair ⟨a, b⟩ = .fall)
    (hsub : (s.ppu.warmers[w]).sub - 1 = -((s.ppu.warmers[w]).pitch : Int))
    (hfull : (s.ppu.warmers[w]).capacity ≤ (s.ppu.warmers[w]).count) :
    let r := s.ppu.warmers[w]
    exec (.encoderTransition w a b) s = .next
      ((Ev.start (s.accept w ⟨a, b⟩ { r with pair := ⟨a, b⟩, errorRun := 0, sub := 0 })).encoderFault w).finish := by
  intro r
  have hedge := (Ev.accumulate_up (w := w) (pair := ⟨a, b⟩)
    (q := { r with pair := ⟨a, b⟩, errorRun := 0 }) (s := s) hp hsub.le).1 hfull
  rw [exec_fall hc hf ht, hedge]

end Counted

/-! ### One plate moved (R88, R99, R100) -/

section OnePlate
variable {p : PoolRec} (hwarm : p.warm + 1 < 4294967296) (hcool : p.cool + 1 < 4294967296) (hstock : p.stock + 1 < 4294967296)
  (hfound : p.found + 1 < 4294967296)
include hstock hfound

include hcool in
/-- An UNLOAD (R99). -/
theorem PoolRec.move_unload (hthere : 0 < p.warm) :
    (p.move .warm .cool 1).1 = { p with warm := p.warm - 1, cool := p.cool + 1 } := by
  have hnone : 1 - p.warm = 0 := by omega
  refine (PoolRec.move_eq (by decide) hcool ?_ ?_).trans ?_
  all_goals simp only [PoolRec.at, PoolRec.put, hnone, Nat.add_zero]
  all_goals omega

include hwarm

/-- A plate brought from COOL, found where none is there (R88, R100). -/
theorem PoolRec.move_load :
    (p.move .cool .warm 1).1 =
      { p with warm := p.warm + 1, cool := p.cool - 1, stock := p.stock + (1 - p.cool), found := p.found + (1 - p.cool) } :=
  PoolRec.move_eq (by decide) hwarm (by simp only [PoolRec.at]; omega) (by simp only [PoolRec.at]; omega)

/-- A PUT BACK of a plate that FLOOR has (R100). -/
theorem PoolRec.move_putBack (hthere : 0 < p.floor) :
    (p.move .floor .warm 1).1 = { p with warm := p.warm + 1, floor := p.floor - 1 } := by
  have hnone : 1 - p.floor = 0 := by omega
  refine (PoolRec.move_eq (by decide) hwarm ?_ ?_).trans ?_
  all_goals simp only [PoolRec.at, PoolRec.put, hnone, Nat.add_zero]
  all_goals omega

end OnePlate

theorem PoolRec.sourceUp_serving_floor {p : PoolRec} (h : 0 < p.floor) : p.sourceUp .serving = .floor := if_pos h
theorem PoolRec.sourceUp_serving_cool {p : PoolRec} (h : p.floor = 0) : p.sourceUp .serving = .cool := if_neg (by omega)

/-- Settles O33, from the outcomes of an edge and one plate's movement. -/
theorem countStepRules : Obligations.CountStepRules := by
  intro w a b s r p stepped becomes faulted counts down up found hc hp hf
  have hon (n : PoolRec) (hup : up) (hroom : r.count < r.capacity) (hmove : (p.move (p.sourceUp r.mode) .warm 1).1 = n) :
      counts (r.count + 1) n := by
    obtain ⟨t, hexec, hturned⟩ := exec_plate_on hc hf hp hup.1 hup.2 hroom
    exact ⟨t, hexec, hmove ▸ hturned⟩
  refine ⟨fun ht hrun => ?_, fun hdown hzero => ?_, fun hup hfull => ?_, fun hwarm hcool hstock hfound => ⟨?_, ?_, ?_, ?_⟩⟩
  · exact ⟨_, exec_fourth_invalid hc hf ht hrun, Ev.encoderFault_turned r.kind⟩
  · exact ⟨_, exec_plate_off_empty hc hf hdown.1 hdown.2 hzero, Ev.encoderFault_turned r.kind⟩
  · exact ⟨_, exec_plate_on_full hc hf hp hup.1 hup.2 hfull, Ev.encoderFault_turned r.kind⟩
  · intro hdown hcount hmode hthere
    obtain ⟨t, hexec, hturned⟩ := exec_plate_off hc hf hdown.1 hdown.2 hcount
    have hmove : (p.move .warm r.mode.sink 1).1 = { p with warm := p.warm - 1, cool := p.cool + 1 } := by
      rw [hmode]
      exact PoolRec.move_unload hcool hstock hfound hthere
    exact ⟨t, hexec, hmove ▸ hturned⟩
  · intro hup hroom hmode
    refine hon _ hup hroom ?_
    rw [hmode]
    exact PoolRec.move_load hwarm hstock hfound
  · intro hup hroom hmode hthere
    refine hon _ hup hroom ?_
    rw [hmode, PoolRec.sourceUp_serving_floor hthere]
    exact PoolRec.move_putBack hwarm hstock hfound hthere
  · intro hup hroom hmode hnone
    refine hon _ hup hroom ?_
    rw [hmode, PoolRec.sourceUp_serving_cool hnone]
    exact PoolRec.move_load hwarm hstock hfound

/-! ### The soak timer (R101) -/

theorem exec_soakTimerExpiry (w : WarmerIx) (s : State) :
    exec (.soakTimerExpiry w) s = happened ((Ev.start s).soakSecond w) := by
  rfl

/-- A second of soaking that is not the last (R101). -/
theorem Ev.soakSecond_before {w : WarmerIx} {s : State} (h : (s.ppu.warmers[w]).readiness = .soaking)
    (hleft : 1 < (s.ppu.warmers[w]).soakLeft) :
    (Ev.start s).soakSecond w =
      Ev.start (s.setWarmer w { s.ppu.warmers[w] with soakLeft := (s.ppu.warmers[w]).soakLeft - 1 }) :=
  (if_neg (not_not.mpr h)).trans (if_pos hleft)

/-- The last second of soaking (R101). -/
theorem Ev.soakSecond_last {w : WarmerIx} {s : State} (h : (s.ppu.warmers[w]).readiness = .soaking)
    (hleft : (s.ppu.warmers[w]).soakLeft ≤ 1) :
    (Ev.start s).soakSecond w =
      (Ev.start (s.setWarmer w { s.ppu.warmers[w] with soakLeft := 0, readiness := .ready })).evaluate (s.ppu.warmers[w]).kind :=
  (if_neg (not_not.mpr h)).trans (if_neg (Nat.not_lt.mpr hleft))

/-- Settles O31: the switch touches one record, and an evaluation of reservations no item that is named. -/
theorem soakTimerAndLoadSwitch : Obligations.SoakTimerAndLoadSwitch := by
  refine ⟨fun w isOpen s => rfl, fun w s hsoaking => ⟨fun hleft => ?_, fun hleft => ?_⟩⟩
  · rw [exec_soakTimerExpiry, Ev.soakSecond_before hsoaking hleft]
    exact happened_quiet _ rfl
  · rw [exec_soakTimerExpiry, Ev.soakSecond_last hsoaking hleft]
    obtain ⟨hclock, hprobes, -, hpba, hpools, hwarmers, hdlu, -, hpending⟩ :=
      State.still_eq ((Ev.finish_still _).trans (Ev.evaluate_still (s.ppu.warmers[w]).kind
        (Ev.start (s.setWarmer w { s.ppu.warmers[w] with soakLeft := 0, readiness := .ready }))))
    exact ⟨_, rfl, hwarmers, hpools, hclock, hprobes, hpba, hdlu, hpending⟩

end Sys2Proof.Machine
end

section
/-! PROOFS. WARMER COUNT (R106). -/

namespace Sys2Proof.Machine

open Sys2Proof

/-- A movement of no plates. -/
theorem PoolRec.move_none {p : PoolRec} {src dst : Place} (h : src ≠ dst) (hd : p.at dst < 4294967296) (hs : p.stock < 4294967296)
    (hf : p.found < 4294967296) : p.move src dst 0 = (p, ⟨0, 0⟩) := by
  refine Prod.ext ((PoolRec.move_eq h hd ?_ ?_).trans ?_) ?_
  · rwa [Nat.zero_sub]
  · rwa [Nat.zero_sub]
  · simp only [Nat.zero_sub, Nat.add_zero, Nat.sub_zero]
    cases src <;> cases dst <;> rfl
  · simp only [PoolRec.move, Nat.zero_min, Nat.sub_zero]

/-- Where the plates go at a recount from `c` to `m` (R106). -/
theorem PoolRec.move_recount {p : PoolRec} {c m : Nat} (hwarm : p.warm + m < 4294967296) (hcool : p.cool + c < 4294967296)
    (hstock : p.stock + m + c < 4294967296) (hfound : p.found + m + c < 4294967296) :
    (if c < m then p.move .cool .warm (m - c) else p.move .warm .cool (c - m)).1 =
      if c < m then
        { p with warm := p.warm + (m - c), cool := p.cool - (m - c)
                 stock := p.stock + (m - c - p.cool), found := p.found + (m - c - p.cool) }
      else
        { p with warm := p.warm - (c - m), cool := p.cool + (c - m)
                 stock := p.stock + (c - m - p.warm), found := p.found + (c - m - p.warm) } := by
  split
  · refine PoolRec.move_eq (by decide) ?_ ?_ ?_
    all_goals
      simp only [PoolRec.at]
      omega
  · refine PoolRec.move_eq (by decide) ?_ ?_ ?_
    all_goals
      simp only [PoolRec.at]
      omega

theorem PoolRec.move_recount_bytes (p : PoolRec) (c m : Nat) :
    (if c < m then p.move .cool .warm (m - c) else p.move .warm .cool (c - m)).2.bytes =
      if c < m then u16 (min (m - c) p.cool) ++ u16 (m - c - min (m - c) p.cool)
      else u16 (min (c - m) p.warm) ++ u16 (c - m - min (c - m) p.warm) := by
  split <;> rfl

/-- Counting restarts at a warmer: SUB-COUNT and ERROR RUN 0, ENCODER FAULT clear, PHASE PAIR the levels present (R97). -/
def State.recounted (w : WarmerIx) (s : State) : State :=
  s.setWarmer w { s.ppu.warmers[w] with sub := 0, errorRun := 0, encoderFault := false, pair := s.pins.encoders[w] }

/-- The restart of counting, beside the fault monitor. -/
theorem Ev.restartCounting_still (w : WarmerIx) (e : Ev) : (e.restartCounting w).s.still = (e.s.recounted w).still :=
  Ev.condEnds_still ..

theorem State.recounted_still {s t : State} (h : t.still = s.still) (w : WarmerIx) :
    (t.recounted w).still = (s.recounted w).still := by
  obtain ⟨hclock, hprobes, hverify, hpba, hpools, hwarmers, hdlu, hpins, hpending⟩ := State.still_eq h
  simp only [State.still, State.recounted, State.setWarmer, hclock, hprobes, hverify, hpba, hpools, hwarmers, hdlu, hpins,
    hpending]

/-- Plates carried to or from a warmer, which takes a new COUNT and starts counting anew. -/
theorem State.carry_recounted (w : WarmerIx) (src dst : Place) (n m : Nat) (s : State) :
    let r := s.ppu.warmers[w]
    (s.carry w src dst n m).recounted w =
      (s.setPool r.kind ((s.ppu.pools[r.kind]).move src dst n).1).setWarmer w
        { r with count := m, sub := 0, errorRun := 0, encoderFault := false, pair := s.pins.encoders[w] } := by
  simp only [State.recounted, State.carry, State.setCount, State.setPool, State.setWarmer, get_set_same, set_set_same]

theorem exec_warmerCount (x : Station) (warmer n : Byte) (s : State) :
    exec (.warmerCount x warmer n) s = concluded x 0x44 (cmdWarmerCount warmer n (Ev.start s)) := by
  rfl

section Recount
variable {warmer : Byte} {w : WarmerIx} (hw : warmer.toNat = w.val) (n : Byte) (s : State)
include hw

theorem cmdWarmerCount_uninstalled (h : (s.ppu.warmers[w]).capacity = 0) :
    cmdWarmerCount warmer n (Ev.start s) = (Ev.start s, refuse .unavailable) := by
  have hout : (!(s.ppu.warmers[w]).installed) = true := by
    rw [WarmerRec.installed, h]
    rfl
  rw [cmdWarmerCount, withIndex_some w hw]
  exact if_pos hout

/-- A taken recount: plates go to the warmer or leave it, and none are found where the COUNT stays (R106). -/
theorem cmdWarmerCount_taken (h : 0 < (s.ppu.warmers[w]).capacity) :
    let r := s.ppu.warmers[w]
    let p := s.ppu.pools[r.kind]
    let m := min n.toNat r.capacity
    let recount : Ev → Ev := fun e => (e.on (State.setCount w m)).restartCounting w
    let result : Result := if r.capacity < n.toNat then .clamped else .ok
    (r.count < m → cmdWarmerCount warmer n (Ev.start s) =
      ((recount ((Ev.start s).movement r.kind .cool .warm (m - r.count)).1).evaluate r.kind,
        ⟨result, (p.move .cool .warm (m - r.count)).2.bytes⟩)) ∧
    (m < r.count → cmdWarmerCount warmer n (Ev.start s) =
      ((recount ((Ev.start s).movement r.kind .warm .cool (r.count - m)).1).revoke r.kind,
        ⟨result, (p.move .warm .cool (r.count - m)).2.bytes⟩)) ∧
    (r.count = m → cmdWarmerCount warmer n (Ev.start s) = (recount (Ev.start s), ⟨result, (Moved.mk 0 0).bytes⟩)) := by
  intro r p m recount result
  have hin : ¬ (!r.installed) = true := by
    rw [WarmerRec.installed, decide_eq_true h]
    decide
  have hresult : taken (decide (r.capacity < n.toNat)) = result := taken_decide _
  have hcmd : cmdWarmerCount warmer n (Ev.start s) =
      if r.count < m then
        ((recount ((Ev.start s).movement r.kind .cool .warm (m - r.count)).1).evaluate r.kind,
          ⟨taken (decide (r.capacity < n.toNat)), (p.move .cool .warm (m - r.count)).2.bytes⟩)
      else if m < r.count then
        ((recount ((Ev.start s).movement r.kind .warm .cool (r.count - m)).1).revoke r.kind,
          ⟨taken (decide (r.capacity < n.toNat)), (p.move .warm .cool (r.count - m)).2.bytes⟩)
      else (recount (Ev.start s), ⟨taken (decide (r.capacity < n.toNat)), (Moved.mk 0 0).bytes⟩) := by
    rw [cmdWarmerCount, withIndex_some w hw]
    exact if_neg hin
  rw [hresult] at hcmd
  refine ⟨fun hup => hcmd.trans (if_pos hup), fun hdown => hcmd.trans ((if_neg ?_).trans (if_pos hdown)),
    fun hsame => hcmd.trans ((if_neg ?_).trans (if_neg ?_))⟩
  all_goals omega

/-- The answer of a taken recount, and the state after it beside what it causes at the reservations and the fault monitor. -/
theorem cmdWarmerCount_still (h : 0 < (s.ppu.warmers[w]).capacity)
    (hcool : (s.ppu.pools[(s.ppu.warmers[w]).kind]).cool < 4294967296)
    (hstock : (s.ppu.pools[(s.ppu.warmers[w]).kind]).stock < 4294967296)
    (hfound : (s.ppu.pools[(s.ppu.warmers[w]).kind]).found < 4294967296) :
    let r := s.ppu.warmers[w]
    let p := s.ppu.pools[r.kind]
    let m := min n.toNat r.capacity
    let moved := if r.count < m then p.move .cool .warm (m - r.count) else p.move .warm .cool (r.count - m)
    ∃ e, cmdWarmerCount warmer n (Ev.start s) = (e, ⟨if r.capacity < n.toNat then .clamped else .ok, moved.2.bytes⟩) ∧
      e.s.still = ((s.setPool r.kind moved.1).setWarmer w
        { r with count := m, sub := 0, errorRun := 0, encoderFault := false, pair := s.pins.encoders[w] }).still := by
  intro r p m moved
  obtain ⟨hup, hdown, hsame⟩ := cmdWarmerCount_taken hw n s h
  rcases Nat.lt_trichotomy r.count m with hlt | heq | hgt
  · have hmoved : moved = p.move .cool .warm (m - r.count) := if_pos hlt
    rw [hmoved]
    refine ⟨_, hup hlt, (Ev.evaluate_still ..).trans ((Ev.restartCounting_still ..).trans ?_)⟩
    rw [← State.carry_recounted]
    exact State.recounted_still (State.still_of_desk (Ev.carry_desk (by decide) (by decide) w (m - r.count) m (Ev.start s))) w
  · have hmoved : moved = (p, ⟨0, 0⟩) := by
      refine (if_neg heq.not_lt).trans ?_
      rw [heq, Nat.sub_self]
      exact PoolRec.move_none (by decide) hcool hstock hfound
    have hpools : s.setPool r.kind p = s := by rw [State.setPool, set_get_same]
    rw [hmoved, hpools]
    refine ⟨_, hsame heq, (Ev.restartCounting_still ..).trans ?_⟩
    simp only [Ev.on, Ev.start_s, State.recounted, State.setCount, State.setWarmer, get_set_same, set_set_same]
    rfl
  · have hmoved : moved = p.move .warm .cool (r.count - m) := if_neg hgt.not_gt
    rw [hmoved]
    refine ⟨_, hdown hgt, (Ev.revoke_still ..).trans ((Ev.restartCounting_still ..).trans ?_)⟩
    rw [← State.carry_recounted]
    exact State.recounted_still (State.still_of_desk (Ev.carry_desk (by decide) (by decide) w (r.count - m) m (Ev.start s))) w

end Recount

/-- WARMER COUNT, whole (R106). -/
theorem exec_warmerCount_rule (x : Station) (warmer n : Byte) (s : State) :
    (7 < warmer.toNat → exec (.warmerCount x warmer n) s = .next (s.setAnswer x ⟨0x44, ⟨.badArgument, []⟩⟩)) ∧
    ∀ w : WarmerIx, warmer.toNat = w.val →
      let r := s.ppu.warmers[w]
      let p := s.ppu.pools[r.kind]
      let m := min n.toNat r.capacity
      (r.capacity = 0 → exec (.warmerCount x warmer n) s = .next (s.setAnswer x ⟨0x44, ⟨.unavailable, []⟩⟩)) ∧
      (0 < r.capacity → p.warm + m < 4294967296 → p.cool + r.count < 4294967296 → p.stock + m + r.count < 4294967296 →
        p.found + m + r.count < 4294967296 →
        ∃ t, exec (.warmerCount x warmer n) s = .next t ∧
          t.ppu.warmers = s.ppu.warmers.set w
            { r with count := m, sub := 0, errorRun := 0, encoderFault := false, pair := s.pins.encoders[w] } ∧
          t.ppu.pools = s.ppu.pools.set r.kind
            (if r.count < m then
              { p with warm := p.warm + (m - r.count), cool := p.cool - (m - r.count)
                       stock := p.stock + (m - r.count - p.cool), found := p.found + (m - r.count - p.cool) }
            else
              { p with warm := p.warm - (r.count - m), cool := p.cool + (r.count - m)
                       stock := p.stock + (r.count - m - p.warm), found := p.found + (r.count - m - p.warm) }) ∧
          (t.sp.ports[x]).answer = some ⟨0x44, ⟨if r.capacity < n.toNat then .clamped else .ok,
            if r.count < m then u16 (min (m - r.count) p.cool) ++ u16 (m - r.count - min (m - r.count) p.cool)
            else u16 (min (r.count - m) p.warm) ++ u16 (r.count - m - min (r.count - m) p.warm)⟩⟩ ∧
          t.clock = s.clock ∧ t.hlu.probes = s.hlu.probes ∧ t.pba = s.pba ∧ t.dlu = s.dlu ∧ t.pending = s.pending) := by
  rw [exec_warmerCount]
  refine ⟨fun h => ?_, fun w hw => ?_⟩
  · rw [cmdWarmerCount, withIndex_none h]
    exact concluded_start ..
  intro r p m
  refine ⟨fun h => ?_, fun h hwarm hcool hstock hfound => ?_⟩
  · rw [cmdWarmerCount_uninstalled hw n s h]
    exact concluded_start ..
  obtain ⟨hc, hs, hf⟩ : p.cool < 4294967296 ∧ p.stock < 4294967296 ∧ p.found < 4294967296 := by omega
  obtain ⟨e, hcmd, hstill⟩ := cmdWarmerCount_still hw n s h hc hs hf
  obtain ⟨hclock, hprobes, -, hpba, hpools, hwarmers, hdlu, -, hpending⟩ := State.still_eq ((Ev.finish_still e).trans hstill)
  rw [hcmd, PoolRec.move_recount_bytes]
  exact ⟨_, rfl, hwarmers,
    hpools.trans (congrArg (fun q => s.ppu.pools.set r.kind q) (PoolRec.move_recount hwarm hcool hstock hfound)),
    State.setAnswer_get .., hclock, hprobes, hpba, hdlu, hpending⟩

end Sys2Proof.Machine
end

section
/-! PROOFS. SET WARMER, and READINESS judged against a reading (R93, R94, R101, R102). -/

namespace Sys2Proof.Machine

open Sys2Proof

/-! ### READINESS against the present reading (R101, R102) -/

theorem LoadState.down_eq_false (x : LoadState) : x.down = false ↔ x = .enabled ∨ x = .testing := by
  cases x <;> decide

/-- A warmer record judged against the present reading of its probe, its load being `l`. -/
def WarmerRec.judged (r : WarmerRec) (l : LoadRec) (p : ProbeRec) : WarmerRec :=
  if r.readiness = .cold then
    if 0 < r.capacity ∧ 0 < l.rating ∧ (l.state = .enabled ∨ l.state = .testing) ∧ p.settled = true ∧
        r.setpoint - r.band ≤ p.reading then
      { r with readiness := .soaking, soakLeft := r.soakTime }
    else r
  else if p.settled = true ∧ p.reading < r.setpoint - r.band then r.cooled
  else r

theorem State.setWarmer_self (w : WarmerIx) (s : State) : s.setWarmer w s.ppu.warmers[w] = s := by
  rw [State.setWarmer, set_get_same]

theorem State.judgeWarmer_eq (w : WarmerIx) (s : State) :
    s.judgeWarmer w = s.setWarmer w ((s.ppu.warmers[w]).judged s.hlu.loads[warmerLoad w] s.hlu.probes[warmerProbe w]) := by
  have hheats (r : WarmerRec) (l : LoadRec) (p : ProbeRec) :
      (r.installed && l.installed && !l.state.down && p.settled && !r.below p) = true ↔
        0 < r.capacity ∧ 0 < l.rating ∧ (l.state = .enabled ∨ l.state = .testing) ∧ p.settled = true ∧
          r.setpoint - r.band ≤ p.reading := by
    simp only [Bool.and_eq_true, Bool.not_eq_true', WarmerRec.installed, LoadRec.installed, WarmerRec.below, decide_eq_true_eq,
      decide_eq_false_iff_not, LoadState.down_eq_false, Int.not_lt, and_assoc]
  have hcools (r : WarmerRec) (p : ProbeRec) :
      (p.settled && r.below p) = true ↔ p.settled = true ∧ p.reading < r.setpoint - r.band := by
    simp only [Bool.and_eq_true, WarmerRec.below, decide_eq_true_eq]
  unfold State.judgeWarmer WarmerRec.judged
  simp only [hheats, hcools]
  cases hready : (s.ppu.warmers[w]).readiness
  all_goals
    simp only [reduceCtorEq, if_true, if_false]
    split
    · rfl
    · exact (s.setWarmer_self w).symm

/-- The judgement in other words: a record whose fields are known. -/
theorem WarmerRec.judged_eq {q : WarmerRec} {n soak : Nat} {setpoint band : Int} (hcap : 0 < q.capacity ↔ 0 < n)
    (hsoak : q.soakTime = soak) (hset : q.setpoint = setpoint) (hband : q.band = band) (l : LoadRec) (p : ProbeRec) :
    q.judged l p =
      if q.readiness = .cold then
        if 0 < n ∧ 0 < l.rating ∧ (l.state = .enabled ∨ l.state = .testing) ∧ p.settled = true ∧
            setpoint - band ≤ p.reading then
          { q with readiness := .soaking, soakLeft := soak }
        else q
      else if p.settled = true ∧ p.reading < setpoint - band then { q with readiness := .cold, soakLeft := 0 }
      else q := by
  subst hsoak hset hband
  unfold WarmerRec.judged
  simp only [hcap]
  rfl

/-- What a judgement leaves: the setpoint, and whether the warmer is installed. -/
theorem WarmerRec.judged_setpoint (r : WarmerRec) (l : LoadRec) (p : ProbeRec) :
    (r.judged l p).setpoint = r.setpoint ∧ (r.judged l p).capacity = r.capacity := by
  unfold WarmerRec.judged
  split_ifs <;> exact ⟨rfl, rfl⟩

/-! ### A setpoint handed to a load (R49) -/

theorem State.handSetpoint_hlu {s t : State} (h : t.hlu = s.hlu) (l : LoadIx) (v : Int) (a : Bool) :
    (t.handSetpoint l v a).hlu = (s.handSetpoint l v a).hlu := by
  unfold State.handSetpoint State.recompute
  simp only [h]
  split
  · exact h
  · simp only [State.setLoad, h]

/-! ### SET WARMER (R93) -/

/-- A warmer's record and the fault monitor are written. -/
def State.warmed (w : WarmerIx) (r : WarmerRec) (f : Fm) (s : State) : State := (s.setWarmer w r).setFm f

/-- Counting restarts at a warmer record, the levels present being `pair` (R97). -/
def WarmerRec.restarted (r : WarmerRec) (pair : Pair) : WarmerRec :=
  { r with sub := 0, errorRun := 0, encoderFault := false, pair := pair }

/-- A report that the encoder condition ends for a warmer, on the fault monitor (R97). -/
def Fm.encoderEnds (f : Fm) (w : WarmerIx) : Fm :=
  f.setCond .encoder { f.conds[Cond.encoder.index] with
    active := (f.conds[Cond.encoder.index]).active.filter (fun a => decide (a ≠ w.val)) }

theorem Ev.restartCounting_warmed (w : WarmerIx) (r : WarmerRec) (f : Fm) (s : State) :
    (Ev.start (s.warmed w r f)).restartCounting w = Ev.start (s.warmed w (r.restarted s.pins.encoders[w]) (f.encoderEnds w)) := by
  have hget : (s.warmed w r f).ppu.warmers[w] = r := get_set_same ..
  unfold Ev.restartCounting
  rw [Ev.start_on, hget]
  refine congrArg Ev.start ?_
  simp only [State.warmed, State.setWarmer, State.setFm, set_set_same]
  rfl

theorem exec_setWarmer (x : Station) (warmer : Byte) (im : WarmerImage) (s : State) :
    exec (.setWarmer x warmer im) s = concluded x 0x45 (cmdSetWarmer warmer im (Ev.start s)) := by
  rfl

/-- The record a taken SET WARMER leaves before READINESS is judged: counting restarts where it installs the warmer, and the
warmer rests where it uninstalls it (R93, R97, R102). -/
def WarmerRec.dressed (r : WarmerRec) (k : Kind) (im : WarmerImage) (pair : Pair) : WarmerRec :=
  let c := r.configured k im
  let counting := if r.capacity = 0 ∧ 0 < c.capacity then c.restarted pair else c
  if 0 < r.capacity ∧ c.capacity = 0 then counting.cooled else counting

section SetWarmer
variable {warmer : Byte} {im : WarmerImage} {w : WarmerIx} {k : Kind} (hw : warmer.toNat = w.val) (hk : im.kind.toNat = k.val)
  (s : State)
include hw hk

theorem cmdSetWarmer_busy (h : (k ≠ (s.ppu.warmers[w]).kind ∧ 0 < (s.ppu.warmers[w]).count) ∨
      ((s.ppu.warmers[w]).configured k im).capacity < (s.ppu.warmers[w]).count) :
    cmdSetWarmer warmer im (Ev.start s) = (Ev.start s, refuse .busy) := by
  rw [cmdSetWarmer, withIndex_some w hw, withIndex_some k hk]
  by_cases hkind : k ≠ (s.ppu.warmers[w]).kind ∧ 0 < (s.ppu.warmers[w]).count
  · exact if_pos hkind
  · exact (if_neg hkind).trans (if_pos (h.resolve_left hkind))

/-- A taken SET WARMER (R93, R94). -/
theorem cmdSetWarmer_taken (hkind : ¬ (k ≠ (s.ppu.warmers[w]).kind ∧ 0 < (s.ppu.warmers[w]).count))
    (hroom : (s.ppu.warmers[w]).count ≤ ((s.ppu.warmers[w]).configured k im).capacity) :
    let r := s.ppu.warmers[w]
    let installs := r.capacity = 0 ∧ 0 < (r.configured k im).capacity
    let u := s.warmed w (r.dressed k im s.pins.encoders[w]) (if installs then s.fm.encoderEnds w else s.fm)
    cmdSetWarmer warmer im (Ev.start s) =
      (Ev.start ((u.judgeWarmer w).handWarmer w), ⟨taken (warmerClamped im), []⟩) := by
  intro r installs u
  let c := r.configured k im
  let e1 := (Ev.start s).on (State.setWarmer w c)
  have hstart : e1 = Ev.start (s.warmed w c s.fm) := rfl
  have hrestart : (if installs then e1.restartCounting w else e1) =
      Ev.start (s.warmed w (if installs then c.restarted s.pins.encoders[w] else c)
        (if installs then s.fm.encoderEnds w else s.fm)) := by
    rw [hstart, Ev.restartCounting_warmed]
    split <;> rfl
  have hrest (q : WarmerRec) (f : Fm) :
      (if 0 < r.capacity ∧ c.capacity = 0 then (Ev.start (s.warmed w q f)).on (State.coolWarmer w)
        else Ev.start (s.warmed w q f)) =
        Ev.start (s.warmed w (if 0 < r.capacity ∧ c.capacity = 0 then q.cooled else q) f) := by
    split
    · simp only [Ev.start_on, State.coolWarmer, State.warmed, State.setWarmer, State.setFm, get_set_same, set_set_same]
    · rfl
  have hcmd : cmdSetWarmer warmer im (Ev.start s) =
      (((if 0 < r.capacity ∧ c.capacity = 0 then (if installs then e1.restartCounting w else e1).on (State.coolWarmer w)
        else (if installs then e1.restartCounting w else e1)).on (State.judgeWarmer w)).on (State.handWarmer w),
        ⟨taken (warmerClamped im), []⟩) := by
    rw [cmdSetWarmer, withIndex_some w hw, withIndex_some k hk]
    exact (if_neg hkind).trans (if_neg (Nat.not_lt.mpr hroom))
  rw [hcmd, hrestart, hrest]
  rfl

end SetWarmer

/-- Whether SET WARMER answers OK (R93). -/
theorem taken_warmerClamped (im : WarmerImage) :
    taken (warmerClamped im) =
      if im.capacity.toNat ≤ 240 ∧ 2 ≤ im.pitch.toNat ∧ im.pitch.toNat ≤ 64 ∧ 60 ≤ im.soakTime.toNat ∧
        im.soakTime.toNat ≤ 900 ∧ 0 ≤ im.setpoint.toInt ∧ im.setpoint.toInt ≤ 3500 ∧ 10 ≤ im.band.toInt ∧
        im.band.toInt ≤ 500 then .ok else .clamped := by
  have hclamped : warmerClamped im = true ↔ ¬ (im.capacity.toNat ≤ 240 ∧ 2 ≤ im.pitch.toNat ∧ im.pitch.toNat ≤ 64 ∧
      60 ≤ im.soakTime.toNat ∧ im.soakTime.toNat ≤ 900 ∧ 0 ≤ im.setpoint.toInt ∧ im.setpoint.toInt ≤ 3500 ∧
      10 ≤ im.band.toInt ∧ im.band.toInt ≤ 500) := by
    simp only [warmerClamped, Bool.or_eq_true, decide_eq_true_eq]
    simp only [dC]
    omega
  unfold taken
  simp only [hclamped, ite_not]

/-- The fields of the record a taken SET WARMER leaves before READINESS is judged. -/
theorem WarmerRec.dressed_fields (r : WarmerRec) (k : Kind) (im : WarmerImage) (pair : Pair) :
    (r.dressed k im pair).capacity = min 240 im.capacity.toNat ∧
      (r.dressed k im pair).soakTime = clampNat 60 900 im.soakTime.toNat ∧
      (r.dressed k im pair).setpoint = clampInt 0 3500 im.setpoint.toInt ∧
      (r.dressed k im pair).band = clampInt 10 500 im.band.toInt := by
  unfold WarmerRec.dressed WarmerRec.configured
  simp only [clampNat_zero]
  split_ifs <;> exact ⟨rfl, rfl, rfl, rfl⟩

theorem WarmerRec.configured_capacity (r : WarmerRec) (k : Kind) (im : WarmerImage) :
    (r.configured k im).capacity = min 240 im.capacity.toNat := clampNat_zero ..

/-- SET WARMER installs a warmer, or uninstalls it, where its CAPACITY says so (R91, R93). -/
theorem WarmerRec.configured_installed (r : WarmerRec) (k : Kind) (im : WarmerImage) :
    (0 < (r.configured k im).capacity ↔ 0 < im.capacity.toNat) ∧
      ((r.configured k im).capacity = 0 ↔ im.capacity.toNat = 0) := by
  rw [WarmerRec.configured_capacity]
  omega

/-- The state after a taken SET WARMER: the warmer's record, its load, and the encoder condition where the warmer is installed
(R93, R94). -/
theorem exec_setWarmer_taken {warmer : Byte} {im : WarmerImage} {w : WarmerIx} {k : Kind} (hw : warmer.toNat = w.val)
    (hk : im.kind.toNat = k.val) (x : Station) (s : State)
    (hkind : ¬ (k ≠ (s.ppu.warmers[w]).kind ∧ 0 < (s.ppu.warmers[w]).count))
    (hroom : (s.ppu.warmers[w]).count ≤ min 240 im.capacity.toNat) :
    let r := s.ppu.warmers[w]
    let u := s.warmed w ((r.dressed k im s.pins.encoders[w]).judged s.hlu.loads[warmerLoad w] s.hlu.probes[warmerProbe w])
      (if r.capacity = 0 ∧ 0 < im.capacity.toNat then s.fm.encoderEnds w else s.fm)
    exec (.setWarmer x warmer im) s = .next
      ((u.handSetpoint (warmerLoad w) (clampInt 0 3500 im.setpoint.toInt) (decide (0 < im.capacity.toNat))).setAnswer x
        ⟨0x45, ⟨taken (warmerClamped im), []⟩⟩) := by
  intro r u
  have hcap : (s.ppu.warmers[w]).count ≤ ((s.ppu.warmers[w]).configured k im).capacity := by
    rwa [WarmerRec.configured_capacity]
  obtain ⟨hc, -, hset, -⟩ := WarmerRec.dressed_fields r k im s.pins.encoders[w]
  obtain ⟨hset', hc'⟩ := WarmerRec.judged_setpoint (r.dressed k im s.pins.encoders[w]) s.hlu.loads[warmerLoad w]
    s.hlu.probes[warmerProbe w]
  have hfm : (if r.capacity = 0 ∧ 0 < (r.configured k im).capacity then s.fm.encoderEnds w else s.fm) =
      if r.capacity = 0 ∧ 0 < im.capacity.toNat then s.fm.encoderEnds w else s.fm := by
    simp only [(WarmerRec.configured_installed r k im).1]
  have hjudge (q : WarmerRec) (f : Fm) : (s.warmed w q f).judgeWarmer w =
      s.warmed w (q.judged s.hlu.loads[warmerLoad w] s.hlu.probes[warmerProbe w]) f := by
    rw [State.judgeWarmer_eq]
    simp only [State.warmed, State.setWarmer, State.setFm, get_set_same, set_set_same]
  have hinstalled : decide (0 < min 240 im.capacity.toNat) = decide (0 < im.capacity.toNat) := decide_eq_decide.mpr (by omega)
  have hgive : u.handWarmer w =
      u.handSetpoint (warmerLoad w) (clampInt 0 3500 im.setpoint.toInt) (decide (0 < im.capacity.toNat)) := by
    have hget : u.ppu.warmers[w] =
      (r.dressed k im s.pins.encoders[w]).judged s.hlu.loads[warmerLoad w] s.hlu.probes[warmerProbe w] := get_set_same ..
    rw [State.handWarmer, hget, WarmerRec.installed, hset', hset, hc', hc, hinstalled]
  rw [exec_setWarmer, cmdSetWarmer_taken hw hk s hkind hcap, hfm, hjudge, hgive]
  exact concluded_quiet _ _ _ _ rfl

/-- A setpoint handed to a load leaves the rest of the state, and makes of the loads what it makes of them anywhere (R49). -/
theorem State.handSetpoint_warmed (l : LoadIx) (v : Int) (a : Bool) (w : WarmerIx) (r : WarmerRec) (f : Fm) (s : State) :
    (s.warmed w r f).handSetpoint l v a = { s.warmed w r f with hlu := (s.handSetpoint l v a).hlu } := by
  obtain ⟨q, hq, -⟩ := State.handSetpoint_eq l v a (s.warmed w r f)
  rw [← State.handSetpoint_hlu (s := s) (t := s.warmed w r f) rfl, hq]
  rfl

/-- The record a taken SET WARMER leaves before READINESS is judged, written out (R93). -/
theorem WarmerRec.dressed_eq (r : WarmerRec) (k : Kind) (im : WarmerImage) (pair : Pair) :
    let written : WarmerRec :=
      { r with
        kind := k, capacity := min 240 im.capacity.toNat, pitch := clampNat 2 64 im.pitch.toNat
        soakTime := clampNat 60 900 im.soakTime.toNat, setpoint := clampInt 0 3500 im.setpoint.toInt
        band := clampInt 10 500 im.band.toInt
        sub := if clampNat 2 64 im.pitch.toNat = r.pitch then r.sub else 0 }
    let counting : WarmerRec :=
      if r.capacity = 0 ∧ 0 < im.capacity.toNat then { written with sub := 0, errorRun := 0, encoderFault := false, pair := pair }
      else written
    r.dressed k im pair =
      if 0 < r.capacity ∧ im.capacity.toNat = 0 then { counting with readiness := .cold, soakLeft := 0 } else counting := by
  intro written counting
  have hwritten : r.configured k im = written := by
    rw [WarmerRec.configured, clampNat_zero]
    rfl
  obtain ⟨hinstalls, hremoves⟩ := WarmerRec.configured_installed r k im
  unfold WarmerRec.dressed
  simp only [hinstalls, hremoves]
  rw [hwritten]
  rfl

/-- The refusals of SET WARMER (R93). -/
theorem exec_setWarmer_refused (x : Station) (warmer : Byte) (im : WarmerImage) (s : State)
    (h : 7 < warmer.toNat ∨ 3 < im.kind.toNat) :
    exec (.setWarmer x warmer im) s = .next (s.setAnswer x ⟨0x45, ⟨.badArgument, []⟩⟩) := by
  rw [exec_setWarmer, cmdSetWarmer]
  by_cases hw : 7 < warmer.toNat
  · rw [withIndex_none hw]
    exact concluded_start ..
  · rw [withIndex_some ⟨warmer.toNat, by omega⟩ rfl, withIndex_none (h.resolve_left hw)]
    exact concluded_start ..

theorem exec_setWarmer_busy {warmer : Byte} {im : WarmerImage} {w : WarmerIx} {k : Kind} (hw : warmer.toNat = w.val)
    (hk : im.kind.toNat = k.val) (x : Station) (s : State)
    (h : (k ≠ (s.ppu.warmers[w]).kind ∧ 0 < (s.ppu.warmers[w]).count) ∨ min 240 im.capacity.toNat < (s.ppu.warmers[w]).count) :
    exec (.setWarmer x warmer im) s = .next (s.setAnswer x ⟨0x45, ⟨.busy, []⟩⟩) := by
  rw [exec_setWarmer, cmdSetWarmer_busy hw hk s (by rwa [WarmerRec.configured_capacity])]
  exact concluded_start ..

/-- What a taken SET WARMER leaves (R93, R94, R101, R102). -/
theorem exec_setWarmer_leaves {warmer : Byte} {im : WarmerImage} {w : WarmerIx} {k : Kind} (hw : warmer.toNat = w.val)
    (hk : im.kind.toNat = k.val) (x : Station) (s : State)
    (hkind : ¬ (k ≠ (s.ppu.warmers[w]).kind ∧ 0 < (s.ppu.warmers[w]).count))
    (hroom : (s.ppu.warmers[w]).count ≤ min 240 im.capacity.toNat) :
    let r := s.ppu.warmers[w]
    ∃ t, exec (.setWarmer x warmer im) s = .next t ∧
      t.ppu.warmers = s.ppu.warmers.set w
        ((r.dressed k im s.pins.encoders[w]).judged s.hlu.loads[warmerLoad w] s.hlu.probes[warmerProbe w]) ∧
      t.hlu = (s.handSetpoint (warmerLoad w) (clampInt 0 3500 im.setpoint.toInt) (decide (0 < im.capacity.toNat))).hlu ∧
      t.fm = (if r.capacity = 0 ∧ 0 < im.capacity.toNat then s.fm.encoderEnds w else s.fm) ∧
      (t.sp.ports[x]).answer = some ⟨0x45, ⟨taken (warmerClamped im), []⟩⟩ ∧
      t.ppu.pools = s.ppu.pools ∧ t.ppu.entries = s.ppu.entries ∧ t.ppu.ageList = s.ppu.ageList ∧ t.clock = s.clock ∧
      t.fse = s.fse ∧ t.pba = s.pba ∧ t.dlu = s.dlu ∧ t.pgu = s.pgu ∧ t.sp.queues = s.sp.queues ∧ t.pins = s.pins ∧
      t.pending = s.pending := by
  intro r
  rw [exec_setWarmer_taken hw hk x s hkind hroom, State.handSetpoint_warmed]
  exact ⟨_, rfl, rfl, rfl, rfl, State.setAnswer_get .., rfl, rfl, rfl, rfl, rfl, rfl, rfl, rfl, rfl, rfl, rfl⟩

end Sys2Proof.Machine
end

section
/-! PROOFS. READINESS at the probe of a warmer (R101, R102). -/

namespace Sys2Proof.Machine

open Sys2Proof

/-! ### The wiring of a warmer -/

section Wiring
variable (w : WarmerIx)

theorem loadOf_warmerProbe : loadOf (warmerProbe w) = some (warmerLoad w) := by
  unfold loadOf
  rw [dif_neg (by simp only [warmerProbe]; omega), dif_pos (by simp only [warmerProbe]; omega)]
  exact congrArg some (Fin.ext (by simp only [warmerProbe, warmerLoad]; omega))

theorem cavityOf_warmerProbe : cavityOf (warmerProbe w) = none := dif_neg (by simp only [warmerProbe]; omega)

theorem coreOf_warmerProbe : coreOf (warmerProbe w) = none := dif_neg (by simp only [warmerProbe]; omega)

theorem warmerOf_warmerProbe : warmerOf (warmerProbe w) = some w := by
  unfold warmerOf
  rw [dif_pos (by simp only [warmerProbe]; omega)]
  exact congrArg some (Fin.ext (Nat.add_sub_cancel_left 24 w.val))

theorem warmerProbe_ne_rinseProbe : warmerProbe w ≠ rinseProbe := by
  simp only [warmerProbe, rinseProbe, ne_eq, Fin.ext_iff]
  omega

/-! ### A reading, a fault, and a load lost (R101, R102) -/

theorem Ev.readingUpdate_warmerProbe (e : Ev) :
    e.readingUpdate (warmerProbe w) = e.on (fun s => (s.recompute (warmerLoad w)).judgeWarmer w) := by
  unfold Ev.readingUpdate
  rw [loadOf_warmerProbe, cavityOf_warmerProbe, coreOf_warmerProbe, warmerOf_warmerProbe]
  exact if_neg (warmerProbe_ne_rinseProbe w)

theorem Ev.probeFault_warmerProbe (e : Ev) :
    e.probeFault (warmerProbe w) = e.on (fun s =>
      ((s.setProbe (warmerProbe w) { s.hlu.probes[warmerProbe w] with settled := false, window := [] }).recompute
        (warmerLoad w)).coolWarmer w) := by
  unfold Ev.probeFault
  rw [loadOf_warmerProbe, cavityOf_warmerProbe, coreOf_warmerProbe, warmerOf_warmerProbe]
  exact if_neg (warmerProbe_ne_rinseProbe w)

theorem Ev.loadLost_warmerLoad (e : Ev) : e.loadLost (warmerLoad w) = e.on (fun s => s.coolWarmer w) := by
  unfold Ev.loadLost
  rw [ovenOf_warmerLoad, warmerOfLoad_warmerLoad]

end Wiring

/-- A warmer record judged against a reading `v` of its probe, its load being `l` (R101, R102). -/
def WarmerRec.judgedAt (r : WarmerRec) (l : LoadRec) (v : Int) : WarmerRec :=
  if r.readiness = .cold then
    if 0 < r.capacity ∧ 0 < l.rating ∧ (l.state = .enabled ∨ l.state = .testing) ∧ r.setpoint - r.band ≤ v then
      { r with readiness := .soaking, soakLeft := r.soakTime }
    else r
  else if v < r.setpoint - r.band then r.cooled
  else r

theorem WarmerRec.judged_settled {p : ProbeRec} (h : p.settled = true) (r : WarmerRec) (l : LoadRec) :
    r.judged l p = r.judgedAt l p.reading := by
  unfold WarmerRec.judged WarmerRec.judgedAt
  simp only [h, true_and]

/-- A judgement reads of the load whether it is installed, and its STATE. -/
theorem WarmerRec.judgedAt_congr {l m : LoadRec} (hrating : m.rating = l.rating) (hstate : m.state = l.state)
    (r : WarmerRec) (v : Int) :
    r.judgedAt m v = r.judgedAt l v := by
  unfold WarmerRec.judgedAt
  rw [hrating, hstate]

/-- A warmer that rests while its load is down stays at rest (R101). -/
theorem WarmerRec.judgedAt_down {l : LoadRec} (h : l.state = .tripped) (r : WarmerRec) (v : Int) :
    r.cooled.judgedAt l v = r.cooled := by
  have hno : ¬ (0 < r.cooled.capacity ∧ 0 < l.rating ∧ (l.state = .enabled ∨ l.state = .testing) ∧
      r.cooled.setpoint - r.cooled.band ≤ v) := by
    rw [h]
    simp
  exact (if_pos rfl).trans (if_neg hno)

theorem State.recompute_rating (l : LoadIx) (s : State) : ((s.recompute l).hlu.loads[l]).rating = (s.hlu.loads[l]).rating := by
  obtain ⟨request, preload, shadow, output, h⟩ := s.recompute_eq l
  rw [h, State.setLoad_get]

/-- A reading update at the probe of a warmer, the probe being settled (R101, R102). -/
theorem Ev.readingUpdate_judges {w : WarmerIx} {e : Ev} (h : (e.s.hlu.probes[warmerProbe w]).settled = true) :
    e.readingUpdate (warmerProbe w) = e.on (fun s => (s.recompute (warmerLoad w)).setWarmer w
      ((s.ppu.warmers[w]).judgedAt s.hlu.loads[warmerLoad w] (s.hlu.probes[warmerProbe w]).reading)) := by
  have hjudge : (e.s.recompute (warmerLoad w)).judgeWarmer w = (e.s.recompute (warmerLoad w)).setWarmer w
      ((e.s.ppu.warmers[w]).judgedAt e.s.hlu.loads[warmerLoad w] (e.s.hlu.probes[warmerProbe w]).reading) := by
    rw [State.judgeWarmer_eq]
    refine congrArg (fun q => (e.s.recompute (warmerLoad w)).setWarmer w q) ((WarmerRec.judged_settled h ..).trans ?_)
    exact WarmerRec.judgedAt_congr (State.recompute_rating ..) (State.recompute_state ..) ..
  rw [Ev.readingUpdate_warmerProbe]
  exact congrArg (fun s => ({ e with s := s } : Ev)) hjudge

/-! ### The trip comparator (R56) -/

/-- The comparator trips an ENABLED load (R56). -/
def LoadRec.Falls (l : LoadRec) (v : Int) : Prop := l.state = .enabled ∧ 0 < l.rating ∧ l.tripLimit ≤ v

/-- An ENABLED load becomes TRIPPED; a FAULTED one stays FAULTED with its TRIP set (R47, R56). -/
theorem LoadRec.state_off_of_tripsAt {l : LoadRec} {v : Int} (h : l.TripsAt v) :
    ({ l with trip := true } : LoadRec).off.state = if l.state = .enabled then .tripped else l.state := by
  obtain ⟨-, htest, htrip, -⟩ := h
  unfold LoadRec.state LoadRec.off
  simp only [htest, htrip]
  cases l.cutoutFail || l.checkFail
  · rfl
  · rfl

/-- A load at which the comparator trips, before its users are told (R56). -/
theorem Ev.tripping_eq (l : LoadIx) (e : Ev) :
    let g := (e.on (State.shutLoad l (fun x => { x with trip := true }))).condHolds .overheat l.val
    g.s.hlu.loads[l] = ({ e.s.hlu.loads[l] with trip := true } : LoadRec).off ∧ g.s.ppu.warmers = e.s.ppu.warmers := by
  intro g
  have hshut := State.shutLoad_eq (l := l) (f := fun x => { x with trip := true }) (s := e.s) (LoadRec.state_of_trip rfl)
  obtain ⟨-, -, hhlu, -, hppu, -⟩ := State.desk_eq (Ev.condHolds_desk .overheat l.val
    (e.on (State.shutLoad l (fun x => { x with trip := true }))))
  rw [Ev.on_s, hshut] at hhlu hppu
  exact ⟨(congrArg (fun h : Hlu => h.loads[l]) hhlu).trans (State.setLoad_get ..), congrArg Ppu.warmers hppu⟩

/-- What the trip comparator does to a warmer and its load: where it trips the load from ENABLED, the warmer returns to COLD
(R56, R102). -/
theorem Ev.compareTrip_warmer (w : WarmerIx) (v : Int) (e : Ev) :
    let l := e.s.hlu.loads[warmerLoad w]
    let f := e.compareTrip (warmerProbe w) v
    let m := f.s.hlu.loads[warmerLoad w]
    m.rating = l.rating ∧
      (l.Falls v → m.state = .tripped ∧ f.s.ppu.warmers = e.s.ppu.warmers.set w (e.s.ppu.warmers[w]).cooled) ∧
      (¬ l.Falls v → m.state = l.state ∧ f.s.ppu.warmers = e.s.ppu.warmers) := by
  intro l f m
  by_cases ht : l.TripsAt v
  · let g := (e.on (State.shutLoad (warmerLoad w) (fun x => { x with trip := true }))).condHolds .overheat (warmerLoad w).val
    obtain ⟨hload, hwarmers⟩ := Ev.tripping_eq (warmerLoad w) e
    have hf : f = g.loadChanged (warmerLoad w) l.state := Ev.compareTrip_trips (loadOf_warmerProbe w) ht
    have hm : m = ({ l with trip := true } : LoadRec).off := by
      refine Eq.trans ?_ hload
      have hhlu : f.s.hlu = g.s.hlu := hf ▸ (Ev.loadChanged_same ..).1
      exact congrArg (fun h : Hlu => h.loads[warmerLoad w]) hhlu
    have hstate := LoadRec.state_off_of_tripsAt ht
    refine ⟨by rw [hm]; rfl, fun hfalls => ?_, fun hup => ?_⟩
    · have htripped : ({ l with trip := true } : LoadRec).off.state = .tripped := hstate.trans (if_pos hfalls.1)
      have htold : g.loadChanged (warmerLoad w) l.state = g.loadLost (warmerLoad w) := by
        refine if_pos ?_
        rw [hload, htripped, hfalls.1]
        decide
      refine ⟨(congrArg LoadRec.state hm).trans htripped, ?_⟩
      rw [hf, htold, Ev.loadLost_warmerLoad]
      have hcool : (g.s.coolWarmer w).ppu.warmers = g.s.ppu.warmers.set w (g.s.ppu.warmers[w]).cooled := rfl
      refine hcool.trans ?_
      rw [hwarmers]
    · have hsame : ({ l with trip := true } : LoadRec).off.state = l.state :=
        hstate.trans (if_neg fun hen => hup ⟨hen, ht.1, ht.2.2.2⟩)
      have htold : g.loadChanged (warmerLoad w) l.state = g := by
        refine if_neg ?_
        rw [hload, hsame]
        exact fun h => h.1 rfl
      refine ⟨(congrArg LoadRec.state hm).trans hsame, ?_⟩
      rw [hf, htold, hwarmers]
  · have hpass : f = e := Ev.compareTrip_passes (loadOf_warmerProbe w) ht
    have hup : ¬ l.Falls v := fun ⟨hstate, hrating, hlimit⟩ => by
      obtain ⟨htest, -, htrip⟩ := LoadRec.state_enabled hstate
      exact ht ⟨hrating, htest, htrip, hlimit⟩
    have hm : m = l := congrArg (fun e : Ev => e.s.hlu.loads[warmerLoad w]) hpass
    exact ⟨congrArg LoadRec.rating hm, fun h => absurd h hup,
      fun _ => ⟨congrArg LoadRec.state hm, congrArg (fun e : Ev => e.s.ppu.warmers) hpass⟩⟩

/-! ### Conversions (R44, R45) -/

/-- What a valid conversion makes of a warmer's record, the trip comparator having left `f` (R44, R101, R102). -/
theorem Ev.validConversion_warmer {w : WarmerIx} {v : Int} {e : Ev} {r : ProbeRec} (hr : e.s.hlu.probes[warmerProbe w] = r) :
    let f := e.compareTrip (warmerProbe w) v
    (r.reads = true → (e.validConversion (warmerProbe w) v).s.ppu.warmers = f.s.ppu.warmers.set w
      ((f.s.ppu.warmers[w]).judgedAt f.s.hlu.loads[warmerLoad w] ((slide r.window v).sum / 4))) ∧
    (r.reads = false → (e.validConversion (warmerProbe w) v).s.ppu.warmers = f.s.ppu.warmers) := by
  intro f
  have hget : f.s.hlu.probes[warmerProbe w] = r := by rw [(State.calm_eq (Ev.compareTrip_calm (warmerProbe w) v e)).2.1, hr]
  let e1 := f.on (State.setProbe (warmerProbe w) (r.converted v))
  let e2 := if r.faulted = true ∧ 3 ≤ r.validRun then
      (e1.condEnds .probeLost (warmerProbe w).val).condEnds .probeRange (warmerProbe w).val
    else e1
  have heq : e.validConversion (warmerProbe w) v = if r.reads then e2.readingUpdate (warmerProbe w) else e2 :=
    Ev.validConversion_eq rfl hget
  have he2 : e2.s.ppu = f.s.ppu ∧ e2.s.hlu = (f.s.setProbe (warmerProbe w) (r.converted v)).hlu := by
    simp only [e2]
    split
    · exact ⟨rfl, rfl⟩
    · exact ⟨rfl, rfl⟩
  refine ⟨fun hreads => ?_, fun hreads => ?_⟩
  · have hprobe : e2.s.hlu.probes[warmerProbe w] = r.converted v := by
      rw [he2.2]
      exact State.setProbe_get ..
    have hsettled : (e2.s.hlu.probes[warmerProbe w]).settled = true := by
      rw [hprobe]
      exact if_pos hreads
    have hreading : (e2.s.hlu.probes[warmerProbe w]).reading = (slide r.window v).sum / 4 := by
      rw [hprobe]
      exact if_pos hreads
    have hload : e2.s.hlu.loads[warmerLoad w] = f.s.hlu.loads[warmerLoad w] := by
      rw [he2.2]
      rfl
    rw [heq, if_pos hreads, Ev.readingUpdate_judges hsettled, Ev.on_s, hreading, hload, he2.1]
    exact congrArg (fun p : Ppu => p.warmers.set w _) he2.1
  · rw [heq, hreads]
    exact congrArg Ppu.warmers he2.1

/-- A step that leaves a warmer record `q`, and the pool counts, the clock, the budget and the queue of commands as they were. -/
def State.Leaves (w : WarmerIx) (q : WarmerRec) (s t : State) : Prop :=
  t.ppu.warmers = s.ppu.warmers.set w q ∧ t.ppu.pools = s.ppu.pools ∧ t.clock = s.clock ∧ t.pba = s.pba ∧ t.pending = s.pending

/-- What the engine does afterwards with the reports of an event leaves the warmers and what is calm. -/
theorem Ev.finish_leaves {w : WarmerIx} {q : WarmerRec} {s : State} {e : Ev} (h : s.Leaves w q e.s) : s.Leaves w q e.finish := by
  obtain ⟨hwarmers, hpools, hclock, hpba, hpending⟩ := h
  obtain ⟨hclock', -, -, hpba', hpools', hwarmers', -, -, hpending'⟩ := State.still_eq e.finish_still
  exact ⟨hwarmers'.trans hwarmers, hpools'.trans hpools, hclock'.trans hclock, hpba'.trans hpba, hpending'.trans hpending⟩

/-- What is calm, with one probe written. -/
theorem State.leaves_of_calm {w : WarmerIx} {q : WarmerRec} {p : ProbeIx} {r : ProbeRec} {s t : State}
    (hw : t.ppu.warmers = s.ppu.warmers.set w q) (h : t.calm = (s.setProbe p r).calm) : s.Leaves w q t := by
  obtain ⟨hclock, -, hpba, hpools, -, hpending⟩ := State.calm_eq h
  exact ⟨hw, hpools, hclock, hpba, hpending⟩

section Conversions
variable {w : WarmerIx} {s : State}

/-- A valid conversion at the probe of a warmer (R44, R56, R101, R102). -/
theorem Ev.validConversion_leaves (v : Int) :
    let r := s.ppu.warmers[w]
    let l := s.hlu.loads[warmerLoad w]
    let p := (s.hlu.probes[warmerProbe w]).turned
    let t := (((Ev.start s).edged (warmerProbe w)).validConversion (warmerProbe w) v).s
    (l.Falls v → s.Leaves w r.cooled t) ∧
      (¬ l.Falls v → p.reads = true → s.Leaves w (r.judgedAt l ((slide p.window v).sum / 4)) t) ∧
      (¬ l.Falls v → p.reads = false → s.Leaves w r t) := by
  intro r l p t
  let e := (Ev.start s).edged (warmerProbe w)
  have hget : e.s.hlu.probes[warmerProbe w] = p := Ev.edged_get ..
  have hleaves {q : WarmerRec} (hq : t.ppu.warmers = s.ppu.warmers.set w q) : s.Leaves w q t := by
    obtain ⟨-, hclock, hpba, hpools, hpending⟩ := Ev.edged_calm (Ev.validConversion_calm (v := v) hget)
    exact ⟨hq, hpools, hclock, hpba, hpending⟩
  obtain ⟨hrating, hfalls, hup⟩ := Ev.compareTrip_warmer w v e
  obtain ⟨hreads, hquiet⟩ := Ev.validConversion_warmer (v := v) hget
  refine ⟨fun hl => hleaves ?_, fun hl hr => hleaves ?_, fun hl hr => hleaves ?_⟩
  · obtain ⟨hstate, hwarmers⟩ := hfalls hl
    cases hr : p.reads
    · exact (hquiet hr).trans hwarmers
    · refine (hreads hr).trans ?_
      rw [hwarmers, get_set_same, WarmerRec.judgedAt_down hstate, set_set_same]
      rfl
  · obtain ⟨hstate, hwarmers⟩ := hup hl
    refine (hreads hr).trans ?_
    rw [hwarmers, WarmerRec.judgedAt_congr hrating hstate]
    rfl
  · obtain ⟨-, hwarmers⟩ := hup hl
    exact (hquiet hr).trans (hwarmers.trans (set_get_same ..).symm)

/-- What is calm behind an edge, with one probe written. -/
theorem State.leaves_of_edged {q : WarmerRec} {p : ProbeIx} {r : ProbeRec} {t : State} (hw : t.ppu.warmers = s.ppu.warmers.set w q)
    (h : t.calm = (((Ev.start s).edged p).s.setProbe p r).calm) : s.Leaves w q t := by
  obtain ⟨-, hclock, hpba, hpools, hpending⟩ := Ev.edged_calm h
  exact ⟨hw, hpools, hclock, hpba, hpending⟩

/-- A report of the fault monitor, and a warmer that its probe's fault brings to COLD (R45, R102). -/
theorem Ev.condHolds_probeFault_warmers (c : Cond) (source : Nat) (e : Ev) :
    (e.condHolds c source).s.ppu.warmers = e.s.ppu.warmers ∧
      ((e.condHolds c source).probeFault (warmerProbe w)).s.ppu.warmers =
        e.s.ppu.warmers.set w (e.s.ppu.warmers[w]).cooled := by
  obtain ⟨-, -, -, -, -, hwarmers, -⟩ := State.still_eq (Ev.condHolds_still c source e)
  refine ⟨hwarmers, ?_⟩
  rw [Ev.probeFault_warmerProbe, ← hwarmers]
  rfl

/-- An invalid conversion at the probe of a warmer (R44, R45, R102). -/
theorem Ev.invalidConversion_leaves :
    let r := s.ppu.warmers[w]
    let p := s.hlu.probes[warmerProbe w]
    let t := (((Ev.start s).edged (warmerProbe w)).invalidConversion (warmerProbe w)).s
    (p.faulted = false → 3 ≤ p.invalidRun → s.Leaves w r.cooled t) ∧
      (p.faulted = true ∨ p.invalidRun < 3 → s.Leaves w r t) := by
  intro r p t
  let e := (Ev.start s).edged (warmerProbe w)
  have hget : e.s.hlu.probes[warmerProbe w] = p.turned := Ev.edged_get ..
  have hkept : s.ppu.warmers = s.ppu.warmers.set w r := (set_get_same ..).symm
  let f := e.on (State.setProbe (warmerProbe w) { p.turned.rejected with range := true })
  obtain ⟨hholds, hfault⟩ := Ev.condHolds_probeFault_warmers (w := w) .probeRange (warmerProbe w).val f
  refine ⟨fun hgood hrun => ?_, fun h => ?_⟩
  · refine State.leaves_of_edged ?_ (Ev.invalidConversion_calm hget hrun)
    have heq := (Ev.invalidConversion_fourth hget hrun).trans (if_neg (Bool.eq_false_iff.mp hgood))
    exact (congrArg (fun e : Ev => e.s.ppu.warmers) heq).trans hfault
  · by_cases hrun : p.invalidRun < 3
    · have heq := Ev.invalidConversion_few hget hrun
      refine State.leaves_of_edged ?_ (congrArg (fun e : Ev => e.s.calm) heq)
      exact (congrArg (fun e : Ev => e.s.ppu.warmers) heq).trans hkept
    · have hfourth := Nat.not_lt.mp hrun
      refine State.leaves_of_edged ?_ (Ev.invalidConversion_calm hget hfourth)
      have heq := (Ev.invalidConversion_fourth hget hfourth).trans (if_pos (h.resolve_right hrun))
      exact (congrArg (fun e : Ev => e.s.ppu.warmers) heq).trans (hholds.trans hkept)

/-- An overflow at the probe of a warmer (R41, R45, R102). -/
theorem Ev.overflow_leaves :
    let r := s.ppu.warmers[w]
    let p := s.hlu.probes[warmerProbe w]
    let t := ((Ev.start s).overflow (warmerProbe w)).s
    (p.faulted = false → 2 ≤ p.stale → s.Leaves w r.cooled t) ∧ (p.faulted = true ∨ p.stale < 2 → s.Leaves w r t) := by
  intro r p t
  have hkept : s.ppu.warmers = s.ppu.warmers.set w r := (set_get_same ..).symm
  let missed : ProbeRec :=
    { p with capture := 0, stale := min 255 (p.stale + 1), periodOpen := false, highTime := none, validRun := 0 }
  let f := (Ev.start s).on (State.setProbe (warmerProbe w) { missed with lost := some p.lineLevel })
  obtain ⟨hholds, hfault⟩ := Ev.condHolds_probeFault_warmers (w := w) .probeLost (warmerProbe w).val f
  have hthird (h : 2 ≤ p.stale) : (Ev.start s).overflow (warmerProbe w) =
      if p.faulted then f.condHolds .probeLost (warmerProbe w).val
      else (f.condHolds .probeLost (warmerProbe w).val).probeFault (warmerProbe w) :=
    if_pos (show 3 ≤ min 255 (p.stale + 1) by omega)
  have hleaves {q : WarmerRec} {e : Ev} (heq : (Ev.start s).overflow (warmerProbe w) = e)
      (hq : e.s.ppu.warmers = s.ppu.warmers.set w q) : s.Leaves w q t :=
    State.leaves_of_calm ((congrArg (fun e : Ev => e.s.ppu.warmers) heq).trans hq) (Ev.overflow_calm ..)
  refine ⟨fun hgood hstale => ?_, fun h => ?_⟩
  · exact hleaves ((hthird hstale).trans (if_neg (Bool.eq_false_iff.mp hgood))) hfault
  · by_cases hfew : p.stale < 2
    · have heq : (Ev.start s).overflow (warmerProbe w) = (Ev.start s).on (State.setProbe (warmerProbe w) missed) :=
        if_neg (show ¬ 3 ≤ min 255 (p.stale + 1) by omega)
      exact hleaves heq hkept
    · exact hleaves ((hthird (Nat.not_lt.mp hfew)).trans (if_pos (h.resolve_right hfew))) (hholds.trans hkept)

end Conversions

/-! ### READINESS at the probe, whole -/

theorem happened_leaves {i : Instr} {w : WarmerIx} {q : WarmerRec} {s : State} {e : Ev} (hexec : exec i s = happened e)
    (h : s.Leaves w q e.s) : ∃ t, exec i s = .next t ∧ s.Leaves w q t :=
  ⟨e.finish, hexec, Ev.finish_leaves h⟩

/-- Settles O30: each command by its own rule, and READINESS by the conversion, the overflow or the event that judges it. -/
theorem warmerCommandRules : Obligations.WarmerCommandRules := by
  refine ⟨exec_warmerCount_rule, fun x warmer im s => ⟨exec_setWarmer_refused x warmer im s, fun w k hw hk => ⟨?_, ?_⟩⟩,
    fun w s => ⟨?_, ?_, ?_, ?_⟩⟩
  · exact exec_setWarmer_busy hw hk x s
  · intro hkind hroom p l setpoint band installs written counting rests judged
    have hrests : (s.ppu.warmers[w]).dressed k im s.pins.encoders[w] = rests := WarmerRec.dressed_eq ..
    obtain ⟨hcap, hsoak, hset, hband⟩ := WarmerRec.dressed_fields (s.ppu.warmers[w]) k im s.pins.encoders[w]
    rw [hrests] at hcap hsoak hset hband
    have hjudged : rests.judged l p = judged := WarmerRec.judged_eq (by rw [hcap]; omega) hsoak hset hband l p
    obtain ⟨t, hexec, hwarmers, hhlu, hfm, hanswer, hframe⟩ := exec_setWarmer_leaves hw hk x s hkind hroom
    rw [hrests] at hwarmers
    rw [taken_warmerClamped] at hanswer
    exact ⟨t, hexec, hwarmers.trans (congrArg (fun q => s.ppu.warmers.set w q) hjudged), hhlu, hfm, hanswer, hframe⟩
  · rintro e rfl
    exact ⟨fun hsettled => Ev.readingUpdate_judges hsettled, Ev.probeFault_warmerProbe w e⟩
  · intro elapsed h v hopen hhigh hwindow hconv trips reads window
    have hedge : exec (.probeRisingEdge (warmerProbe w) elapsed) s =
        happened (((Ev.start s).edged (warmerProbe w)).validConversion (warmerProbe w) v) :=
      congrArg happened (Ev.risingEdge_valid (e := Ev.start s) hopen hhigh hconv)
    obtain ⟨hfalls, hreads, hquiet⟩ := Ev.validConversion_leaves (w := w) (s := s) v
    refine ⟨fun ht => happened_leaves hedge (hfalls ht), fun ht hr => ?_, fun ht hr => ?_⟩
    · have hslide : slide (s.hlu.probes[warmerProbe w]).window v = window := slide_eq hwindow v
      have hjudged := hreads ht (decide_eq_true hr)
      rw [show slide ((s.hlu.probes[warmerProbe w]).turned).window v = window from hslide] at hjudged
      exact happened_leaves hedge hjudged
    · exact happened_leaves hedge (hquiet ht (decide_eq_false hr))
  · intro elapsed h hopen hhigh hconv
    have hedge : exec (.probeRisingEdge (warmerProbe w) elapsed) s =
        happened (((Ev.start s).edged (warmerProbe w)).invalidConversion (warmerProbe w)) :=
      congrArg happened (Ev.risingEdge_invalid (e := Ev.start s) hopen hhigh hconv)
    obtain ⟨hfault, hkept⟩ := Ev.invalidConversion_leaves (w := w) (s := s)
    exact ⟨fun hgood hrun => happened_leaves hedge (hfault hgood hrun), fun h => happened_leaves hedge (hkept h)⟩
  · obtain ⟨hfault, hkept⟩ := Ev.overflow_leaves (w := w) (s := s)
    exact ⟨fun hgood hstale => happened_leaves rfl (hfault hgood hstale), fun h => happened_leaves rfl (hkept h)⟩

end Sys2Proof.Machine
end

section
/-! PROOFS. Evaluation of a kind, whole: the entry it judges, where it goes on and where it stops, and that it keeps the law of R117
(R108, R109, R114, R123, R124). -/

namespace Sys2Proof.Machine

open Sys2Proof

/-! ### The AGE LIST behind the live entries of a kind (R108) -/

/-- What an index of the AGE LIST shows of a kind. -/
def Ppu.shown (p : Ppu) (k : Kind) (i : ResIx) : Option (ResIx × ResRec) :=
  (p.entries[i]).bind fun r => if r.kind = k then some (i, r) else none

theorem Ppu.live_eq_shown (p : Ppu) (k : Kind) : p.live k = p.ageList.filterMap (p.shown k) := by
  unfold Ppu.live Ppu.shown
  refine List.filterMap_congr fun i _ => ?_
  cases p.entries[i] <;> rfl

theorem Ppu.shown_eq_some {p : Ppu} {k : Kind} {i j : ResIx} {r : ResRec} :
    p.shown k i = some (j, r) ↔ i = j ∧ p.entries[i] = some r ∧ r.kind = k := by
  unfold Ppu.shown
  rw [Option.bind_eq_some_iff]
  constructor
  · rintro ⟨q, hq, hshow⟩
    split at hshow
    next hk =>
      cases hshow
      exact ⟨rfl, hq, hk⟩
    next => cases hshow
  · rintro ⟨rfl, hr, hk⟩
    exact ⟨r, hr, if_pos hk⟩

theorem Ppu.mem_live_of {p : Ppu} {k : Kind} {i : ResIx} {r : ResRec} (hage : i ∈ p.ageList) (hi : p.entries[i] = some r)
    (hk : r.kind = k) : (i, r) ∈ p.live k := by
  rw [Ppu.live_eq_shown]
  exact List.mem_filterMap.mpr ⟨i, hage, Ppu.shown_eq_some.mpr ⟨rfl, hi, hk⟩⟩

theorem Ppu.live_entry {p : Ppu} {k : Kind} {i : ResIx} {r : ResRec} {older newer : List (ResIx × ResRec)}
    (h : p.live k = older ++ (i, r) :: newer) : p.entries[i] = some r ∧ r.kind = k :=
  Ppu.mem_live (by rw [h]; exact List.mem_append_right _ List.mem_cons_self)

/-- The AGE LIST up to an entry of a kind holds, of that kind, the older entries alone. -/
theorem Ppu.ageList_split {p : Ppu} {k : Kind} {i : ResIx} {r : ResRec} {older newer : List (ResIx × ResRec)}
    (h : p.live k = older ++ (i, r) :: newer) :
    ∃ before after, p.ageList = before ++ i :: after ∧
      ∀ j ∈ before, ∀ q, p.entries[j] = some q → q.kind = k → (j, q) ∈ older := by
  rw [Ppu.live_eq_shown] at h
  obtain ⟨first, rest, hage, hfirst, hrest⟩ := List.filterMap_eq_append_iff.mp h
  obtain ⟨between, m, after, rfl, hbetween, hm, -⟩ := List.filterMap_eq_cons_iff.mp hrest
  obtain ⟨rfl, -⟩ := Ppu.shown_eq_some.mp hm
  refine ⟨first ++ between, after, by rw [hage, List.append_assoc], fun j hj q hq hk => ?_⟩
  have hshown := Ppu.shown_eq_some.mpr ⟨rfl, hq, hk⟩
  rcases List.mem_append.mp hj with hj | hj
  · rw [← hfirst]
    exact List.mem_filterMap.mpr ⟨j, hj, hshown⟩
  · rw [hbetween j hj] at hshown
    cases hshown

/-! ### What the owner is told (R123, R124) -/

@[simp] theorem State.postNotice_ppu (x : Station) (n : Notice) (s : State) : (s.postNotice x n).ppu = s.ppu :=
  (State.desk_eq (State.postNotice_desk x n s)).2.2.2.2.1

theorem State.resNotice_station {i : ResIx} {r : ResRec} {y : Station} (h : r.owner = .station y) (code : NoticeCode) (a b : Nat)
    (s : State) : s.resNotice i r code a b = s.postNotice y (s.entryNotice i code r.creation a b) := by
  unfold State.resNotice
  rw [h]
  rfl

theorem State.resNotice_channel {i : ResIx} {r : ResRec} {c : Chan} (h : r.owner = .channel c) (code : NoticeCode) (a b : Nat)
    (s : State) : s.resNotice i r code a b = s := by
  unfold State.resNotice
  rw [h]

@[simp] theorem State.resNotice_ppu (i : ResIx) (r : ResRec) (code : NoticeCode) (a b : Nat) (s : State) :
    (s.resNotice i r code a b).ppu = s.ppu := by
  cases h : r.owner with
  | station y => rw [State.resNotice_station h, State.postNotice_ppu]
  | channel c => rw [State.resNotice_channel h]

theorem Ev.becomeReady_station {i : ResIx} {r : ResRec} {y : Station} (h : r.owner = .station y) (e : Ev) :
    e.becomeReady i r = (e.on (State.setEntry i (some { r with state := .ready }))).on
      (State.postNotice y (e.s.entryNotice i .reservationReady r.creation r.kind.val r.count)) := by
  unfold Ev.becomeReady
  simp only [State.resNotice_station h, h]
  rfl

theorem Ev.becomeReady_ppu (i : ResIx) (r : ResRec) (e : Ev) :
    (e.becomeReady i r).s.ppu = e.s.ppu.rewrite i { r with state := .ready } := by
  unfold Ev.becomeReady
  simp only
  split <;> exact State.resNotice_ppu ..

/-! ### Which entry is judged (R114) -/

theorem Ev.evaluate_idle {k : Kind} {e : Ev} (h : ∀ x ∈ e.s.ppu.live k, x.2.state ≠ .waiting) : e.evaluate k = e := by
  have hskip := Ev.evaluateFrom_skip (k := k) (e := e) (l := e.s.ppu.ageList)
    (fun i hi r hr hw => h (i, r) (Ppu.mem_live_of hi hr hw.1) hw.2) []
  rwa [List.append_nil] at hskip

theorem Ev.evaluateFrom_waiting {k : Kind} {e : Ev} {i : ResIx} {r : ResRec} (hi : e.s.ppu.entries[i] = some r) (hk : r.kind = k)
    (hr : r.state = .waiting) (l : List ResIx) :
    e.evaluateFrom k (i :: l) =
      if r.count + e.s.ppu.sumOutstanding k ≤ e.s.ppu.readyWarm k then (e.becomeReady i r).evaluateFrom k l else e := by
  rw [Ev.evaluateFrom, hi]
  exact if_pos ⟨hk, hr⟩

section Oldest
variable {k : Kind} {e : Ev} {i : ResIx} {r : ResRec} {older newer : List (ResIx × ResRec)}

/-- The evaluation comes to the oldest entry that waits. -/
theorem Ev.evaluate_oldest (hlive : e.s.ppu.live k = older ++ (i, r) :: newer) (hr : r.state = .waiting)
    (hold : ∀ x ∈ older, x.2.state ≠ .waiting) :
    ∃ before after, e.s.ppu.ageList = before ++ i :: after ∧
      (∀ j ∈ before, ∀ q, e.s.ppu.entries[j] = some q → ¬ (q.kind = k ∧ q.state = .waiting)) ∧
      e.evaluate k =
        if r.count + e.s.ppu.sumOutstanding k ≤ e.s.ppu.readyWarm k then (e.becomeReady i r).evaluateFrom k after else e := by
  obtain ⟨before, after, hage, hbefore⟩ := Ppu.ageList_split hlive
  obtain ⟨hi, hk⟩ := Ppu.live_entry hlive
  have hpass : ∀ j ∈ before, ∀ q, e.s.ppu.entries[j] = some q → ¬ (q.kind = k ∧ q.state = .waiting) :=
    fun j hj q hq hw => hold _ (hbefore j hj q hq hw.1) hw.2
  refine ⟨before, after, hage, hpass, ?_⟩
  rw [Ev.evaluate, hage, Ev.evaluateFrom_skip hpass, Ev.evaluateFrom_waiting hi hk hr]

theorem Ev.evaluate_uncovered (hlive : e.s.ppu.live k = older ++ (i, r) :: newer) (hr : r.state = .waiting)
    (hold : ∀ x ∈ older, x.2.state ≠ .waiting) (hlow : e.s.ppu.readyWarm k < r.count + e.s.ppu.sumOutstanding k) :
    e.evaluate k = e := by
  obtain ⟨_, _, _, _, hone⟩ := Ev.evaluate_oldest hlive hr hold
  rw [hone, if_neg (Nat.not_le.mpr hlow)]

/-- Once an entry is READY the evaluation goes on as one begun anew: what it has passed does not wait. -/
theorem Ev.evaluate_covered (hlive : e.s.ppu.live k = older ++ (i, r) :: newer) (hr : r.state = .waiting)
    (hold : ∀ x ∈ older, x.2.state ≠ .waiting) (hcover : r.count + e.s.ppu.sumOutstanding k ≤ e.s.ppu.readyWarm k) :
    e.evaluate k = (e.becomeReady i r).evaluate k := by
  obtain ⟨before, after, hage, hpass, hone⟩ := Ev.evaluate_oldest hlive hr hold
  have hpassed : ∀ j ∈ before ++ [i], ∀ q, (e.becomeReady i r).s.ppu.entries[j] = some q →
      ¬ (q.kind = k ∧ q.state = .waiting) := by
    intro j hj q hq
    rw [Ev.becomeReady_ppu, Ppu.rewrite] at hq
    by_cases hji : j = i
    · subst hji
      rw [get_set_same] at hq
      cases hq
      exact fun hw => by cases hw.2
    · rw [get_set_ne _ hji] at hq
      refine hpass j ((List.mem_append.mp hj).resolve_right fun h => hji (List.mem_singleton.mp h)) q hq
  have hlist : (e.becomeReady i r).s.ppu.ageList = (before ++ [i]) ++ after := by
    rw [Ev.becomeReady_ppu, List.append_assoc]
    exact hage
  rw [hone, if_pos hcover, Ev.evaluate, hlist, Ev.evaluateFrom_skip hpassed]

end Oldest

/-! ### No plate is promised twice (R114, R117) -/

/-- A READY entry that the ready plates cover leaves the outstanding sum within them. -/
theorem Ppu.sumOutstanding_ready {p : Ppu} {i : ResIx} {r : ResRec} (hage : p.AgeListRight) (hi : p.entries[i] = some r)
    (hcover : r.count + p.sumOutstanding r.kind ≤ p.readyWarm r.kind) :
    (p.rewrite i { r with state := .ready }).sumOutstanding r.kind ≤ p.readyWarm r.kind := by
  have hsum := Ppu.sumOutstanding_rewrite hage hi { r with state := .ready } r.kind
  have hnew : owed r.kind (some { r with state := .ready }) = r.count - r.drawn := if_pos rfl
  omega

theorem Ev.evaluateFrom_keeps_law {k : Kind} (l : List ResIx) {e : Ev} (hage : e.s.ppu.AgeListRight)
    (hwarm : e.s.ppu.readyWarm k ≤ (e.s.ppu.pools[k]).warm) (hlaw : e.s.ppu.LawHolds k) :
    (e.evaluateFrom k l).s.ppu.LawHolds k := by
  induction l generalizing e with
  | nil => exact hlaw
  | cons i l ih =>
    unfold Ev.evaluateFrom
    split
    next r hi =>
      split
      next hw =>
        obtain ⟨rfl, -⟩ := hw
        split
        next hcover =>
          have hready := Ev.becomeReady_ppu i r e
          refine ih ?_ ?_ ?_
          · rw [hready]
            exact hage.rewrite hi _
          · rw [hready]
            exact hwarm
          · rw [hready]
            exact (Ppu.sumOutstanding_ready hage hi hcover).trans hwarm
        next => exact hlaw
      next => exact ih hage hwarm hlaw
    next => exact ih hage hwarm hlaw

theorem Ev.evaluate_pools (k : Kind) (e : Ev) : (e.evaluate k).s.ppu.pools = e.s.ppu.pools := by
  obtain ⟨-, -, -, -, hpools, -⟩ := State.still_eq (Ev.evaluate_still k e)
  exact hpools

end Sys2Proof.Machine
end

section
/-! PROOFS. A draw and the entry it is charged to, the end of an entry, and the turns of a revocation (R116 to R118, R120, R123,
R124). -/

namespace Sys2Proof.Machine

open Sys2Proof

/-! ### The end of an entry (R120, R123, R124) -/

/-- The entry is free, and its index has left the AGE LIST (R120). -/
def Ev.freed (i : ResIx) (e : Ev) : Ev := e.on fun s => { s with ppu := s.ppu.freed i }

theorem Ev.freed_ppu (i : ResIx) (e : Ev) : (e.freed i).s.ppu = e.s.ppu.freed i := rfl

theorem Ev.endEntry_station {i : ResIx} {r : ResRec} {y : Station} (h : r.owner = .station y) (o : ResEnd) (e : Ev) :
    e.endEntry i r o true = (e.freed i).on
      (State.postNotice y (e.s.entryNotice i .reservationEnded r.creation o.code r.drawn)) := by
  unfold Ev.endEntry
  simp only [State.resNotice_station h, h]
  rfl

theorem Ev.endEntry_channel {i : ResIx} {r : ResRec} {c : Chan} (h : r.owner = .channel c) (o : ResEnd) (e : Ev) :
    e.endEntry i r o true = (e.freed i).hand (.entryEnded c i r.creation (decide (o = .short))) := by
  unfold Ev.endEntry
  simp only [h]
  rfl

theorem Ev.endEntry_told_ppu (i : ResIx) (r : ResRec) (o : ResEnd) (e : Ev) : (e.endEntry i r o true).s.ppu = e.s.ppu.freed i := by
  cases h : r.owner with
  | station y => rw [Ev.endEntry_station h, Ev.on_s, State.postNotice_ppu, Ev.freed_ppu]
  | channel c => rw [Ev.endEntry_channel h, Ev.hand_s, Ev.freed_ppu]

/-! ### The charge of a draw (R116) -/

theorem ResState.promised_iff (st : ResState) : st ≠ .waiting ↔ st = .drawing ∨ st = .ready := by
  cases st <;> decide

/-- Whom a draw is charged to: the oldest DRAWING entry, and with none DRAWING the oldest READY one. -/
theorem Ppu.chargeTo_oldest {p : Ppu} {k : Kind} {i : ResIx} {r : ResRec} (h : p.chargeTo k = some (i, r)) :
    (r.state = .drawing ∨ r.state = .ready) ∧ (r.state = .ready → ∀ x ∈ p.live k, x.2.state ≠ .drawing) ∧
      ∃ older newer, p.live k = older ++ (i, r) :: newer ∧ ∀ x ∈ older, x.2.state ≠ r.state := by
  have hfound : ∀ st : ResState, (p.live k).find? (fun x => decide (x.2.state = st)) = some (i, r) →
      r.state = st ∧ ∃ older newer, p.live k = older ++ (i, r) :: newer ∧ ∀ x ∈ older, x.2.state ≠ r.state := by
    intro st hst
    obtain ⟨hr, older, newer, hlive, hold⟩ := List.find?_eq_some_iff_append.mp hst
    obtain rfl : r.state = st := by simpa using hr
    exact ⟨rfl, older, newer, hlive, fun x hx => by simpa using hold x hx⟩
  unfold Ppu.chargeTo at h
  split at h
  next x hx =>
    cases h
    obtain ⟨hr, hplace⟩ := hfound _ hx
    exact ⟨.inl hr, fun hready => (by rw [hr] at hready; cases hready), hplace⟩
  next hnone =>
    obtain ⟨hr, hplace⟩ := hfound _ h
    exact ⟨.inr hr, fun _ x hx hd => List.find?_eq_none.mp hnone x hx (decide_eq_true hd), hplace⟩

theorem Ppu.chargeTo_isSome {p : Ppu} {k : Kind} :
    (∃ x ∈ p.live k, x.2.state ≠ .waiting) ↔ ∃ (i : ResIx) (r : ResRec), p.chargeTo k = some (i, r) := by
  constructor
  · rintro ⟨x, hx, hstate⟩
    unfold Ppu.chargeTo
    split
    next y _ => exact ⟨y.1, y.2, rfl⟩
    next hnone =>
      have hready : x.2.state = .ready := ((ResState.promised_iff _).mp hstate).resolve_left fun hd =>
        List.find?_eq_none.mp hnone x hx (decide_eq_true hd)
      have hsome : ((p.live k).find? fun y => decide (y.2.state = .ready)).isSome := by
        rw [List.find?_isSome]
        exact ⟨x, hx, decide_eq_true hready⟩
      obtain ⟨y, hy⟩ := Option.isSome_iff_exists.mp hsome
      exact ⟨y.1, y.2, hy⟩
  · rintro ⟨i, r, h⟩
    obtain ⟨hstate, -, older, newer, hlive, -⟩ := Ppu.chargeTo_oldest h
    exact ⟨(i, r), by rw [hlive]; simp, (ResState.promised_iff _).mpr hstate⟩

theorem Ev.chargeDraw_none {k : Kind} {e : Ev} (h : ∀ x ∈ e.s.ppu.live k, x.2.state = .waiting) : e.chargeDraw k = e := by
  have hnone : e.s.ppu.chargeTo k = none := by
    by_contra hsome
    obtain ⟨⟨i, r⟩, hto⟩ := Option.ne_none_iff_exists'.mp hsome
    obtain ⟨x, hx, hstate⟩ := Ppu.chargeTo_isSome.mpr ⟨i, r, hto⟩
    exact hstate (h x hx)
  unfold Ev.chargeDraw
  rw [hnone]

/-- An entry with one more plate drawn. -/
def ResRec.charged (r : ResRec) : ResRec := { r with drawn := r.drawn + 1, state := .drawing }

section Charge
variable {k : Kind} {e : Ev} {i : ResIx} {r : ResRec}

theorem Ev.chargeDraw_more (h : e.s.ppu.chargeTo k = some (i, r)) (hmore : r.drawn + 1 < r.count) :
    e.chargeDraw k = e.on (State.setEntry i (some r.charged)) := by
  unfold Ev.chargeDraw
  rw [h]
  exact if_neg (Nat.not_le.mpr hmore)

theorem Ev.chargeDraw_last (h : e.s.ppu.chargeTo k = some (i, r)) (hlast : r.count ≤ r.drawn + 1) :
    e.chargeDraw k = ((e.endEntry i r.charged (if r.shortened then .short else .done) true).evaluate k).hand .entryFree := by
  obtain ⟨-, rfl, -⟩ := Ppu.chargeTo_some h
  unfold Ev.chargeDraw
  rw [h]
  exact if_pos hlast

theorem Ev.chargeDraw_last_station {y : Station} (h : e.s.ppu.chargeTo k = some (i, r)) (hlast : r.count ≤ r.drawn + 1)
    (howner : r.owner = .station y) :
    e.chargeDraw k = (((e.freed i).on (State.postNotice y
      (e.s.entryNotice i .reservationEnded r.creation (if r.shortened then 1 else 0) (r.drawn + 1)))).evaluate
        k).hand .entryFree := by
  have hcode : (if r.shortened then ResEnd.short else .done).code = if r.shortened then 1 else 0 := by
    cases r.shortened <;> rfl
  rw [Ev.chargeDraw_last h hlast, Ev.endEntry_station (r := r.charged) howner, hcode]
  rfl

theorem Ev.chargeDraw_last_channel {c : Chan} (h : e.s.ppu.chargeTo k = some (i, r)) (hlast : r.count ≤ r.drawn + 1)
    (howner : r.owner = .channel c) :
    e.chargeDraw k = (((e.freed i).hand (.entryEnded c i r.creation r.shortened)).evaluate k).hand .entryFree := by
  have hshort : decide ((if r.shortened then ResEnd.short else .done) = .short) = r.shortened := by
    cases r.shortened <;> rfl
  rw [Ev.chargeDraw_last h hlast, Ev.endEntry_channel (r := r.charged) howner, hshort]
  rfl

end Charge

/-! ### Whom a revocation takes (R117, R118) -/

theorem Ppu.newest_eq {p : Ppu} {k : Kind} {i : ResIx} {r : ResRec} {older newer : List (ResIx × ResRec)}
    (hlive : p.live k = older ++ (i, r) :: newer) (hnew : ∀ x ∈ newer, x.2.state ≠ r.state) :
    (p.live k).reverse.find? (fun x => decide (x.2.state = r.state)) = some (i, r) := by
  refine List.find?_eq_some_iff_append.mpr ⟨decide_eq_true rfl, newer.reverse, older.reverse, by simp [hlive], fun x hx => ?_⟩
  simpa using hnew x (List.mem_reverse.mp hx)

theorem Ppu.newest_eq_none {p : Ppu} {k : Kind} {st : ResState} (h : ∀ x ∈ p.live k, x.2.state ≠ st) :
    (p.live k).reverse.find? (fun x => decide (x.2.state = st)) = none :=
  List.find?_eq_none.mpr fun x hx => by simpa using h x (List.mem_reverse.mp hx)

/-- The other live entries of a kind are those older and those newer. -/
theorem Ppu.live_others {p : Ppu} {k : Kind} {i : ResIx} {r : ResRec} {older newer : List (ResIx × ResRec)}
    (hage : p.AgeListRight) (hlive : p.live k = older ++ (i, r) :: newer) :
    (p.live k).filter (fun x => decide (x.1 ≠ i)) = older ++ newer := by
  have hnodup : (p.live k).Nodup := by
    rw [Ppu.live_eq_shown]
    refine hage.1.filterMap fun a a' x ha ha' => ?_
    exact (Ppu.shown_eq_some.mp ha).1.trans (Ppu.shown_eq_some.mp ha').1.symm
  rw [hlive] at hnodup
  have hnot := (List.nodup_middle.mp hnodup).notMem
  have hmem : ∀ x ∈ (i, r) :: (older ++ newer), p.entries[x.1] = some x.2 := fun x hx =>
    (Ppu.mem_live (k := k) (by rw [hlive]; exact List.perm_middle.mem_iff.mpr hx)).1
  have hothers : ∀ x ∈ older ++ newer, x.1 ≠ i := by
    rintro ⟨j, q⟩ hx rfl
    have hq := (hmem _ (List.mem_cons_of_mem _ hx)).symm.trans (hmem (j, r) List.mem_cons_self)
    cases hq
    exact hnot hx
  rw [hlive, List.filter_append, List.filter_cons_of_neg (by simp), ← List.filter_append]
  exact List.filter_eq_self.mpr fun x hx => decide_eq_true (hothers x hx)

theorem Ppu.roomFor_live {p : Ppu} {k : Kind} {i : ResIx} {r : ResRec} {older newer : List (ResIx × ResRec)}
    (hage : p.AgeListRight) (hlive : p.live k = older ++ (i, r) :: newer) :
    p.roomFor i k = (p.pools[k]).warm - ((older ++ newer).map fun x => x.2.outstanding).sum := by
  rw [Ppu.roomFor, Ppu.live_others hage hlive]

/-! ### Shortening (R118) -/

/-- What the shortening leaves of an entry. -/
def ResRec.cut (r : ResRec) (room : Nat) : ResRec := { r with count := r.drawn + room, shortened := true }

/-- An entry is cut to a room, and SHORTED is raised. -/
def Ev.cut (i : ResIx) (r : ResRec) (room : Nat) (e : Ev) : Ev :=
  (e.on (State.setEntry i (some (r.cut room)))).raise .shorted i.val

theorem Ev.raise_ppu (c : Cond) (source : Nat) (e : Ev) : (e.raise c source).s.ppu = e.s.ppu := by
  obtain ⟨-, -, -, -, hppu, -⟩ := State.desk_eq (Ev.raise_desk c source e)
  exact hppu

theorem Ev.cut_ppu (i : ResIx) (r : ResRec) (room : Nat) (e : Ev) : (e.cut i r room).s.ppu = e.s.ppu.rewrite i (r.cut room) :=
  Ev.raise_ppu ..

theorem Ev.cut_clock (i : ResIx) (r : ResRec) (room : Nat) (e : Ev) : (e.cut i r room).s.clock = e.s.clock :=
  (State.desk_eq (Ev.raise_desk ..)).1

theorem Ev.shorten_of_room {i : ResIx} {r : ResRec} {e : Ev} (h : 0 < e.s.ppu.roomFor i r.kind) :
    e.shorten i r = (e.cut i r (e.s.ppu.roomFor i r.kind), false) := if_neg h.ne'

theorem Ev.shorten_of_no_room {i : ResIx} {r : ResRec} {e : Ev} (h : e.s.ppu.roomFor i r.kind = 0) :
    e.shorten i r =
      ((e.cut i r (e.s.ppu.roomFor i r.kind)).endEntry i (r.cut (e.s.ppu.roomFor i r.kind)) .short true, true) := if_pos h

@[simp] theorem Ppu.rewrite_pools (p : Ppu) (i : ResIx) (r : ResRec) : (p.rewrite i r).pools = p.pools := rfl
@[simp] theorem Ppu.freed_pools (p : Ppu) (i : ResIx) : (p.freed i).pools = p.pools := rfl

theorem Ppu.rewrite_freed (p : Ppu) (i : ResIx) (r : ResRec) : (p.rewrite i r).freed i = p.freed i := by
  simp only [Ppu.freed, Ppu.rewrite, set_set_same]

theorem Ev.shorten_ends_ppu {i : ResIx} {r : ResRec} {e : Ev} (h : e.s.ppu.roomFor i r.kind = 0) :
    (e.shorten i r).1.s.ppu = e.s.ppu.freed i := by
  rw [Ev.shorten_of_no_room h, Ev.endEntry_told_ppu, Ev.cut_ppu, Ppu.rewrite_freed]

/-- A DRAWING entry cut to the room there is restores the law. -/
theorem Ppu.lawHolds_cut {p : Ppu} {i : ResIx} {r : ResRec} (hage : p.AgeListRight) (hi : p.entries[i] = some r)
    (hr : r.state = .drawing) (hroom : 0 < p.roomFor i r.kind) : (p.rewrite i (r.cut (p.roomFor i r.kind))).LawHolds r.kind := by
  have hcut : owed r.kind (some (r.cut (p.roomFor i r.kind))) = p.roomFor i r.kind := by
    refine (if_pos rfl).trans ((ResRec.outstanding_promised ?_).trans (Nat.add_sub_cancel_left ..))
    rw [ResRec.cut, hr]
    decide
  have hsum := Ppu.sumOutstanding_rewrite hage hi (r.cut (p.roomFor i r.kind)) r.kind
  have hothers := Ppu.sumOutstanding_freed hage i r.kind
  rw [hi] at hothers
  rw [hcut] at hsum
  rw [Ppu.roomFor_eq] at hsum hroom
  show (p.rewrite i (r.cut (p.roomFor i r.kind))).sumOutstanding r.kind ≤ (p.pools[r.kind]).warm
  rw [Ppu.roomFor_eq]
  omega

/-! ### The turns of a revocation (R117, R118) -/

section Turn
variable {k : Kind} {e : Ev} {i : ResIx} {r : ResRec} {older newer : List (ResIx × ResRec)}

theorem Ev.revokeFrom_ready (hlaw : ¬ e.s.ppu.LawHolds k) (hlive : e.s.ppu.live k = older ++ (i, r) :: newer)
    (hr : r.state = .ready) (hnew : ∀ x ∈ newer, x.2.state ≠ .ready) (n : Nat) :
    e.revokeFrom k (n + 1) = (e.on fun s => (s.setEntry i (some { r with state := .waiting })).resNotice i r .reservationRevoked
      r.kind.val r.count).revokeFrom k n := by
  have hfind := Ppu.newest_eq hlive (by rwa [hr])
  rw [hr] at hfind
  rw [Ev.revokeFrom, hfind]
  exact if_neg hlaw

theorem Ev.revokeFrom_drawing (hlaw : ¬ e.s.ppu.LawHolds k) (hlive : e.s.ppu.live k = older ++ (i, r) :: newer)
    (hr : r.state = .drawing) (hnone : ∀ x ∈ e.s.ppu.live k, x.2.state ≠ .ready) (hnew : ∀ x ∈ newer, x.2.state ≠ .drawing)
    (n : Nat) : e.revokeFrom k (n + 1) = (((e.shorten i r).1.revokeFrom k n).1,
      ((e.shorten i r).1.revokeFrom k n).2 + if (e.shorten i r).2 then 1 else 0) := by
  have hfind := Ppu.newest_eq hlive (by rwa [hr])
  rw [hr] at hfind
  rw [Ev.revokeFrom, hfind, Ppu.newest_eq_none hnone]
  exact if_neg hlaw

/-- Where there is room for it, the turn of a DRAWING entry is the last one. -/
theorem Ev.revokeFrom_cut (hage : e.s.ppu.AgeListRight) (hlaw : ¬ e.s.ppu.LawHolds k)
    (hlive : e.s.ppu.live k = older ++ (i, r) :: newer) (hr : r.state = .drawing) (hnone : ∀ x ∈ e.s.ppu.live k, x.2.state ≠ .ready)
    (hnew : ∀ x ∈ newer, x.2.state ≠ .drawing) (hroom : 0 < e.s.ppu.roomFor i k) (n : Nat) :
    e.revokeFrom k (n + 1) = (e.cut i r (e.s.ppu.roomFor i k), 0) := by
  obtain ⟨hi, rfl⟩ := Ppu.live_entry hlive
  have hmended : (e.cut i r (e.s.ppu.roomFor i r.kind)).s.ppu.LawHolds r.kind := by
    rw [Ev.cut_ppu]
    exact Ppu.lawHolds_cut hage hi hr hroom
  rw [Ev.revokeFrom_drawing hlaw hlive hr hnone hnew, Ev.shorten_of_room hroom, Ev.revokeFrom_of_law hmended]
  rfl

/-- Where there is none, the entry ends and the revocation goes on. -/
theorem Ev.revokeFrom_end (hlaw : ¬ e.s.ppu.LawHolds k)
    (hlive : e.s.ppu.live k = older ++ (i, r) :: newer) (hr : r.state = .drawing) (hnone : ∀ x ∈ e.s.ppu.live k, x.2.state ≠ .ready)
    (hnew : ∀ x ∈ newer, x.2.state ≠ .drawing) (hroom : e.s.ppu.roomFor i k = 0) (n : Nat) :
    let rest := ((e.cut i r 0).endEntry i (r.cut 0) .short true).revokeFrom k n
    e.revokeFrom k (n + 1) = (rest.1, rest.2 + 1) := by
  obtain ⟨-, rfl⟩ := Ppu.live_entry hlive
  rw [Ev.revokeFrom_drawing hlaw hlive hr hnone hnew, Ev.shorten_of_no_room hroom, hroom]
  rfl

end Turn

/-- A revocation restores the law in as many turns as entries of the kind are promised plates: each turn takes one of them out of
READY, ends a DRAWING one, or is the last. -/
theorem Ev.revokeFrom_restores {k : Kind} (n : Nat) {e : Ev} (hage : e.s.ppu.AgeListRight) (hn : e.s.ppu.promises k ≤ n) :
    let p := (e.revokeFrom k n).1.s.ppu
    p.LawHolds k ∧ p.pools = e.s.ppu.pools ∧ p.AgeListRight := by
  induction n generalizing e with
  | zero => exact ⟨Ppu.lawHolds_of_promises hage (Nat.le_zero.mp hn), rfl, hage⟩
  | succ n ih =>
    unfold Ev.revokeFrom
    split
    next hlaw => exact ⟨hlaw, rfl, hage⟩
    next hlaw =>
      split
      next i r hready =>
        obtain ⟨hi, rfl, hr⟩ := Ppu.newest_some hready
        have hfewer := State.promises_wait hi (by rw [hr]; decide)
        have hppu := State.resNotice_ppu i r .reservationRevoked r.kind.val r.count
          (e.s.setEntry i (some { r with state := .waiting }))
        obtain ⟨hmended, hpools, hright⟩ := ih
          (e := e.on fun s =>
            (s.setEntry i (some { r with state := .waiting })).resNotice i r .reservationRevoked r.kind.val r.count)
          (by rw [Ev.on_s, hppu]; exact hage.rewrite hi _) (by rw [Ev.on_s, hppu]; omega)
        exact ⟨hmended, hpools.trans (by rw [Ev.on_s, hppu, State.setEntry_ppu, Ppu.rewrite_pools]), hright⟩
      next hready =>
        split
        next i r hdrawing =>
          obtain ⟨hi, rfl, hr⟩ := Ppu.newest_some hdrawing
          rcases Nat.eq_zero_or_pos (e.s.ppu.roomFor i r.kind) with hroom | hroom
          · have hppu := Ev.shorten_ends_ppu (e := e) hroom
            have hfewer := State.promises_end hi (by rw [hr]; decide)
            obtain ⟨hmended, hpools, hright⟩ := ih (e := (e.shorten i r).1)
              (by rw [hppu]; exact hage.freed i) (by rw [hppu]; omega)
            exact ⟨hmended, hpools.trans (by rw [hppu, Ppu.freed_pools]), hright⟩
          · have hcut := Ev.cut_ppu i r (e.s.ppu.roomFor i r.kind) e
            have hmended := Ppu.lawHolds_cut hage hi hr hroom
            rw [← hcut] at hmended
            simp only [Ev.shorten_of_room hroom, Ev.revokeFrom_of_law hmended]
            exact ⟨hmended, by rw [hcut, Ppu.rewrite_pools], by rw [hcut]; exact hage.rewrite hi _⟩
        next hdrawing =>
          refine absurd ?_ hlaw
          rw [Ppu.sumOutstanding_waiting fun x hx =>
            ResState.waiting_of (Ppu.newest_none hdrawing x hx) (Ppu.newest_none hready x hx)]
          exact Nat.zero_le _

theorem Ev.revoke_of_law {k : Kind} {e : Ev} (h : e.s.ppu.LawHolds k) : e.revoke k = e := by
  unfold Ev.revoke
  rw [Ev.revokeFrom_of_law h]
  rfl

end Sys2Proof.Machine
end

section
/-! PROOFS. The statement on draws, evaluation and the law of R117 (R114, R116 to R118, R120, R123, R124). -/

namespace Sys2Proof.Machine

open Sys2Proof

section Revocation
variable {k : Kind} {e : Ev} {i : ResIx} {r : ResRec} {older newer : List (ResIx × ResRec)}

/-- The turn of a READY entry, and what its owner is told (R117, R123). -/
theorem Ev.revokeFrom_ready_told (hlaw : ¬ e.s.ppu.LawHolds k) (hlive : e.s.ppu.live k = older ++ (i, r) :: newer)
    (hr : r.state = .ready) (hnew : ∀ x ∈ newer, x.2.state ≠ .ready) (n : Nat) :
    let back : Ev := e.on (State.setEntry i (some { r with state := .waiting }))
    (∀ y : Station, r.owner = .station y →
      e.revokeFrom k (n + 1) = (back.on (State.postNotice y
        (e.s.entryNotice i .reservationRevoked r.creation r.kind.val r.count))).revokeFrom k n) ∧
    (∀ c : Chan, r.owner = .channel c → e.revokeFrom k (n + 1) = back.revokeFrom k n) := by
  have hturn := Ev.revokeFrom_ready hlaw hlive hr hnew n
  refine ⟨fun y hy => ?_, fun c hc => ?_⟩
  · simp only [State.resNotice_station hy] at hturn
    exact hturn
  · simp only [State.resNotice_channel hc] at hturn
    exact hturn

/-- The turn of a DRAWING entry that is left no plate, and what its owner is told (R118, R120, R123, R124). -/
theorem Ev.revokeFrom_end_told (hlaw : ¬ e.s.ppu.LawHolds k) (hlive : e.s.ppu.live k = older ++ (i, r) :: newer)
    (hr : r.state = .drawing) (hnone : ∀ x ∈ e.s.ppu.live k, x.2.state ≠ .ready) (hnew : ∀ x ∈ newer, x.2.state ≠ .drawing)
    (hroom : e.s.ppu.roomFor i k = 0) (n : Nat) :
    let freed : Ev := (e.cut i r 0).freed i
    (∀ y : Station, r.owner = .station y →
      let rest := (freed.on (State.postNotice y (e.s.entryNotice i .reservationEnded r.creation 1 r.drawn))).revokeFrom k n
      e.revokeFrom k (n + 1) = (rest.1, rest.2 + 1)) ∧
    (∀ c : Chan, r.owner = .channel c →
      let rest := (freed.hand (.entryEnded c i r.creation true)).revokeFrom k n
      e.revokeFrom k (n + 1) = (rest.1, rest.2 + 1)) := by
  have hturn := Ev.revokeFrom_end hlaw hlive hr hnone hnew hroom n
  have htime : (e.cut i r 0).s.entryNotice = e.s.entryNotice := by
    unfold State.entryNotice
    rw [Ev.cut_clock]
  refine ⟨fun y hy => ?_, fun c hc => ?_⟩
  · rw [Ev.endEntry_station (r := r.cut 0) hy, htime] at hturn
    exact hturn
  · rw [Ev.endEntry_channel (r := r.cut 0) hc] at hturn
    exact hturn

end Revocation

/-- Settles O35. What is judged, charged or revoked is read off the live entries of the kind, oldest first, and the law is counted
as a sum over the reservation table. -/
theorem drawsAndTheReservationLaw : Obligations.DrawsAndTheReservationLaw := by
  refine ⟨fun k e => ⟨Ev.chargeDraw_none, fun i r h hmore => ?_⟩, fun k e hage => ?_, fun k e hage hwarm hlaw => ?_,
    fun k e => ⟨Ppu.chargeTo_isSome.mp, fun i r h => ?_⟩, fun k e => ⟨rfl, Ev.revoke_of_law⟩,
    fun k n e i r older newer hage hlaw hlive => ⟨fun hr hnew => Ev.revokeFrom_ready_told hlaw hlive hr hnew n, ?_⟩,
    fun k e => ⟨Ev.evaluate_idle, fun i r older newer hlive hr hold => ⟨Ev.evaluate_uncovered hlive hr hold, ?_⟩⟩⟩
  case refine_1 =>
    obtain ⟨hstate, hnone, hplace⟩ := Ppu.chargeTo_oldest h
    exact ⟨hstate, hnone, hplace, Ev.chargeDraw_more h hmore⟩
  case refine_2 => exact Ev.revokeFrom_restores _ hage ((Ppu.promises_le hage k).trans (Nat.le_succ _))
  case refine_3 => exact ⟨Ev.evaluateFrom_keeps_law _ hage hwarm hlaw, Ev.evaluate_pools k e⟩
  case refine_4 =>
    obtain ⟨hstate, hnone, hplace⟩ := Ppu.chargeTo_oldest h
    exact ⟨hstate, hnone, hplace, fun hlast =>
      ⟨fun y hy => Ev.chargeDraw_last_station h hlast hy, fun c hc => Ev.chargeDraw_last_channel h hlast hc⟩⟩
  case refine_5 =>
    intro hr hnone hnew room
    have hroom : e.s.ppu.roomFor i k = room := Ppu.roomFor_live hage hlive
    refine ⟨fun hpos => ?_, fun hzero => ?_⟩
    · rw [Ev.revokeFrom_cut hage hlaw hlive hr hnone hnew (hroom ▸ hpos), hroom]
      rfl
    · rw [hzero]
      exact Ev.revokeFrom_end_told hlaw hlive hr hnone hnew (hroom.trans hzero) n
  case refine_6 =>
    intro hcover
    obtain ⟨-, hk⟩ := Ppu.live_entry hlive
    have hone := Ev.evaluate_covered hlive hr hold hcover
    refine ⟨fun y hy => ?_, fun c hc => ?_⟩
    · rw [hone, Ev.becomeReady_station hy, hk]
    · rw [hone, Ev.becomeReady_channel hc]

end Sys2Proof.Machine
end

section
/-! PROOFS. RESERVE and CANCEL RESERVATION (R111, R113, R114, R122). -/

namespace Sys2Proof.Machine

open Sys2Proof

theorem Ppu.live_idle {p : Ppu} {k : Kind}
    (h : ∀ (j : ResIx) (r : ResRec), p.entries[j] = some r → r.kind = k → r.state ≠ .waiting) :
    ∀ x ∈ p.live k, x.2.state ≠ .waiting := by
  rintro ⟨j, r⟩ hx
  obtain ⟨hj, hk⟩ := Ppu.mem_live hx
  exact h j r hj hk

/-! ### A new entry of a station (R111, R114) -/

/-- The entry that a station asks for, not yet evaluated. -/
def Ppu.askedBy (p : Ppu) (k : Kind) (count : Nat) (x : Station) (now : Nat) : ResRec :=
  { kind := k, count := count, requested := count, drawn := 0, owner := .station x, state := .waiting, shortened := false
    creation := p.nextCreation, createdAt := now }

theorem Ppu.withEntry_rewrite (p : Ppu) (i : ResIx) (q r : ResRec) : (p.withEntry i q).rewrite i r = p.withEntry i r := by
  simp only [Ppu.withEntry, Ppu.rewrite, set_set_same]

theorem Ppu.withEntry_entry (p : Ppu) (i : ResIx) (r : ResRec) : (p.withEntry i r).entries[i] = some r := get_set_same ..

theorem Ppu.live_withEntry_same {p : Ppu} {k : Kind} {i : ResIx} {r : ResRec} (hi : i ∉ p.ageList) (hk : r.kind = k) :
    (p.withEntry i r).live k = p.live k ++ [(i, r)] := by rw [Ppu.live_withEntry hi, if_pos hk]

section Create
variable {k : Kind} {i : ResIx} {e : Ev} {count : Nat} {x : Station}

/-- The event with the station's new entry. -/
def Ev.made (i : ResIx) (k : Kind) (count : Nat) (x : Station) (e : Ev) : Ev :=
  e.on fun s => { s with ppu := s.ppu.withEntry i (s.ppu.askedBy k count x s.clock) }

theorem Ev.createEntry_of {f : Ev} {q : ResRec} (hf : (e.made i k count x).evaluate k = f) (hq : f.s.ppu.entries[i] = some q) :
    e.createEntry i k count (.station x) = (f, (i, e.s.ppu.nextCreation, q.state)) := by
  have hcreate : e.createEntry i k count (.station x) = ((e.made i k count x).evaluate k, (i, e.s.ppu.nextCreation,
      ((((e.made i k count x).evaluate k).s.ppu.entries[i]).map ResRec.state).getD .waiting)) := rfl
  rw [hcreate, hf, hq]
  rfl

theorem Ev.made_live (hi : i ∉ e.s.ppu.ageList) :
    (e.made i k count x).s.ppu.live k = e.s.ppu.live k ++ [(i, e.s.ppu.askedBy k count x e.s.clock)] :=
  Ppu.live_withEntry_same hi rfl

theorem Ev.made_sumOutstanding (hi : i ∉ e.s.ppu.ageList) :
    (e.made i k count x).s.ppu.sumOutstanding k = e.s.ppu.sumOutstanding k := Ppu.sumOutstanding_withEntry hi rfl k

/-- Where the ready plates do not cover it, the new entry waits. -/
theorem Ev.createEntry_uncovered (hi : i ∉ e.s.ppu.ageList) (hold : ∀ y ∈ e.s.ppu.live k, y.2.state ≠ .waiting)
    (hlow : e.s.ppu.readyWarm k < count + e.s.ppu.sumOutstanding k) :
    e.createEntry i k count (.station x) = (e.made i k count x, (i, e.s.ppu.nextCreation, .waiting)) :=
  Ev.createEntry_of (Ev.evaluate_uncovered (Ev.made_live hi) rfl hold (by rw [Ev.made_sumOutstanding hi]; exact hlow))
    (Ppu.withEntry_entry ..)

/-- Where they cover it, the new entry is READY, no older one being before it, and the station is told. -/
theorem Ev.createEntry_covered (hi : i ∉ e.s.ppu.ageList) (hold : ∀ y ∈ e.s.ppu.live k, y.2.state ≠ .waiting)
    (hcover : count + e.s.ppu.sumOutstanding k ≤ e.s.ppu.readyWarm k) :
    let r : ResRec := { e.s.ppu.askedBy k count x e.s.clock with state := .ready }
    e.createEntry i k count (.station x) =
      ((e.on fun s => { s with ppu := s.ppu.withEntry i r }).on
          (State.postNotice x (e.s.entryNotice i .reservationReady r.creation k.val count)),
        (i, e.s.ppu.nextCreation, .ready)) := by
  intro r
  let asked := e.s.ppu.askedBy k count x e.s.clock
  have hppu : ((e.made i k count x).becomeReady i asked).s.ppu = e.s.ppu.withEntry i r :=
    (Ev.becomeReady_ppu ..).trans (Ppu.withEntry_rewrite ..)
  have hstop : ((e.made i k count x).becomeReady i asked).evaluate k = (e.made i k count x).becomeReady i asked := by
    refine Ev.evaluate_idle fun y hy => ?_
    rw [hppu, Ppu.live_withEntry_same (r := r) (k := k) hi rfl] at hy
    rcases List.mem_append.mp hy with hy | hy
    · exact hold y hy
    · rw [List.mem_singleton.mp hy]
      nofun
  have hready : (e.made i k count x).becomeReady i asked = (e.on fun s => { s with ppu := s.ppu.withEntry i r }).on
      (State.postNotice x (e.s.entryNotice i .reservationReady r.creation k.val count)) := by
    rw [Ev.becomeReady_station rfl]
    simp only [Ev.on, State.setEntry, Ev.made, Ppu.withEntry, set_set_same]
    rfl
  rw [← hready]
  refine Ev.createEntry_of (q := r) ?_ (by rw [hppu]; exact Ppu.withEntry_entry ..)
  rw [Ev.evaluate_covered (Ev.made_live hi) rfl hold (by rw [Ev.made_sumOutstanding hi]; exact hcover), hstop]

end Create

/-! ### RESERVE (R113) -/

theorem exec_reserve (x : Station) (kind n : Byte) (s : State) :
    exec (.reserve x kind n) s = concluded x 0x50 (cmdReserve x kind n (Ev.start s)) := rfl

section Reserve
variable {kind n : Byte} {k : Kind} {s : State} (x : Station)

theorem cmdReserve_range (hk : kind.toNat = k.val) (h : n.toNat = 0 ∨ 240 < n.toNat ∨ s.ppu.reserveCapacity k < n.toNat) :
    cmdReserve x kind n (Ev.start s) = (Ev.start s, refuse .badArgument) := by
  rw [cmdReserve, withIndex_some k hk]
  exact if_pos (h.imp_left fun h0 => by omega)

variable (hk : kind.toNat = k.val) (h0 : 0 < n.toNat) (h240 : n.toNat ≤ 240) (hcap : n.toNat ≤ s.ppu.reserveCapacity k)
include hk h0 h240 hcap

theorem cmdReserve_full (hfree : s.ppu.freeEntry = none) :
    cmdReserve x kind n (Ev.start s) = (Ev.start s, refuse .full) := by
  rw [cmdReserve, withIndex_some k hk, if_neg (by rw [Ev.start_s]; omega), Ev.start_s, hfree]

theorem cmdReserve_taken {i : ResIx} (hfree : s.ppu.freeEntry = some i) :
    cmdReserve x kind n (Ev.start s) =
      let r := (Ev.start s).createEntry i k n.toNat (.station x)
      (r.1, okay (u8 r.2.1.val ++ u16 r.2.2.1 ++ u8 r.2.2.2.code)) := by
  rw [cmdReserve, withIndex_some k hk, if_neg (by rw [Ev.start_s]; omega), Ev.start_s, hfree]

end Reserve

/-! ### CANCEL RESERVATION (R122) -/

theorem exec_cancelReservation (x : Station) (idx : Byte) (creation : BitVec 16) (s : State) :
    exec (.cancelReservation x idx creation) s = concluded x 0x51 (cmdCancelReservation x idx creation (Ev.start s)) := rfl

theorem Ppu.named_eq_none {p : Ppu} {i : ResIx} {a : Nat} (h : ∀ r, p.entries[i] = some r → r.creation ≠ a) :
    p.named i a = none := by
  by_contra hsome
  obtain ⟨r, hr⟩ := Option.ne_none_iff_exists'.mp hsome
  obtain ⟨hi, ha⟩ := Ppu.named_eq_some.mp hr
  exact h r hi ha

/-- A freed entry is offered to nobody where no channel waits for one. -/
theorem Ev.finish_entryFree {e : Ev} (hwork : e.work = []) (hwait : e.s.fse.entryWaiters = []) :
    (e.hand .entryFree).finish = e.s := by
  have hnobody : Ev.take .entryFree { e.hand .entryFree with work := [] } = { e.hand .entryFree with work := [] } := by
    show Ev.entryFree _ = _
    unfold Ev.entryFree nextServed
    simp only [Ev.hand_s, hwait]
    rfl
  have hone : (e.hand .entryFree).work = [.entryFree] := by rw [Ev.hand_work, hwork, List.nil_append]
  exact (congrArg Ev.s (Ev.drain_cons 131071 hone)).trans (by rw [hnobody, Ev.drain_quiet _ rfl, Ev.hand_s])

section Cancel
variable {idx : Byte} {creation : BitVec 16} {i : ResIx} {s : State} (x : Station)

theorem cmdCancelReservation_gone (hi : idx.toNat = i.val) (hnone : s.ppu.named i creation.toNat = none) :
    cmdCancelReservation x idx creation (Ev.start s) = (Ev.start s, refuse .notFound) := by
  rw [cmdCancelReservation, withIndex_some i hi, Ev.start_s, hnone]

theorem cmdCancelReservation_named {r : ResRec} (hi : idx.toNat = i.val) (hr : s.ppu.named i creation.toNat = some r) :
    cmdCancelReservation x idx creation (Ev.start s) =
      if r.owner ≠ .station x then (Ev.start s, refuse .notOwner)
      else ((Ev.start s).entryGone i r.kind,
        okay (u8 r.kind.val ++ u8 r.requested ++ u8 r.count ++ u8 r.drawn ++ u8 r.state.code)) := by
  rw [cmdCancelReservation, withIndex_some i hi, Ev.start_s, hr]
  rfl

end Cancel

/-- The end of an entry beside which none of its kind waits changes the reservation table alone. -/
theorem Ev.finish_entryGone {i : ResIx} {k : Kind} {s : State}
    (hold : ∀ (j : ResIx) (q : ResRec), j ≠ i → s.ppu.entries[j] = some q → q.kind = k → q.state ≠ .waiting)
    (hwait : s.fse.entryWaiters = []) : ((Ev.start s).entryGone i k).finish = { s with ppu := s.ppu.freed i } := by
  have hidle : ((Ev.start s).freed i).evaluate k = (Ev.start s).freed i := by
    refine Ev.evaluate_idle (Ppu.live_idle fun j q hj hk => ?_)
    change (s.ppu.entries.set i none)[j] = some q at hj
    by_cases hji : j = i
    · subst hji
      rw [get_set_same] at hj
      cases hj
    · rw [get_set_ne _ hji] at hj
      exact hold j q hji hj hk
  show (((Ev.start s).freed i).evaluate k |>.hand .entryFree).finish = _
  rw [hidle]
  exact Ev.finish_entryFree rfl hwait

/-! ### The rules -/

/-- Settles O34. Both commands come to an evaluation of the kind: of the new entry alone, and of none that waits. -/
theorem reserveAndCancelRules : Obligations.ReserveAndCancelRules := by
  refine ⟨fun x kind n s => ⟨fun h => ?_, fun k hk => ⟨fun h => ?_, fun h0 h240 hcap hfree => ?_,
      fun i h0 h240 hcap hfree hage hold => ?_⟩⟩,
    fun x idx creation s => ⟨fun h => ?_, fun i hi => ⟨fun hnone => ?_, fun r hr hc howner => ?_,
      fun r hr hc howner hold hwait => ?_⟩⟩⟩
  case refine_1 =>
    rw [exec_reserve, cmdReserve, withIndex_none (by omega)]
    exact concluded_start ..
  case refine_2 =>
    rw [exec_reserve, cmdReserve_range x hk h]
    exact concluded_start ..
  case refine_3 =>
    rw [exec_reserve, cmdReserve_full x hk h0 h240 hcap hfree]
    exact concluded_start ..
  case refine_4 =>
    have hnew := Ppu.not_mem_ageList hfree hage
    have hidle := Ppu.live_idle hold
    simp only
    rw [exec_reserve, cmdReserve_taken x hk h0 h240 hcap hfree]
    by_cases hcover : n.toNat + s.ppu.sumOutstanding k ≤ s.ppu.readyWarm k
    · rw [Ev.createEntry_covered (e := Ev.start s) hnew hidle hcover, decide_eq_true hcover]
      exact concluded_quiet x 0x50 _ _ rfl
    · rw [Ev.createEntry_uncovered (e := Ev.start s) hnew hidle (Nat.not_le.mp hcover), decide_eq_false hcover]
      exact concluded_quiet x 0x50 _ _ rfl
  case refine_5 =>
    rw [exec_cancelReservation, cmdCancelReservation, withIndex_none (by omega)]
    exact concluded_start ..
  case refine_6 =>
    rw [exec_cancelReservation, cmdCancelReservation_gone x hi (Ppu.named_eq_none hnone)]
    exact concluded_start ..
  case refine_7 =>
    rw [exec_cancelReservation, cmdCancelReservation_named x hi (Ppu.named_eq_some.mpr ⟨hr, hc⟩), if_pos howner]
    exact concluded_start ..
  case refine_8 =>
    rw [exec_cancelReservation, cmdCancelReservation_named x hi (Ppu.named_eq_some.mpr ⟨hr, hc⟩), if_neg (not_not.mpr howner),
      concluded, Ev.finish_entryGone hold hwait]
    rfl

end Sys2Proof.Machine
end

section
/-! PROOFS. An induction principle for the lists of the part, the fault monitor and the attention lines: a property of these that
paging, fault reports and notices keep, and that survives a few commands, is kept by whatever an event does of readings, loads and
the budget (chapters 2 and 3). -/

namespace Sys2Proof.Machine

open Sys2Proof

/-! ### What the property reads, and what it has to survive -/

/-- The pages queued and retained, the labels and the racks inside, the fault monitor, and the notice queues with their lines. -/
def State.watched (s : State) :
    List PageRec × List Retained × List Label × List RackRec × Fm × Vector NoticeQueue 4 × Vector Bool 4 :=
  (s.pgu.queue, s.pgu.retention, s.dlu.labels, s.dlu.racks, s.fm, s.sp.queues, s.sp.atn)

/-- A property of what `State.watched` tells that holds after a device reset and that is kept by a write of the paging unit or the
dish line within their bounds, a notice, a waiting set, a latching, and the commands on faults and notices. `B` says whether the property tells
that the lists are within their bounds, as it does in `Kept`. -/
structure WatchLaw (B : Prop) (P : State → Prop) : Prop where
  bound : B → ∀ s : State, P s → s.pgu.Fits
  reset : ∀ pins : Pins, P (State.resetWith pins)
  frame : ∀ s t : State, t.watched = s.watched → P s → P t
  pages : ∀ (g : Pgu) (s : State), (B → s.pgu.Fits → g.Fits) → P s → P (s.setPgu g)
  dish : ∀ (d : Dlu) (s : State), (B → s.DishFits → (s.setDlu d).DishFits) → P s → P (s.setDlu d)
  postNotice : ∀ (x : Station) (n : Notice) (s : State), P s → P (s.postNotice x n)
  setWaiting : ∀ (x : Station) (l : List Chan) (s : State), P s → P (s.setQueue x { s.sp.queues[x] with waiting := l })
  latch : ∀ (c : Cond) (source : Nat) (s : State), P s → P (s.latch c source).1
  setActive : ∀ (c : Cond) (l : List Nat) (s : State), P s →
    P (s.setFm (s.fm.setCond c { s.fm.conds[c.index] with active := l }))
  clearFaults : ∀ (groups : Byte) (e : Ev), P e.s → P (cmdClearFaults groups e).1.s
  setFaultMask : ∀ (masks : Vector Byte 6) (e : Ev), P e.s → P (cmdSetFaultMask masks e).1.s
  subscribeFaults : ∀ (x : Station) (groups : Byte) (e : Ev), P e.s → P (cmdSubscribeFaults x groups e).1.s
  setFaultPaging : ∀ (paging : Vector (Byte × Byte) 6) (e : Ev), P e.s → P (cmdSetFaultPaging paging e).1.s
  fetchNotice : ∀ (x : Station) (e : Ev), P e.s → P (cmdFetchNotice x e).1.s

theorem State.handSetpoint_watched (l : LoadIx) (v : Int) (a : Bool) (s : State) : (s.handSetpoint l v a).watched = s.watched := by
  obtain ⟨r, hset, -⟩ := State.handSetpoint_eq l v a s
  rw [hset]
  rfl

theorem State.judgeWarmer_watched (w : WarmerIx) (s : State) : (s.judgeWarmer w).watched = s.watched := by
  rw [State.judgeWarmer_eq]
  rfl

theorem State.handGrants_watched (r : Allocation) (s : State) : (s.handGrants r).watched = s.watched := by
  obtain ⟨loads, hgrants⟩ := State.handGrants_writes r s
  rw [hgrants]
  rfl

namespace WatchLaw

variable {B : Prop} {P : State → Prop} (k : WatchLaw B P)
include k

theorem same {f : State → State} {e : Ev} (hf : (f e.s).watched = e.s.watched) (h : P e.s) : P (e.on f).s := k.frame _ _ hf h

theorem kept : Kept B P where
  bound := k.bound
  onFse := fun _ s h => k.frame s _ rfl h
  handSetpoint := fun l v a s h => k.frame s _ (State.handSetpoint_watched l v a s) h
  onPpu := fun _ s _ _ h => k.frame s _ rfl h
  postNotice := k.postNotice
  joinWaiting := fun x _ s h => k.setWaiting x _ s h
  setPgu := fun g s hg h => k.pages g s hg.2 h
  latch := k.latch
  setActive := k.setActive

/-- The rack records inside are marked, none entering or leaving (R134, R138). -/
theorem markRacks (f : RackRec → RackRec) {s : State} (h : P s) : P (s.setRacks (s.dlu.racks.map f)) :=
  k.dish _ s (fun _ hd => ⟨hd.1, (List.length_map f).trans_le hd.2⟩) h

/-! ### Readings, faults and conversions of a probe (R41 to R45) -/

theorem judgeWarmer (w : WarmerIx) {e : Ev} (h : P e.s) : P (e.on (State.judgeWarmer w)).s :=
  k.same (State.judgeWarmer_watched w e.s) h

theorem loadLost (l : LoadIx) {e : Ev} (h : P e.s) : P (e.loadLost l).s := by
  unfold Ev.loadLost
  split
  · exact h
  · exact k.same rfl h
  · exact h

theorem loadChanged (l : LoadIx) (before : LoadState) {e : Ev} (h : P e.s) : P (e.loadChanged l before).s := by
  unfold Ev.loadChanged
  simp only
  split
  · exact k.loadLost l h
  · exact h

theorem readingUpdate (p : ProbeIx) {e : Ev} (h : P e.s) : P (e.readingUpdate p).s := by
  have hload : P (match loadOf p with
      | some l => e.on (State.recompute l)
      | none => e).s := by
    split
    · exact k.same rfl h
    · exact h
  have husers : ∀ f : Ev, P f.s → P (match cavityOf p, coreOf p, warmerOf p with
      | some c, _, _ => f.hand (.cavityReading c)
      | none, some c, _ => f.hand (.coreReading c)
      | none, none, some w => f.on (State.judgeWarmer w)
      | none, none, none => f).s := by
    intro f hf
    split
    · exact hf
    · exact hf
    · exact k.judgeWarmer _ hf
    · exact hf
  unfold Ev.readingUpdate
  simp only
  split
  · exact k.markRacks _ (husers _ hload)
  · exact husers _ hload

theorem probeFault (p : ProbeIx) {e : Ev} (h : P e.s) : P (e.probeFault p).s := by
  have hload : ∀ f : Ev, P f.s → P (match loadOf p with
      | some l => f.on (State.recompute l)
      | none => f).s := by
    intro f hf
    split
    · exact k.same rfl hf
    · exact hf
  have hrinse : ∀ f : Ev, P f.s → P (if p = rinseProbe then f.on State.rinseFault else f).s := by
    intro f hf
    split
    · exact k.markRacks _ hf
    · exact hf
  have hunsettled := hload (e.on fun s => s.setProbe p { s.hlu.probes[p] with settled := false, window := [] }) (k.same rfl h)
  unfold Ev.probeFault
  refine hrinse _ ?_
  split
  · exact hunsettled
  · exact hunsettled
  · exact k.same rfl hunsettled
  · exact hunsettled

theorem compareTrip (p : ProbeIx) (raw : Int) {e : Ev} (h : P e.s) : P (e.compareTrip p raw).s := by
  unfold Ev.compareTrip
  split
  · exact h
  · simp only
    split
    · exact k.loadChanged _ _ (k.kept.condHolds (k.same rfl h))
    · exact h

theorem validConversion (p : ProbeIx) (raw : Int) {e : Ev} (h : P e.s) : P (e.validConversion p raw).s := by
  have hset : ∀ r : ProbeRec, P ((e.compareTrip p raw).on (State.setProbe p r)).s := fun _ => k.same rfl (k.compareTrip p raw h)
  unfold Ev.validConversion
  simp only
  split_ifs
  · exact k.readingUpdate p (k.kept.condEnds (k.kept.condEnds (hset _)))
  · exact k.kept.condEnds (k.kept.condEnds (hset _))
  · exact k.readingUpdate p (hset _)
  · exact hset _

/-- A condition of a probe holds, and the probe enters a fault unless it was in one (R41, R45). -/
theorem condFaults (p : ProbeIx) (c : Cond) (r : ProbeRec) (already : Bool) {e : Ev} (h : P e.s) :
    P (if already then (e.on (State.setProbe p r)).condHolds c p.val
      else ((e.on (State.setProbe p r)).condHolds c p.val).probeFault p).s := by
  have hcond : P ((e.on (State.setProbe p r)).condHolds c p.val).s := k.kept.condHolds (k.same rfl h)
  split
  · exact hcond
  · exact k.probeFault p hcond

theorem invalidConversion (p : ProbeIx) {e : Ev} (h : P e.s) : P (e.invalidConversion p).s := by
  unfold Ev.invalidConversion
  simp only
  split
  · exact k.condFaults p _ _ _ h
  · exact k.same rfl h

theorem overflow (p : ProbeIx) {e : Ev} (h : P e.s) : P (e.overflow p).s := by
  unfold Ev.overflow
  simp only
  split
  · exact k.condFaults p _ _ _ h
  · exact k.same rfl h

theorem risingEdge (p : ProbeIx) (elapsed : Nat) {e : Ev} (h : P e.s) : P (e.risingEdge p elapsed).s := by
  have hedge : P (e.edged p).s := k.same rfl h
  unfold Ev.risingEdge
  simp only
  split
  · split
    · exact k.validConversion p _ hedge
    · exact k.invalidConversion p hedge
  · exact hedge
  · exact hedge

/-! ### Trips, tests and verification (R57, R59, R60) -/

theorem resetLoad (l : LoadIx) {e : Ev} (h : P e.s) : P (e.resetLoad l).1.s := by
  unfold Ev.resetLoad
  simp only
  split
  · exact h
  · exact h
  · split
    · exact h
    · exact k.kept.condEnds (k.same rfl h)
  · split <;> exact h

theorem testCompletion (l : LoadIx) {e : Ev} (h : P e.s) : P (e.testCompletion l).s := by
  let r := e.s.hlu.loads[l]
  let f := e.on fun s => s.setLoad l r.tested
  have hresult : P (if r.testPasses then f else f.raise .cutoutTestFail l.val).s := by
    split
    · exact k.same rfl h
    · exact k.kept.raise (k.same rfl h)
  have hdone : P (((if r.testPasses then f else f.raise .cutoutTestFail l.val).on (State.recompute l)).loadChanged l r.state).s :=
    k.loadChanged l _ (k.same rfl hresult)
  unfold Ev.testCompletion
  simp only
  split
  · split
    · exact k.postNotice _ _ _ hdone
    · exact hdone
  · exact h

theorem verifyLoad (l : LoadIx) {e : Ev} (h : P e.s) : P (e.verifyLoad l).s := by
  unfold Ev.verifyLoad
  simp only
  split
  · exact k.loadChanged l _ (k.kept.raise (k.same rfl h))
  · exact h

theorem verify {e : Ev} (h : P e.s) : P e.verify.s :=
  List.foldlRecOn (motive := fun f : Ev => P f.s) (List.finRange 22) _ (k.same rfl h) fun _ hf l _ => k.verifyLoad l hf

/-! ### The budget (R65 to R68, R75 to R81) -/

theorem clearHeadroom {e : Ev} (h : P e.s) : P e.clearHeadroom.s := by
  unfold Ev.clearHeadroom
  simp only
  split
  · split
    · exact k.kept.condEnds (k.same rfl h)
    · exact k.same rfl h
  · exact h

theorem judgeHeadroom (r : Allocation) {e : Ev} (h : P e.s) : P (e.judgeHeadroom r).s := by
  unfold Ev.judgeHeadroom
  split
  · split
    · exact h
    · exact k.kept.condHolds (k.same rfl h)
  · exact k.clearHeadroom h

theorem allocate (cause : AllocCause) {e : Ev} (h : P e.s) : P (e.allocate cause).s := by
  have hgrant : ∀ (b : Pba) (r : Allocation), P (e.on (fun s => (s.setPba b).handGrants r)).s := fun _ r =>
    k.same (State.handGrants_watched r _) h
  unfold Ev.allocate
  refine k.judgeHeadroom _ ?_
  split
  · exact k.kept.raise (hgrant _ _)
  · exact hgrant _ _

theorem setBudget (cap unmanaged interval : Nat) {e : Ev} (h : P e.s) : P (e.setBudget cap unmanaged interval).s := by
  unfold Ev.setBudget
  simp only
  split
  · exact k.same rfl (k.allocate .cut (k.same rfl h))
  · split
    · exact k.clearHeadroom (k.same rfl h)
    · exact k.same rfl h

end WatchLaw

end Sys2Proof.Machine
end

section
/-! PROOFS. Plates, racks, warmers and pages keep a property that `WatchLaw` describes (chapters 4, 6 and 8). -/

namespace Sys2Proof.Machine

open Sys2Proof

namespace WatchLaw

variable {B : Prop} {P : State → Prop} (k : WatchLaw B P)
include k

/-! ### Plates and the dish line (chapters 4 and 6) -/

theorem sendFlow (kind : FlowPage) {e : Ev} (h : P e.s) : P (e.sendFlow kind).1.s := k.same rfl (k.kept.submitFlow h)

theorem soiledHandover (total : Nat) {e : Ev} (h : P e.s) : P (e.soiledHandover total).s := by
  have hflow : ∀ (f : Ev) (v : Flow), P f.s → P (f.s.setFlow v) := fun f _ hf => k.frame f.s _ rfl hf
  unfold Ev.soiledHandover
  simp only
  split
  · split
    · exact k.postNotice _ _ _ (hflow _ _ (k.sendFlow .release (hflow _ _ (k.same rfl h))))
    · exact k.same rfl h
  · split
    · exact k.postNotice _ _ _ (hflow _ _ (k.sendFlow .hold (hflow _ _ (k.same rfl h))))
    · exact k.same rfl h

theorem soiledChanged (kind : Kind) (before : Nat) {e : Ev} (h : P e.s) : P (e.soiledChanged kind before).s := by
  unfold Ev.soiledChanged
  split
  · exact h
  · exact k.soiledHandover _ h

theorem movement (kind : Kind) (src dst : Place) (n : Nat) {e : Ev} (h : P e.s) : P (e.movement kind src dst n).1.s := by
  unfold Ev.movement
  refine k.soiledChanged _ _ ?_
  split
  · exact k.kept.raise (k.same rfl h)
  · exact k.same rfl h

/-- The label queue and the racks are written at an arrival (R130). -/
theorem arrive (d : State → Dlu) {e : Ev} (hd : B → e.s.DishFits → (e.s.setDlu (d e.s)).DishFits) (h : P e.s) :
    P (e.on (fun s => (s.setDlu (d s)).takeSequence)).s :=
  k.frame (e.s.setDlu (d e.s)) _ rfl (k.dish _ _ hd h)

/-- A label is taken, and a rack enters where there is room (R131 to R133). -/
theorem rackEntry {e : Ev} (h : P e.s) : P e.rackEntry.s := by
  unfold Ev.rackEntry
  simp only
  split
  next l rest hl =>
    have hlabels : e.s.DishFits → rest.length ≤ 8 := fun hd => by
      have := hd.1
      rw [hl, List.length_cons] at this
      omega
    split
    next hroom =>
      exact k.movement _ _ _ _ (k.arrive _ (fun _ hd => ⟨hlabels hd, List.length_append.trans_le (of_decide_eq_true hroom)⟩) h)
    next => exact k.movement _ _ _ _ (k.kept.raise (k.arrive _ (fun _ hd => ⟨hlabels hd, hd.2⟩) h))
  · split
    next hroom =>
      exact k.kept.raise (k.arrive _ (fun _ hd => ⟨hd.1, List.length_append.trans_le (of_decide_eq_true hroom)⟩) h)
    next => exact k.kept.raise (k.kept.raise (k.same rfl h))

theorem rackExit {e : Ev} (h : P e.s) : P e.rackExit.s := by
  unfold Ev.rackExit
  split
  · exact k.kept.raise h
  next r rest hr =>
    have hleft : P (e.on (fun s => s.setRacks rest)).s := by
      refine k.dish _ e.s (fun _ hd => ⟨hd.1, ?_⟩) h
      have := hd.2
      rw [hr, List.length_cons] at this
      exact (Nat.le_succ _).trans this
    have hplates : ∀ dst : Place, P (match r.kind with
        | some kind => ((e.on (fun s => s.setRacks rest)).movement kind .wash dst r.count).1
        | none => e.on (fun s => s.setRacks rest)).s := by
      intro dst
      split
      · exact k.movement _ _ _ _ hleft
      · exact hleft
    simp only
    split
    · exact hplates _
    · exact k.postNotice _ _ _ (k.kept.raise (hplates _))

theorem jamCheck {e : Ev} (h : P e.s) : P e.jamCheck.s :=
  List.foldlRecOn (motive := fun f : Ev => P f.s) _ _ (k.markRacks _ h) fun _ hf _ _ => k.kept.raise hf

theorem report (c : Cond) (holds : Bool) {e : Ev} (h : P e.s) : P (e.report c holds).s := by
  unfold Ev.report
  split
  · exact k.kept.condHolds h
  · exact k.kept.condEnds h

theorem judgeConveyor {e : Ev} (h : P e.s) : P e.judgeStall.judgeFast.s := k.report _ _ (k.report _ _ h)

theorem conveyorPulse {e : Ev} (h : P e.s) : P e.conveyorPulse.s := by
  unfold Ev.conveyorPulse
  simp only
  split
  · split
    · exact k.judgeConveyor (k.same rfl h)
    · exact k.same rfl h
  · split
    · exact k.same rfl h
    · exact k.report _ _ (k.same rfl h)

theorem stallExpiry {e : Ev} (h : P e.s) : P e.stallExpiry.s := by
  unfold Ev.stallExpiry
  split
  · exact k.judgeConveyor (k.same rfl h)
  · exact h

theorem refresh {e : Ev} (h : P e.s) : P e.refresh.s := by
  unfold Ev.refresh
  simp only
  split
  · exact h
  · split
    · exact k.same rfl (k.sendFlow .hold h)
    · split
      · split
        · exact k.same rfl (k.sendFlow .release h)
        · exact k.same rfl (k.sendFlow .release h)
      · exact k.same rfl h

/-! ### The warmers (R93 to R101, R106) -/

theorem restartCounting (w : WarmerIx) {e : Ev} (h : P e.s) : P (e.restartCounting w).s := k.kept.condEnds (k.same rfl h)

theorem encoderFault (w : WarmerIx) {e : Ev} (h : P e.s) : P (e.encoderFault w).s := k.kept.condHolds (k.same rfl h)

theorem setCount (w : WarmerIx) (n : Nat) {s : State} (h : P s) : P (s.setCount w n) := k.frame s _ rfl h

theorem countDown (w : WarmerIx) {e : Ev} (h : P e.s) : P (e.countDown w).s := by
  unfold Ev.countDown
  simp only
  split
  · exact k.kept.chargeDraw (k.setCount w _ (k.movement _ _ _ _ h))
  · exact k.kept.revoke (k.setCount w _ (k.movement _ _ _ _ h))

theorem countUp (w : WarmerIx) {e : Ev} (h : P e.s) : P (e.countUp w).s :=
  k.kept.evaluate (k.setCount w _ (k.movement _ _ _ _ h))

theorem accumulate (w : WarmerIx) (edge : Int) {e : Ev} (h : P e.s) : P (e.accumulate w edge).s := by
  have hset : ∀ r : WarmerRec, P (e.on (fun s => s.setWarmer w r)).s := fun r => k.same rfl h
  unfold Ev.accumulate
  simp only
  split
  · split
    · exact k.encoderFault w (hset _)
    · exact k.countDown w (hset _)
  · split
    · split
      · exact k.encoderFault w (hset _)
      · exact k.countUp w (hset _)
    · exact hset _

theorem invalidTurn (w : WarmerIx) {e : Ev} (h : P e.s) : P (e.invalidTurn w).s := by
  unfold Ev.invalidTurn
  simp only
  split
  · exact k.encoderFault w (k.same rfl h)
  · exact k.same rfl h

theorem encoderPair (w : WarmerIx) (pair : Pair) {e : Ev} (h : P e.s) : P (e.encoderPair w pair).s := by
  have hpair : P (e.on (fun s => { s.setWarmer w { s.ppu.warmers[w] with pair := pair } with
      pins := { s.pins with encoders := s.pins.encoders.set w pair } })).s := k.same rfl h
  unfold Ev.encoderPair
  simp only
  split
  · exact hpair
  · split
    · exact hpair
    · exact k.accumulate w _ (k.same rfl hpair)
    · exact k.accumulate w _ (k.same rfl hpair)
    · exact k.invalidTurn w hpair

theorem soakSecond (w : WarmerIx) {e : Ev} (h : P e.s) : P (e.soakSecond w).s := by
  unfold Ev.soakSecond
  simp only
  split
  · exact h
  · split
    · exact k.same rfl h
    · exact k.kept.evaluate (k.same rfl h)

/-! ### Transmissions and acknowledgements (R178 to R182) -/

theorem linkAfter (ok : Bool) {e : Ev} (h : P e.s) : P (e.linkAfter ok).s := by
  unfold Ev.linkAfter
  simp only
  split
  · split
    · exact k.same rfl h
    · exact k.kept.condEnds (k.same rfl h)
  · split
    · exact k.kept.condHolds (k.same rfl h)
    · exact k.same rfl h

theorem pageAfter (p : PageRec) (b : BadgeIx) (ok : Bool) {e : Ev} (h : P e.s) : P (e.pageAfter p b ok).s := by
  have hset : ∀ (q : PageRec) (ends : Bool),
      P (if ends then (e.on (fun s => s.setPgu (s.pgu.change p.number (fun _ => q)))).endPage q .done true
        else (e.on (fun s => s.setPgu (s.pgu.change p.number (fun _ => q)))).settlePage q).s := by
    intro q ends
    split
    · exact k.kept.endPage (Ev.on_keeps (k.kept.change h))
    · exact k.kept.settlePage (Ev.on_keeps (k.kept.change h))
  exact hset _ _

theorem completeTx (f : InFlight) (ok : Bool) {e : Ev} (h : P e.s) : P (e.completeTx f ok).s := by
  have hlink : P ((e.on (fun s => s.setPgu { s.pgu with inFlight := none })).linkAfter ok).s := k.linkAfter ok (k.same rfl h)
  unfold Ev.completeTx
  refine k.kept.trySelect ?_
  split
  · exact hlink
  · split
    · exact k.pageAfter _ _ _ hlink
    · exact hlink

theorem txDone (number address : Nat) (ok : Bool) {e : Ev} (h : P e.s) : P (e.txDone number address ok).s := by
  unfold Ev.txDone
  split
  · split
    · exact k.completeTx _ ok h
    · exact h
  · exact h

theorem txTimeout {e : Ev} (h : P e.s) : P e.txTimeout.s := by
  unfold Ev.txTimeout
  split
  · exact k.completeTx _ false h
  · exact h

theorem retry {e : Ev} (h : P e.s) : P e.retry.s := by
  unfold Ev.retry
  split
  · exact h
  · simp only
    split
    · exact k.kept.select (k.same rfl h)
    · exact k.same rfl h

/-- A late answer takes an entry out of the retention list (R183). -/
theorem lateAnswer (number address : Nat) {s : State} (h : P s) : P (s.lateAnswer number address) := by
  have hfound : P (s.setPgu { s.pgu with retention := s.pgu.retention.filter (fun q => decide (q.number ≠ number)) }) :=
    k.pages _ s (fun _ hf => ⟨hf.1, (List.length_filter_le ..).trans hf.2⟩) h
  unfold State.lateAnswer
  split
  · exact h
  · split
    · exact h
    · simp only
      split
      · exact k.postNotice _ _ _ hfound
      · exact hfound

theorem countAck (p : PageRec) (b : BadgeIx) {e : Ev} (h : P e.s) : P (e.countAck p b).s := by
  unfold Ev.countAck
  simp only
  split
  · exact k.kept.endPage h
  · exact k.kept.change h

theorem ack (address number : Nat) {e : Ev} (h : P e.s) : P (e.ack address number).s := by
  unfold Ev.ack
  split
  · split
    · exact k.countAck _ _ h
    · exact k.lateAnswer number address h
  all_goals exact k.lateAnswer number address h

theorem endUnanswered (p : PageRec) {e : Ev} (h : P e.s) : P (e.endUnanswered p).s := by
  have hleft : P (e.on (fun s => s.setPgu (s.pgu.leave p .unanswered s.clock))).s :=
    k.pages _ e.s (Pgu.leave_near B _ _ _ _).2 h
  unfold Ev.endUnanswered
  refine k.kept.reportPageEnd ?_
  split
  · exact k.kept.raise hleft
  · exact hleft

theorem deadline (number : Nat) {e : Ev} (h : P e.s) : P (e.deadline number).s := by
  unfold Ev.deadline
  split
  · exact h
  · split
    · exact h
    · split
      · exact k.kept.trySelect (k.kept.requeue h)
      · split
        · exact k.kept.endPage h
        · exact k.endUnanswered _ h

end WatchLaw

end Sys2Proof.Machine
end

section
/-! PROOFS. The station commands and the receivers of the ports keep a property that `WatchLaw` describes, and so does every step;
with that, every step keeps the queues within their bounds (R129, R130, R168, R183). -/

namespace Sys2Proof.Machine

open Sys2Proof

theorem State.setDlu_watched {d : Dlu} {s : State} (hl : d.labels = s.dlu.labels) (hr : d.racks = s.dlu.racks) :
    (s.setDlu d).watched = s.watched := by
  simp only [State.watched, State.setDlu_dlu, hl, hr]
  rfl

namespace WatchLaw

variable {B : Prop} {P : State → Prop} (k : WatchLaw B P)
include k

/-! ### Commands on step records and channels (R4, R11, R13 to R16) -/

theorem writeStep (idx : BitVec 16) (give : Byte) (im : StepImage) {e : Ev} (h : P e.s) : P (cmdWriteStep idx give im e).1.s := by
  refine withIndex_keeps h fun i => ?_
  split
  · exact h
  · split
    · simp only
      split
      · exact k.same rfl h
      · exact h
    all_goals exact h

theorem toIdle (c : Chan) {s : State} (h : P s) : P (s.toIdle c) := k.kept.handOven (k.kept.onChan _ _ h)

theorem deliverPending (c : Chan) (n : Ending) {s : State} (h : P s) : P (s.deliverPending c n) := by
  unfold State.deliverPending
  exact k.kept.onChan _ _ (k.setWaiting _ _ s h)

theorem start (x : Station) (chan : Byte) (first : BitVec 16) {e : Ev} (h : P e.s) : P (cmdStart x chan first e).1.s := by
  refine withIndex_keeps h fun c => withIndex_keeps h fun i => ?_
  simp only
  split
  · exact k.deliverPending _ _ h
  · split_ifs
    · exact h
    · exact h
    · exact h
    · exact k.kept.beginStep (k.same rfl h)

theorem halt (chan : Byte) {e : Ev} (h : P e.s) : P (cmdHalt chan e).1.s := by
  refine withIndex_keeps h fun c => ?_
  split
  · exact k.kept.endStep h
  · exact k.toIdle c h
  · exact h
  · exact h

theorem releaseHold (chan : Byte) {e : Ev} (h : P e.s) : P (cmdReleaseHold chan e).1.s := by
  refine withIndex_keeps h fun c => ?_
  split
  · exact k.toIdle c h
  · exact h
  · exact h
  · exact h

theorem resetChannel (chan : Byte) {e : Ev} (h : P e.s) : P (cmdResetChannel chan e).1.s := by
  refine withIndex_keeps h fun c => ?_
  split
  · exact h
  · exact h
  · exact h
  · split
    · exact h
    · split
      · exact h
      · exact k.toIdle c (k.resetLoad _ h)

/-! ### Commands on loads (R55, R58, R61) -/

theorem setLoad (load : Byte) (im : LoadImage) {e : Ev} (h : P e.s) : P (cmdSetLoad load im e).1.s := by
  refine withIndex_keeps h fun l => ?_
  simp only
  split
  · exact h
  · simp only
    split
    · exact k.loadLost l (k.same rfl h)
    · exact k.loadChanged l _ (k.same rfl h)

theorem testCutout (x : Station) (load : Byte) {e : Ev} (h : P e.s) : P (cmdTestCutout x load e).1.s := by
  refine withIndex_keeps h fun l => ?_
  simp only
  split_ifs
  · exact h
  · exact h
  · exact h
  · exact k.same rfl h

/-! ### Commands on the pool, the warmers and the reservations (chapters 4 and 5) -/

theorem inventorySet (kind : Byte) (stock : BitVec 32) {e : Ev} (h : P e.s) : P (cmdInventorySet kind stock e).1.s := by
  refine withIndex_keeps h fun i => ?_
  simp only
  split
  · exact h
  · exact k.same rfl h

theorem requeue (kind : Byte) (n : BitVec 16) {e : Ev} (h : P e.s) : P (cmdRequeue kind n e).1.s :=
  withIndex_keeps h fun _ => k.soiledChanged _ _ (k.same rfl h)

theorem warmerCount (warmer n : Byte) {e : Ev} (h : P e.s) : P (cmdWarmerCount warmer n e).1.s := by
  have hrecount : ∀ (w : WarmerIx) (m : Nat) (f : Ev), P f.s → P ((f.on (State.setCount w m)).restartCounting w).s :=
    fun w m _ hf => k.restartCounting w (k.setCount w m hf)
  refine withIndex_keeps h fun w => ?_
  simp only
  split
  · exact h
  · split
    · exact k.kept.evaluate (hrecount _ _ _ (k.movement _ _ _ _ h))
    · split
      · exact k.kept.revoke (hrecount _ _ _ (k.movement _ _ _ _ h))
      · exact hrecount _ _ _ h

theorem setWarmer (warmer : Byte) (im : WarmerImage) {e : Ev} (h : P e.s) : P (cmdSetWarmer warmer im e).1.s := by
  refine withIndex_keeps h fun w => withIndex_keeps h fun kind => ?_
  let c := (e.s.ppu.warmers[w]).configured kind im
  have hset : P (e.on (State.setWarmer w c)).s := k.same rfl h
  have hcount : P (if (e.s.ppu.warmers[w]).capacity = 0 ∧ 0 < c.capacity then (e.on (State.setWarmer w c)).restartCounting w
      else e.on (State.setWarmer w c)).s := by
    split
    · exact k.restartCounting w hset
    · exact hset
  simp only
  split
  · exact h
  · split
    · exact h
    · refine k.kept.handSetpoint _ _ _ _ (k.judgeWarmer w ?_)
      split
      · exact k.same rfl hcount
      · exact hcount

theorem reserve (x : Station) (kind n : Byte) {e : Ev} (h : P e.s) : P (cmdReserve x kind n e).1.s := by
  refine withIndex_keeps h fun i => ?_
  split
  · exact h
  · split
    · exact h
    · exact k.kept.createEntry h

theorem cancelReservation (x : Station) (idx : Byte) (creation : BitVec 16) {e : Ev} (h : P e.s) :
    P (cmdCancelReservation x idx creation e).1.s := by
  refine withIndex_keeps h fun i => ?_
  split
  · exact h
  · split
    · exact h
    · exact k.kept.finishEntry h

/-! ### Commands on the dish line (R127 to R129) -/

/-- A label is refused where the queue holds eight (R129). -/
theorem labelRack (kind count : Byte) {e : Ev} (h : P e.s) : P (cmdLabelRack kind count e).1.s := by
  refine withIndex_keeps h fun i => ?_
  split
  · exact h
  · split
    · exact h
    next hroom =>
      exact k.dish _ e.s (fun _ hd => ⟨List.length_append.trans_le (Nat.lt_of_not_le hroom), hd.2⟩) h

theorem setDish (im : DishImage) {e : Ev} (h : P e.s) : P (cmdSetDish im e).1.s := by
  refine withIndex_keeps h fun station => ?_
  have hdish : ∀ d : State → Dlu, (d e.s).labels = e.s.dlu.labels → (d e.s).racks = e.s.dlu.racks →
      P (e.on (fun s => (s.setDlu (d s)).handDish)).s := fun _ hl hr =>
    k.kept.handSetpoint _ _ _ _ (k.kept.handSetpoint _ _ _ _ (k.frame e.s _ (State.setDlu_watched hl hr) h))
  simp only
  split
  · exact hdish _ rfl rfl
  · exact k.report _ _ (hdish _ rfl rfl)

/-! ### Commands on the roster and on pages (chapters 7 and 8) -/

theorem setBadge (badge : Byte) (address : BitVec 24) (role zone : Byte) {e : Ev} (h : P e.s) :
    P (cmdSetBadge badge address role zone e).1.s := by
  refine withIndex_keeps h fun b => ?_
  simp only
  split_ifs
  · exact h
  · exact h
  · exact h
  · exact k.same rfl h

theorem badgeState (badge st : Byte) {e : Ev} (h : P e.s) : P (cmdBadgeState badge st e).1.s := by
  refine withIndex_keeps h fun b => ?_
  split
  · exact h
  · simp only
    split
    · exact h
    · exact k.same rfl h

/-- A page is refused where the queue has no room (R168). -/
theorem page (x : Station) (im : PageImage) {e : Ev} (h : P e.s) : P (cmdPage x im e).1.s := by
  unfold cmdPage
  split
  · exact h
  · split
    next hroom => exact k.kept.submit (fun _ => Pgu.room_lt hroom) h
    next => exact h

theorem cancelPage (x : Station) (number : BitVec 16) {e : Ev} (h : P e.s) : P (cmdCancelPage x number e).1.s := by
  unfold cmdCancelPage
  split
  · exact h
  · split
    · exact h
    · split
      · exact h
      · exact k.kept.endPage h

theorem setPaging (im : PagingImage) {e : Ev} (h : P e.s) : P (cmdSetPaging im e).1.s := by
  unfold cmdSetPaging
  split
  · exact k.same rfl h
  · exact h

theorem setPort (port short : Byte) (long : BitVec 16) (action : Byte) {e : Ev} (h : P e.s) :
    P (cmdSetPort port short long action e).1.s := by
  refine withIndex_keeps h fun y => ?_
  split
  · exact h
  · exact k.same rfl h

/-! ### A command taken by its block, from its own row or from a frame (R204, R205) -/

theorem takeCommand (i : Instr) {e : Ev} (h : P e.s) : P (Machine.takeCommand i e).1.s := by
  cases i with
  | writeStep x idx give im => exact k.writeStep idx give im h
  | start x chan first => exact k.start x chan first h
  | halt x chan => exact k.halt chan h
  | releaseHold x chan => exact k.releaseHold chan h
  | resetChannel x chan => exact k.resetChannel chan h
  | setChannel x chan fallback => exact withIndex_keeps h fun _ => k.same rfl h
  | setLoad x load im => exact k.setLoad load im h
  | resetLoad x load => exact withIndex_keeps h fun l => k.resetLoad l h
  | testCutout x load => exact k.testCutout x load h
  | setCap x cap => exact k.setBudget _ _ _ h
  | setBudget x cap unmanaged interval => exact k.setBudget _ _ _ h
  | inventorySet x kind stock => exact k.inventorySet kind stock h
  | returnPlates x kind n => exact withIndex_keeps h fun _ => k.movement _ _ _ _ h
  | requeue x kind n => exact k.requeue kind n h
  | discard x kind n => exact withIndex_keeps h fun _ => k.same rfl h
  | warmerCount x warmer n => exact k.warmerCount warmer n h
  | setWarmer x warmer im => exact k.setWarmer warmer im h
  | reserve x kind n => exact k.reserve x kind n h
  | cancelReservation x idx creation => exact k.cancelReservation x idx creation h
  | labelRack x kind count => exact k.labelRack kind count h
  | setDish x im => exact k.setDish im h
  | setBadge x badge address role zone => exact k.setBadge badge address role zone h
  | badgeState x badge st => exact k.badgeState badge st h
  | assignFunction x badge function => exact withIndex_keeps h fun _ => k.same rfl h
  | clearFunctions x badge => exact withIndex_keeps h fun _ => k.same rfl h
  | page x im => exact k.page x im h
  | cancelPage x number => exact k.cancelPage x number h
  | setPaging x im => exact k.setPaging im h
  | clearFaults x groups => exact k.clearFaults groups e h
  | setFaultMask x masks => exact k.setFaultMask masks e h
  | subscribeFaults x groups => exact k.subscribeFaults x groups e h
  | setFaultPaging x paging => exact k.setFaultPaging paging e h
  | fetchNotice x => exact k.fetchNotice x e h
  | setPort x port short long action => exact k.setPort port short long action h
  | _ => exact h

theorem takeFrame (x : Station) (f : HeldFrame) {e : Ev} (h : P e.s) : P (e.takeFrame x f).s := by
  have hbusy : P (e.on (fun s => s.setPort x { s.sp.ports[x] with outstanding := true })).s := k.same rfl h
  unfold Ev.takeFrame
  refine k.same rfl ?_
  unfold Ev.answerFrame
  split
  · split
    · exact k.takeCommand _ hbusy
    · exact hbusy
    · exact hbusy
  · exact hbusy

theorem heard (x : Station) {e : Ev} (h : P e.s) : P (e.heard x).s := by
  have hend : ∀ (b : Bool) (c : Cond) (f : Ev), P f.s → P (if b then f.condEnds c x.val else f).s := by
    intro b c f hf
    split
    · exact k.kept.condEnds hf
    · exact hf
  exact hend _ .lost _ (hend _ .slow _ (k.same rfl h))

/-- A frame that has arrived is taken, buffered or discarded (R203, R204). -/
theorem completeFrame (x : Station) (body : List Byte) (checksum : BitVec 16) {e : Ev} (h : P e.s) :
    P (e.completeFrame x body checksum).s := by
  let f : HeldFrame := ⟨body, decide (frameCheck body = checksum)⟩
  let e0 : Ev := e.on (fun s => s.setPort x { s.sp.ports[x] with inFrame := false, soFar := [] })
  have harrived : P (if f.valid then e0.heard x else e0.raise .frameError x.val).s := by
    split
    · exact k.heard x (k.same rfl h)
    · exact k.kept.raise (k.same rfl h)
  have hplaced : ∀ g : Ev, P g.s → P (if (g.s.sp.ports[x]).outstanding = false then g.takeFrame x f
      else if (g.s.sp.ports[x]).buffered.isNone then g.on (fun s => s.setPort x { s.sp.ports[x] with buffered := some f })
      else g.raise .frameError x.val).s := by
    intro g hg
    split
    · exact k.takeFrame x f hg
    · split
      · exact k.same rfl hg
      · exact k.kept.raise hg
  exact hplaced _ harrived

theorem abandon (x : Station) {e : Ev} (h : P e.s) : P (e.abandon x).s := k.kept.raise (k.same rfl h)

theorem wholeFrame (x : Station) (body : List Byte) (checksum : BitVec 16) {e : Ev} (h : P e.s) :
    P (e.wholeFrame x body checksum).s := by
  unfold Ev.wholeFrame
  split
  · exact k.completeFrame x body checksum h
  · exact k.abandon x h

theorem byte (x : Station) (b : Byte) {e : Ev} (h : P e.s) : P (e.byte x b).s := by
  unfold Ev.byte
  simp only
  split
  · split
    · exact k.abandon x h
    · split
      · exact k.completeFrame x _ _ h
      · exact k.same rfl h
  · split
    · exact k.same rfl h
    · exact h

theorem responseSent (x : Station) {e : Ev} (h : P e.s) : P (e.responseSent x).s := by
  unfold Ev.responseSent
  simp only
  split
  · split
    · exact k.takeFrame x _ (k.same rfl h)
    · exact k.same rfl h
  · exact h

/-! ### The silence timers (R208) -/

theorem shortExpiry (x : Station) {e : Ev} (h : P e.s) : P (e.shortExpiry x).s := by
  unfold Ev.shortExpiry
  simp only
  split
  · exact k.kept.condHolds (k.same rfl h)
  · exact h

theorem longExpiry (x : Station) {e : Ev} (h : P e.s) : P (e.longExpiry x).s := by
  unfold Ev.longExpiry
  simp only
  split
  · have hlost : P ((e.silent x).condHolds .lost x.val).s := k.kept.condHolds (k.same rfl h)
    split
    · rw [Ev.hand_all]
      exact hlost
    · exact hlost
  · exact h

/-! ### Rows and steps -/

theorem happens {e : Ev} {t : State} (h : P e.s) (ht : happened e = .next t) : P t := by
  cases ht
  exact k.kept.finish h

theorem concludes {x : Station} {code : Byte} {r : Ev × Response} {t : State} (h : P r.1.s)
    (ht : concluded x code r = .next t) : P t := by
  cases ht
  exact k.frame r.1.finish _ rfl (k.kept.finish h)

theorem key (address : Nat) {s : State} (h : P s) : P (s.key address) := by
  unfold State.key
  split
  · exact h
  · simp only
    split
    · exact k.frame s _ rfl h
    · exact k.frame s _ rfl h
    · exact h

/-- A command or an event carried out. -/
theorem exec (i : Instr) {s t : State} (h : P s) (ht : Machine.exec i s = .next t) : P t := by
  rcases hx : senderOf i with _ | x
  case some =>
    obtain ⟨code, hc⟩ := exec_command hx s
    exact k.concludes (k.takeCommand i h) (hc.symm.trans ht)
  case none =>
    cases i with
    | deviceReset => cases ht; exact k.frame (State.resetWith s.pins) _ rfl (k.reset s.pins)
    | commandFrame x body checksum => exact k.happens (k.wholeFrame x body checksum h) ht
    | byteGapExpiry x =>
      refine k.happens ?_ ht
      split
      · exact k.abandon x h
      · exact h
    | responseSent x => exact k.happens (k.responseSent x h) ht
    | shortTimerExpiry x => exact k.happens (k.shortExpiry x h) ht
    | longTimerExpiry x => exact k.happens (k.longExpiry x h) ht
    | txDone number address ok => exact k.happens (k.txDone _ _ ok h) ht
    | ack address number => exact k.happens (k.ack _ _ h) ht
    | key address value => cases ht; exact k.key _ h
    | unreadableBaseFrame => cases ht; exact h
    | transmissionTimerExpiry => exact k.happens (k.txTimeout h) ht
    | retryExpiry => exact k.happens (k.retry h) ht
    | deadlineExpiry number => exact k.happens (k.deadline _ h) ht
    | probeRisingEdge p elapsed => exact k.happens (k.risingEdge p _ h) ht
    | probeFallingEdge p elapsed => exact k.happens (e := (Ev.start s).fallingEdge p elapsed.toNat) (k.same rfl h) ht
    | captureOverflow p => exact k.happens (k.overflow p h) ht
    | outputTick l => cases ht; exact k.frame s _ rfl h
    | cutoutTestCompletion l => exact k.happens (k.testCompletion l h) ht
    | verificationExpiry => exact k.happens (k.verify h) ht
    | intervalExpiry => exact k.happens (e := (Ev.start s).intervalExpiry) (k.same rfl (k.allocate .interval h)) ht
    | encoderTransition w a b => exact k.happens (k.encoderPair w _ h) ht
    | loadSwitchChange w isOpen => cases ht; exact k.frame s _ rfl h
    | soakTimerExpiry w => exact k.happens (k.soakSecond w h) ht
    | stepTimerExpiry c => exact k.happens (k.kept.stepSecond h) ht
    | rackEntry => exact k.happens (k.rackEntry h) ht
    | rackExit => exact k.happens (k.rackExit h) ht
    | jamCheck => exact k.happens (k.jamCheck (k.frame s s.second rfl h)) ht
    | conveyorPulse elapsed => exact k.happens (k.conveyorPulse (k.frame s _ rfl h)) ht
    | stallExpiry => exact k.happens (k.stallExpiry h) ht
    | refreshExpiry => exact k.happens (k.refresh h) ht
    | receivedByte x b => exact k.happens (k.byte x b h) ht
    | _ => cases hx

/-- Every step keeps a property that `WatchLaw` describes. -/
theorem step {s t : State} (h : P s) (ht : Machine.step s = .next t) : P t := by
  unfold Machine.step at ht
  split at ht
  · cases ht; exact h
  next i rest _ => exact k.exec i (k.frame s { s with pending := rest } rfl h) ht

end WatchLaw

/-! ### The bounds (R129, R130, R168, R183) -/

/-- The pages queued and retained, the labels and the racks inside. -/
def State.lists (s : State) : List PageRec × List Retained × List Label × List RackRec :=
  (s.pgu.queue, s.pgu.retention, s.dlu.labels, s.dlu.racks)

/-- The page queue and the retention list, the labels and the racks inside are within their bounds. -/
def State.InBounds (s : State) : Prop := s.PagingFits ∧ s.DishFits

theorem State.inBounds_of_lists {s t : State} (h : t.lists = s.lists) (hs : s.InBounds) : t.InBounds := by
  obtain ⟨hqueue, hretention, hlabels, hracks⟩ : t.pgu.queue = s.pgu.queue ∧ t.pgu.retention = s.pgu.retention ∧
      t.dlu.labels = s.dlu.labels ∧ t.dlu.racks = s.dlu.racks := by simpa [State.lists] using h
  unfold State.InBounds State.PagingFits State.DishFits
  rw [hqueue, hretention, hlabels, hracks]
  exact hs

theorem State.postNotice_lists (x : Station) (n : Notice) (s : State) : (s.postNotice x n).lists = s.lists := by
  obtain ⟨q, hq, -⟩ := State.postNotice_cases x n s
  rw [hq]
  rfl

theorem State.latch_lists (c : Cond) (source : Nat) (s : State) : (s.latch c source).1.lists = s.lists := by
  obtain ⟨f, p, hlatch, -⟩ := State.latch_writes c source s
  rw [hlatch]
  rfl

theorem cmdClearFaults_lists (groups : Byte) (e : Ev) : (cmdClearFaults groups e).1.s.lists = e.s.lists := by
  unfold cmdClearFaults
  split
  · rfl
  · split <;> rfl

theorem cmdSetFaultMask_lists (masks : Vector Byte 6) (e : Ev) : (cmdSetFaultMask masks e).1.s.lists = e.s.lists := by
  unfold cmdSetFaultMask
  split <;> rfl

theorem cmdSubscribeFaults_lists (x : Station) (groups : Byte) (e : Ev) :
    (cmdSubscribeFaults x groups e).1.s.lists = e.s.lists := by
  unfold cmdSubscribeFaults
  split <;> rfl

theorem cmdSetFaultPaging_lists (paging : Vector (Byte × Byte) 6) (e : Ev) :
    (cmdSetFaultPaging paging e).1.s.lists = e.s.lists := by
  unfold cmdSetFaultPaging
  split <;> rfl

theorem State.refill_lists (x : Station) (s : State) : (s.refill x).lists = s.lists := by
  unfold State.refill
  simp only
  split
  · rfl
  · split <;> rfl

theorem cmdFetchNotice_lists (x : Station) (e : Ev) : (cmdFetchNotice x e).1.s.lists = e.s.lists := by
  unfold cmdFetchNotice
  simp only
  split
  · rfl
  · exact State.refill_lists ..

theorem inBounds_law : WatchLaw True State.InBounds where
  bound := fun _ _ h => h.1
  reset := fun _ => ⟨⟨Nat.zero_le _, Nat.zero_le _⟩, Nat.zero_le _, Nat.zero_le _⟩
  frame := fun _ _ ht => State.inBounds_of_lists
    (congrArg (fun w => (w.1, w.2.1, w.2.2.1, w.2.2.2.1)) ht)
  pages := fun _ _ hg h => ⟨hg trivial h.1, h.2⟩
  dish := fun _ _ hd h => ⟨h.1, hd trivial h.2⟩
  postNotice := fun _ _ _ => State.inBounds_of_lists (State.postNotice_lists ..)
  setWaiting := fun _ _ _ h => h
  latch := fun _ _ _ => State.inBounds_of_lists (State.latch_lists ..)
  setActive := fun _ _ _ h => h
  clearFaults := fun _ _ => State.inBounds_of_lists (cmdClearFaults_lists ..)
  setFaultMask := fun _ _ => State.inBounds_of_lists (cmdSetFaultMask_lists ..)
  subscribeFaults := fun _ _ _ => State.inBounds_of_lists (cmdSubscribeFaults_lists ..)
  setFaultPaging := fun _ _ => State.inBounds_of_lists (cmdSetFaultPaging_lists ..)
  fetchNotice := fun _ _ => State.inBounds_of_lists (cmdFetchNotice_lists ..)

/-- Settles O60: the bounds are a property that `WatchLaw` describes, and every step keeps such a property. -/
theorem everyStepKeepsTheQueuesInBounds : Obligations.EveryStepKeepsTheQueuesInBounds := fun _ _ hpages hdish ht =>
  inBounds_law.step ⟨hpages, hdish⟩ ht

end Sys2Proof.Machine
end

section
/-! PROOFS. Flow control and its refresh (R143 to R147). -/

namespace Sys2Proof.Machine

open Sys2Proof

/-! ### An event closes -/

/-- What the engine's taking of reports leaves of what an event of the dish line has made. -/
theorem Ev.finish_dish {e : Ev} {u : State} (h : e.s.bench = u.bench) :
    e.finish.dlu = e.s.dlu ∧ e.finish.ppu.pools = u.ppu.pools ∧ e.finish.ppu.warmers = u.ppu.warmers ∧
      e.finish.clock = u.clock ∧ e.finish.hlu.probes = u.hlu.probes ∧ e.finish.pba = u.pba ∧ e.finish.pending = u.pending := by
  obtain ⟨hclock, hprobes, -, hpba, hpools, hwarmers, hdlu, -, hpending⟩ := State.still_eq e.finish_still
  obtain ⟨hclock', -, hhlu, hpba', hppu, -, -, hpending'⟩ := State.bench_eq h
  exact ⟨hdlu, hpools.trans (congrArg Ppu.pools hppu), hwarmers.trans (congrArg Ppu.warmers hppu), hclock.trans hclock',
    hprobes.trans (congrArg Hlu.probes hhlu), hpba.trans hpba', hpending.trans hpending'⟩

theorem State.dlu_of_desk {s t : State} (h : t.desk = s.desk) : t.dlu = s.dlu := by
  obtain ⟨-, -, -, -, -, hdlu, -⟩ := State.desk_eq h
  exact hdlu

/-! ### Flow pages (R147, R173) -/

/-- Whether a flow page finds its place: a queued page of the dish line takes it, or the queue has room (R173). -/
def Pgu.takesFlow (g : Pgu) : Bool :=
  g.queue.any (fun p => decide (p.state = .queued) && decide (p.originator = .dishLine)) || decide (g.queue.length < 48)

theorem Ev.submitFlow_taken (sub : Submission) (e : Ev) : (e.submitFlow sub).2 = e.s.pgu.takesFlow := by
  have hfind : ((e.s.pgu.inState .queued).find? (fun p => decide (p.originator = .dishLine))).isSome =
      e.s.pgu.queue.any (fun p => decide (p.state = .queued) && decide (p.originator = .dishLine)) := by
    simp only [Pgu.inState, List.find?_filter, List.isSome_find?, Bool.decide_and, Bool.decide_eq_true]
  unfold Ev.submitFlow Pgu.takesFlow
  rw [← hfind]
  cases (e.s.pgu.inState .queued).find? (fun p => decide (p.originator = .dishLine)) with
  | some p => rfl
  | none =>
    show (if e.s.pgu.room then _ else _ : Ev × Bool).2 = e.s.pgu.room
    split
    next h => exact h.symm
    next h => exact (Bool.eq_false_of_not_eq_true h).symm

theorem Ev.sendFlow_taken (kind : FlowPage) (e : Ev) : (e.sendFlow kind).2 = e.s.pgu.takesFlow := Ev.submitFlow_taken ..

/-- OWED PAGE after a flow page, whatever the page causes (R147). -/
theorem Ev.sendFlow_dlu (kind : FlowPage) (e : Ev) :
    (e.sendFlow kind).1.s.dlu =
      { e.s.dlu with flow := { e.s.dlu.flow with owed := if e.s.pgu.takesFlow then .none else kind.owed } } := by
  have hdlu : (e.submitFlow (e.s.dlu.settings.flowPage kind)).1.s.dlu = e.s.dlu := State.dlu_of_desk (Ev.submitFlow_desk ..)
  show ((e.submitFlow _).1.s.setFlow { (e.submitFlow _).1.s.dlu.flow with owed := if (e.submitFlow _).2 then _ else _ }).dlu = _
  rw [State.setFlow, hdlu, Ev.submitFlow_taken]

/-! ### The watermarks (R143 to R145) -/

theorem State.dishNotice_dlu (index : Nat) (code : NoticeCode) (p1 p2 p3 : Nat) (s : State) :
    (s.dishNotice index code p1 p2 p3).dlu = s.dlu := State.dlu_of_desk (State.postNotice_desk ..)

theorem Ev.enterHolding_flow (total : Nat) (e : Ev) :
    (e.enterHolding total).s.dlu.flow =
      { e.s.dlu.flow with
        holding := true, owed := if e.s.pgu.takesFlow then .none else .hold
        refreshLeft := some (e.s.dlu.settings.holdTime / 2) } := by
  unfold Ev.enterHolding
  simp only [Ev.on_s, State.dishNotice_dlu, State.setFlow_dlu_flow, Ev.sendFlow_dlu]
  rfl

theorem Ev.enterFlowing_flow (total : Nat) (e : Ev) :
    (e.enterFlowing total).s.dlu.flow =
      { e.s.dlu.flow with
        holding := false, owed := if e.s.pgu.takesFlow then .none else .release
        refreshLeft := if e.s.pgu.takesFlow then none else e.s.dlu.flow.refreshLeft } := by
  unfold Ev.enterFlowing
  simp only [Ev.on_s, State.dishNotice_dlu, State.setFlow_dlu_flow, Ev.sendFlow_dlu, Ev.sendFlow_taken]
  rfl

section Handover
variable {total : Nat} {e : Ev}

/-- The new total alone is written. -/
def Ev.noted (e : Ev) (total : Nat) : Ev := e.on fun s => s.setFlow { s.dlu.flow with soiledTotal := total }

theorem Ev.soiledHandover_enters (h : e.s.dlu.flow.holding = false) (ht : e.s.dlu.settings.high ≤ total) :
    e.soiledHandover total = (e.noted total).enterHolding total := by
  unfold Ev.soiledHandover
  simp only [Ev.on_s, State.setFlow_dlu_flow, State.setFlow_dlu_settings, h, ht]
  rfl

theorem Ev.soiledHandover_flows (h : e.s.dlu.flow.holding = false) (ht : total < e.s.dlu.settings.high) :
    e.soiledHandover total = e.noted total := by
  unfold Ev.soiledHandover
  simp only [Ev.on_s, State.setFlow_dlu_flow, State.setFlow_dlu_settings, h, Nat.not_le.mpr ht]
  rfl

theorem Ev.soiledHandover_leaves (h : e.s.dlu.flow.holding = true) (ht : total ≤ e.s.dlu.settings.low) :
    e.soiledHandover total = (e.noted total).enterFlowing total := by
  unfold Ev.soiledHandover
  simp only [Ev.on_s, State.setFlow_dlu_flow, State.setFlow_dlu_settings, h, ht]
  rfl

theorem Ev.soiledHandover_holds (h : e.s.dlu.flow.holding = true) (ht : e.s.dlu.settings.low < total) :
    e.soiledHandover total = e.noted total := by
  unfold Ev.soiledHandover
  simp only [Ev.on_s, State.setFlow_dlu_flow, State.setFlow_dlu_settings, h, Nat.not_le.mpr ht]
  rfl

/-- The flow state after a new total, and the total (R143 to R145). -/
theorem Ev.soiledHandover_flow (total : Nat) (e : Ev) :
    ((e.soiledHandover total).s.dlu.flow.holding =
      if e.s.dlu.flow.holding then decide (e.s.dlu.settings.low < total) else decide (e.s.dlu.settings.high ≤ total)) ∧
    (e.soiledHandover total).s.dlu.flow.soiledTotal = total := by
  cases h : e.s.dlu.flow.holding with
  | false =>
    by_cases ht : e.s.dlu.settings.high ≤ total
    · rw [Ev.soiledHandover_enters h ht, Ev.enterHolding_flow]
      exact ⟨(decide_eq_true ht).symm, rfl⟩
    · rw [Ev.soiledHandover_flows h (Nat.lt_of_not_le ht)]
      exact ⟨h.trans (decide_eq_false ht).symm, rfl⟩
  | true =>
    by_cases ht : total ≤ e.s.dlu.settings.low
    · rw [Ev.soiledHandover_leaves h ht, Ev.enterFlowing_flow]
      exact ⟨(decide_eq_false (Nat.not_lt.mpr ht)).symm, rfl⟩
    · rw [Ev.soiledHandover_holds h (Nat.lt_of_not_le ht)]
      exact ⟨h.trans (decide_eq_true (Nat.lt_of_not_le ht)).symm, rfl⟩

end Handover

/-! ### The refresh (R146) -/

theorem exec_refreshExpiry (s : State) : exec .refreshExpiry s = .next (Ev.start s).refresh.finish := rfl

theorem Ev.refresh_bench (e : Ev) : e.refresh.s.bench = e.s.bench := by
  unfold Ev.refresh
  simp only
  split_ifs
  · rfl
  · exact (State.setFlow_bench ..).trans (Ev.sendFlow_bench ..)
  · exact (State.setFlow_bench ..).trans (Ev.sendFlow_bench ..)
  · exact (State.setFlow_bench ..).trans (Ev.sendFlow_bench ..)
  · exact State.setFlow_bench ..

section Refresh
variable {e : Ev} (hrun : e.s.dlu.flow.refreshLeft.isSome = true)
include hrun

theorem Ev.refresh_holding (h : e.s.dlu.flow.holding = true) :
    e.refresh.s.dlu = { e.s.dlu with flow := { e.s.dlu.flow with
      refreshLeft := some (e.s.dlu.settings.holdTime / 2), owed := if e.s.pgu.takesFlow then .none else .hold } } := by
  obtain ⟨n, hn⟩ := Option.isSome_iff_exists.mp hrun
  unfold Ev.refresh
  simp only [hn, h, Option.isNone_some, Bool.false_eq_true, if_false, if_true, Ev.on_s, State.setFlow, Ev.sendFlow_dlu]
  rfl

theorem Ev.refresh_owing (h : e.s.dlu.flow.holding = false) (howed : e.s.dlu.flow.owed = .release) :
    e.refresh.s.dlu = { e.s.dlu with flow := { e.s.dlu.flow with
      refreshLeft := if e.s.pgu.takesFlow then none else some (e.s.dlu.settings.holdTime / 2)
      owed := if e.s.pgu.takesFlow then .none else .release } } := by
  obtain ⟨n, hn⟩ := Option.isSome_iff_exists.mp hrun
  unfold Ev.refresh
  simp only [hn, h, howed, Option.isNone_some, Bool.false_eq_true, if_false, if_true, Ev.sendFlow_taken]
  cases htakes : e.s.pgu.takesFlow <;>
    simp only [Bool.false_eq_true, if_false, if_true, Ev.on_s, State.setFlow, Ev.sendFlow_dlu, htakes, h, FlowPage.owed,
      DishSettings.refresh]

end Refresh

/-- Settles O28, from the branches of a hand-over and of a refresh. -/
theorem flowControlRule : Obligations.FlowControlRule := by
  refine ⟨fun total e => ?_, fun s hrun => ⟨fun h => ?_, fun h howed => ?_⟩⟩
  · obtain ⟨hholding, htotal⟩ := e.soiledHandover_flow total
    refine ⟨hholding, htotal, fun h ht => ?_, fun h ht => ?_, fun h ht => ?_⟩
    · rw [Ev.soiledHandover_enters h ht, Ev.enterHolding_flow]
      rfl
    · rw [Ev.soiledHandover_flows h ht]
      rfl
    · rw [Ev.soiledHandover_holds h ht]
      rfl
  all_goals
    obtain ⟨hdlu, hpools, -, hclock, hprobes, hpba, hpending⟩ := Ev.finish_dish (Ev.start s).refresh_bench
    refine ⟨_, exec_refreshExpiry s, hdlu.trans ?_, hclock, hprobes, hpba, hpools, hpending⟩
  · exact Ev.refresh_holding (e := Ev.start s) hrun h
  · exact Ev.refresh_owing (e := Ev.start s) hrun h howed

end Sys2Proof.Machine
end

section
/-! PROOFS. The jam check with the service clock's second, and the conveyor (R138, R140, R141). -/

namespace Sys2Proof.Machine

open Sys2Proof

/-- The same of an event that has left flow control alone as well. -/
theorem Ev.finish_desk {e : Ev} {u : State} (h : e.s.desk = u.desk) :
    e.finish.dlu = u.dlu ∧ e.finish.ppu.pools = u.ppu.pools ∧ e.finish.ppu.warmers = u.ppu.warmers ∧
      e.finish.clock = u.clock ∧ e.finish.hlu.probes = u.hlu.probes ∧ e.finish.pba = u.pba ∧ e.finish.pending = u.pending := by
  obtain ⟨hdlu, hrest⟩ := Ev.finish_dish (State.bench_of_desk h)
  exact ⟨hdlu.trans (State.dlu_of_desk h), hrest⟩

/-! ### The jam check (R138) -/

theorem exec_jamCheck (s : State) : exec .jamCheck s = .next (Ev.start s.second).jamCheck.finish := rfl

theorem RackRec.marked_eq (r : RackRec) (d : DishSettings) (now : Nat) :
    (if r.jams d now then { r with jam := true } else r) =
      { r with jam := r.jam || decide (d.dwellMax ≤ secondsSince r.enteredAt now) } := by
  obtain ⟨sequence, kind, count, enteredAt, minRinse, rinseFault, jam⟩ := r
  cases jam with
  | true => rfl
  | false => by_cases h : d.dwellMax ≤ secondsSince enteredAt now <;> simp [RackRec.jams, h]

theorem Ev.jamCheck_desk (e : Ev) :
    e.jamCheck.s.desk = (e.s.setRacks (e.s.dlu.racks.map (fun r =>
      { r with jam := r.jam || decide (e.s.dlu.settings.dwellMax ≤ secondsSince r.enteredAt e.s.clock) }))).desk := by
  refine List.foldlRecOn (motive := fun f : Ev => f.s.desk = _) _ _ ?_ fun f hf r _ => (Ev.raise_desk ..).trans hf
  simp only [RackRec.marked_eq]
  rfl

/-! ### The conveyor (R140, R141) -/

theorem exec_conveyorPulse (elapsed : BitVec 16) (s : State) :
    exec (.conveyorPulse elapsed) s =
      .next (Ev.start (s.setConveyor (s.dlu.conveyor.after elapsed.toNat))).conveyorPulse.finish := rfl

theorem exec_stallExpiry (s : State) : exec .stallExpiry s = .next (Ev.start s).stallExpiry.finish := rfl

theorem Ev.report_desk (c : Cond) (holds : Bool) (e : Ev) : (e.report c holds).s.desk = e.s.desk := by
  unfold Ev.report
  split
  · exact Ev.condHolds_desk ..
  · exact Ev.condEnds_desk ..

theorem Ev.judgeConveyor_desk (e : Ev) : e.judgeStall.judgeFast.s.desk = e.s.desk :=
  (Ev.report_desk ..).trans (Ev.report_desk ..)

/-- The conveyor record after a pulse (R140). -/
def Conveyor.pulsed (c : Conveyor) (d : DishSettings) : Conveyor :=
  if c.groupOpen then
    if d.groupM ≤ c.pulses + 1 then ({ c with pulses := c.pulses + 1 } : Conveyor).complete d else { c with pulses := c.pulses + 1 }
  else { c with groupOpen := true, pulses := 0, spannedStall := false, base := 0, seen := true }

theorem Ev.conveyorPulse_desk (e : Ev) :
    e.conveyorPulse.s.desk = (e.s.setConveyor (e.s.dlu.conveyor.pulsed e.s.dlu.settings)).desk := by
  unfold Ev.conveyorPulse Conveyor.pulsed
  simp only
  split
  · split
    · exact Ev.judgeConveyor_desk _
    · rfl
  · split
    · rfl
    · exact Ev.report_desk ..

/-- A pulse with the time it brings: it opens a group, counts within one, or completes one with or without a stall (R140). -/
theorem Conveyor.pulsed_after (c : Conveyor) (d : DishSettings) (elapsed : Nat) :
    let base := min 10000 (c.base + elapsed)
    (c.after elapsed).pulsed d =
      if c.groupOpen = false then { c with groupOpen := true, pulses := 0, spannedStall := false, base := 0, seen := true }
      else if c.pulses + 1 < d.groupM then { c with pulses := c.pulses + 1, base := base }
      else if c.spannedStall then { c with pulses := 0, spannedStall := false, base := 0 }
      else { c with
        pulses := 0, spannedStall := false, base := 0, moving := true, lastGroupMs := max 1 base
        speed := d.groupM * d.mmPerPulse * 1000 / max 1 base } := by
  intro base
  cases hopen : c.groupOpen with
  | false => simp only [Conveyor.after, Conveyor.pulsed, hopen, Bool.false_eq_true, if_false, if_true]
  | true =>
    simp only [Conveyor.after, Conveyor.pulsed, hopen, Bool.true_eq_false, if_false, if_true]
    by_cases hlast : d.groupM ≤ c.pulses + 1
    · rw [if_pos hlast, if_neg (Nat.not_lt.mpr hlast)]
      rfl
    · rw [if_neg hlast, if_pos (Nat.lt_of_not_le hlast)]

theorem Ev.stallExpiry_desk {e : Ev} (h : e.s.dlu.conveyor.groupOpen = true) :
    e.stallExpiry.s.desk =
      (e.s.setConveyor { e.s.dlu.conveyor with moving := false, speed := 0, spannedStall := true, base := 0 }).desk := by
  rw [Ev.stallExpiry, if_pos h]
  exact Ev.judgeConveyor_desk _

/-- Settles O39: what the rows write of the dish line is all that their reports leave changed on the desk. -/
theorem jamCheckAndConveyorRules : Obligations.JamCheckAndConveyorRules := by
  refine ⟨fun s => ?_, fun elapsed s => ⟨?_, fun hopen => ?_⟩⟩
  · obtain ⟨hdlu, hpools, hwarmers, hclock, hprobes, -, hpending⟩ := Ev.finish_desk (Ev.start s.second).jamCheck_desk
    exact ⟨_, exec_jamCheck s, hclock, (congrArg Dlu.racks hdlu :), (congrArg Dlu.labels hdlu :),
      (congrArg Dlu.settings hdlu :), (congrArg Dlu.conveyor hdlu :), hprobes, hpools, hwarmers, hpending⟩
  · obtain ⟨hdlu, hpools, -, hclock, hprobes, hpba, hpending⟩ := Ev.finish_desk (Ev.conveyorPulse_desk _)
    refine ⟨_, exec_conveyorPulse elapsed s, hdlu.trans ?_, hclock, hprobes, hpba, hpools, hpending⟩
    exact congrArg (fun c => { s.dlu with conveyor := c }) (Conveyor.pulsed_after ..)
  · obtain ⟨hdlu, hpools, -, hclock, hprobes, hpba, hpending⟩ := Ev.finish_desk (Ev.stallExpiry_desk (e := Ev.start s) hopen)
    exact ⟨_, exec_stallExpiry s, hdlu, hclock, hprobes, hpba, hpools, hpending⟩

end Sys2Proof.Machine
end

section
/-! PROOFS. Rack entries and rack exits (R130 to R137). -/

namespace Sys2Proof.Machine

open Sys2Proof

/-- A movement reads and writes one pool record; what else an event has left on the bench stays. -/
theorem Ev.movement_bench_of {e : Ev} {u : State} (h : e.s.bench = u.bench) (k : Kind) (src dst : Place) (n : Nat) :
    (e.movement k src dst n).1.s.bench = (u.setPool k ((u.ppu.pools[k]).move src dst n).1).bench := by
  obtain ⟨hclock, hfse, hhlu, hpba, hppu, ⟨hsettings, hlabels, hracks, hnext, hconveyor⟩, hpins, hpending⟩ := State.bench_eq h
  rw [Ev.movement_bench]
  simp only [State.bench, State.setPool, hclock, hfse, hhlu, hpba, hppu, hsettings, hlabels, hracks, hnext, hconveyor, hpins,
    hpending]

/-- The same of a movement that is no matter of flow control. -/
theorem Ev.movement_desk_of {e : Ev} {u : State} (h : e.s.desk = u.desk) {src dst : Place} (hs : src ≠ .soiled)
    (hd : dst ≠ .soiled) (k : Kind) (n : Nat) :
    (e.movement k src dst n).1.s.desk = (u.setPool k ((u.ppu.pools[k]).move src dst n).1).desk := by
  obtain ⟨hclock, hfse, hhlu, hpba, hppu, hdlu, hpins, hpending⟩ := State.desk_eq h
  rw [Ev.movement_desk hs hd]
  simp only [State.desk, State.setPool, hclock, hfse, hhlu, hpba, hppu, hdlu, hpins, hpending]

/-! ### Rack entry (R130 to R133) -/

theorem exec_rackEntry (s : State) : exec .rackEntry s = .next (Ev.start s).rackEntry.finish := rfl

/-- The label queue and the racks are written, and the sequence number is taken (R130). -/
def State.rackIn (s : State) (labels : List Label) (racks : List RackRec) : State :=
  (s.setDlu { s.dlu with labels := labels, racks := racks }).takeSequence

/-- The racks after an entry: the record is made where there is room (R131 to R133). -/
def State.racksWith (s : State) (r : RackRec) : List RackRec := if s.dlu.racks.length < 10 then s.dlu.racks ++ [r] else s.dlu.racks

theorem Ev.rackEntry_unlabelled {e : Ev} (h : e.s.dlu.labels = []) :
    e.rackEntry.s.bench = (e.s.rackIn e.s.dlu.labels (e.s.racksWith (e.s.newRack none 0))).bench := by
  unfold Ev.rackEntry State.racksWith
  by_cases hroom : e.s.dlu.racks.length < 10
  · simp only [h, Config.rackRoom, hroom, decide_true, if_true]
    exact (State.bench_of_desk (Ev.raise_desk ..)).trans (by rw [← h]; rfl)
  · simp only [h, Config.rackRoom, hroom, decide_false, Bool.false_eq_true, if_false]
    exact (State.bench_of_desk ((Ev.raise_desk ..).trans (Ev.raise_desk ..))).trans (by rw [← h]; rfl)

/-- The plates of a labelled rack go to WASH, or to QUAR where the machine is full (R131, R133). -/
theorem Ev.rackEntry_labelled {e : Ev} {l : Label} {rest : List Label} (h : e.s.dlu.labels = l :: rest) :
    e.rackEntry.s.bench = ((e.s.rackIn rest (e.s.racksWith (e.s.newRack (some l.kind) l.count))).setPool l.kind
      ((e.s.ppu.pools[l.kind]).move .soiled (if e.s.dlu.racks.length < 10 then .wash else .quar) l.count).1).bench := by
  unfold Ev.rackEntry State.racksWith
  by_cases hroom : e.s.dlu.racks.length < 10
  · simp only [h, Config.rackRoom, hroom, decide_true, if_true]
    exact Ev.movement_bench_of (u := e.s.rackIn rest _) rfl ..
  · simp only [h, Config.rackRoom, hroom, decide_false, Bool.false_eq_true, if_false]
    exact Ev.movement_bench_of (u := e.s.rackIn rest _) (State.bench_of_desk (Ev.raise_desk ..)) ..

/-- What an event of the dish line leaves on the bench, flow control aside. -/
theorem Ev.finish_racks {e : Ev} {u : State} (h : e.s.bench = u.bench) :
    e.finish.dlu.nextSequence = u.dlu.nextSequence ∧ e.finish.dlu.settings = u.dlu.settings ∧
      e.finish.dlu.conveyor = u.dlu.conveyor ∧ e.finish.dlu.labels = u.dlu.labels ∧ e.finish.dlu.racks = u.dlu.racks ∧
      e.finish.ppu.pools = u.ppu.pools ∧ e.finish.clock = u.clock ∧ e.finish.hlu.probes = u.hlu.probes ∧ e.finish.pba = u.pba ∧
      e.finish.ppu.warmers = u.ppu.warmers ∧ e.finish.pending = u.pending := by
  obtain ⟨hdlu, hpools, hwarmers, hclock, hprobes, hpba, hpending⟩ := Ev.finish_dish h
  obtain ⟨-, -, -, -, -, ⟨hsettings, hlabels, hracks, hnext, hconveyor⟩, -⟩ := State.bench_eq h
  rw [hdlu]
  exact ⟨hnext, hsettings, hconveyor, hlabels, hracks, hpools, hclock, hprobes, hpba, hwarmers, hpending⟩

/-- The plates of an entering rack, while no count passes 32 bits (R88). -/
theorem PoolRec.move_soiled {p : PoolRec} {dst : Place} {n : Nat} (h : dst ≠ .soiled) (hd : p.at dst + n < 4294967296)
    (hs : p.stock + n < 4294967296) (hf : p.found + n < 4294967296) :
    (p.move .soiled dst n).1 =
      { (p.put (p.soiled - n) .soiled).put (p.at dst + n) dst with
        stock := p.stock + (n - p.soiled), found := p.found + (n - p.soiled) } :=
  PoolRec.move_eq h.symm hd (by simp only [PoolRec.at]; omega) (by simp only [PoolRec.at]; omega)

/-! ### Rack exit (R135 to R137) -/

theorem exec_rackExit (s : State) : exec .rackExit s = .next (Ev.start s).rackExit.finish := rfl

/-- A rack passes the sanitation judgement (R135). -/
theorem RackRec.judge_eq_none_iff (r : RackRec) (d : DishSettings) (now : Nat) :
    r.judge d now = none ↔
      r.rinseFault = false ∧ d.rinseMin ≤ r.minRinse ∧ d.dwellMin ≤ secondsSince r.enteredAt now := by
  unfold RackRec.judge
  split_ifs with hfault hlow hshort
  · simp [hfault]
  · simp [not_le.mpr hlow]
  · simp [Nat.not_le.mpr hshort]
  · simp [hfault, not_lt.mp hlow, Nat.not_lt.mp hshort]

theorem Ev.rackExit_empty {e : Ev} (h : e.s.dlu.racks = []) : e.rackExit.s.desk = e.s.desk := by
  unfold Ev.rackExit
  simp only [h]
  exact Ev.raise_desk ..

/-- The oldest record leaves, and its plates go by the judgement (R135, R136). -/
theorem Ev.rackExit_cons {e : Ev} {r : RackRec} {rest : List RackRec} (h : e.s.dlu.racks = r :: rest) :
    e.rackExit.s.desk = (match r.kind with
      | some k => (e.s.setRacks rest).setPool k ((e.s.ppu.pools[k]).move .wash
          (if (r.judge e.s.dlu.settings e.s.clock).isSome then .quar else .cool) r.count).1
      | none => e.s.setRacks rest).desk := by
  unfold Ev.rackExit
  simp only [h]
  generalize r.judge e.s.dlu.settings e.s.clock = verdict
  have hreports (f : Ev) : (match verdict with
      | none => f
      | some reason => (f.raise .rinseLow r.sequence).on
          (fun s => s.dishNotice r.noticeIndex .rackQuarantined r.sequence r.count reason.code)).s.desk = f.s.desk := by
    cases verdict with
    | none => rfl
    | some reason => exact (State.postNotice_desk ..).trans (Ev.raise_desk ..)
  refine (hreports _).trans ?_
  cases r.kind with
  | none => rfl
  | some k =>
    refine Ev.movement_desk_of (u := e.s.setRacks rest) rfl (by decide) ?_ k r.count
    split <;> decide

/-- The plates of a leaving rack, all of which WASH holds, while no count passes 32 bits (R88). -/
theorem PoolRec.move_wash {p : PoolRec} {dst : Place} {n : Nat} (h : dst ≠ .wash) (hn : n ≤ p.wash)
    (hd : p.at dst + n < 4294967296) (hs : p.stock < 4294967296) (hf : p.found < 4294967296) :
    (p.move .wash dst n).1 = (p.put (p.wash - n) .wash).put (p.at dst + n) dst := by
  have hnone : n - p.at .wash = 0 := Nat.sub_eq_zero_of_le hn
  rw [PoolRec.move_eq h.symm hd (by rw [hnone]; exact hs) (by rw [hnone]; exact hf), hnone]
  cases dst <;> rfl

/-- Settles O38, from the cases of an entry and of an exit. -/
theorem rackEntryAndExitRules : Obligations.RackEntryAndExitRules := by
  refine ⟨fun s => ?_, fun s => ?_⟩
  · cases hlabels : s.dlu.labels with
    | nil =>
      obtain ⟨hnext, hsettings, hconveyor, hleft, hracks, hpools, hrest⟩ :=
        Ev.finish_racks (Ev.rackEntry_unlabelled (e := Ev.start s) hlabels)
      exact ⟨_, exec_rackEntry s, hnext, hsettings, hconveyor, hleft.trans hlabels,
        ⟨fun _ => ⟨hpools, hracks⟩, fun _ _ h => nomatch h⟩, hrest⟩
    | cons l rest =>
      obtain ⟨hnext, hsettings, hconveyor, hleft, hracks, hpools, hrest⟩ :=
        Ev.finish_racks (Ev.rackEntry_labelled (e := Ev.start s) hlabels)
      refine ⟨_, exec_rackEntry s, hnext, hsettings, hconveyor, hleft, ⟨fun h => (nomatch h), fun l' rest' h => ?_⟩, hrest⟩
      obtain ⟨rfl, rfl⟩ := List.cons.inj h
      refine fun hwash hquar hstock hfound => ⟨fun hroom => ⟨hracks.trans (if_pos hroom), hpools.trans ?_⟩,
        fun hfull => ⟨hracks.trans (if_neg (Nat.not_lt.mpr hfull)), hpools.trans ?_⟩⟩
      · rw [Ev.start_s, if_pos hroom]
        exact congrArg (s.ppu.pools.set l.kind) (PoolRec.move_soiled (by decide) hwash hstock hfound)
      · rw [Ev.start_s, if_neg (Nat.not_lt.mpr hfull)]
        exact congrArg (s.ppu.pools.set l.kind) (PoolRec.move_soiled (by decide) hquar hstock hfound)
  · cases hracks : s.dlu.racks with
    | nil =>
      obtain ⟨hdlu, hpools, hwarmers, hclock, hprobes, hpba, hpending⟩ := Ev.finish_desk (Ev.rackExit_empty (e := Ev.start s) hracks)
      refine ⟨_, exec_rackExit s, hdlu.trans ?_, fun _ => hpools, (fun _ _ h => nomatch h), (fun _ _ _ h => nomatch h), hclock,
        hprobes, hpba, hwarmers, hpending⟩
      rw [List.drop_nil, ← hracks]
      rfl
    | cons r rest =>
      have hdesk := Ev.rackExit_cons (e := Ev.start s) hracks
      cases hkind : r.kind with
      | none =>
        rw [hkind] at hdesk
        obtain ⟨hdlu, hpools, hwarmers, hclock, hprobes, hpba, hpending⟩ := Ev.finish_desk hdesk
        refine ⟨_, exec_rackExit s, hdlu, fun _ => hpools, fun _ _ _ _ => hpools, fun r' rest' k h hk => ?_, hclock, hprobes, hpba,
          hwarmers, hpending⟩
        obtain ⟨rfl, rfl⟩ := List.cons.inj h
        exact nomatch hkind.symm.trans hk
      | some k =>
        rw [hkind] at hdesk
        obtain ⟨hdlu, hpools, hwarmers, hclock, hprobes, hpba, hpending⟩ := Ev.finish_desk hdesk
        refine ⟨_, exec_rackExit s, hdlu, fun h => (nomatch h), fun r' rest' h hnone => ?_, fun r' rest' k' h hk => ?_, hclock,
          hprobes, hpba, hwarmers, hpending⟩
        · obtain ⟨rfl, rfl⟩ := List.cons.inj h
          exact nomatch hkind.symm.trans hnone
        · obtain ⟨rfl, rfl⟩ := List.cons.inj h
          obtain rfl := Option.some.inj (hkind.symm.trans hk)
          refine fun hcount hcool hquar hstock hfound => ⟨fun hpass => hpools.trans ?_, fun hfail => hpools.trans ?_⟩
          · have hverdict := (r.judge_eq_none_iff s.dlu.settings s.clock).mpr hpass
            rw [Ev.start_s, hverdict]
            exact congrArg (s.ppu.pools.set k) (PoolRec.move_wash (by decide) hcount hcool hstock hfound)
          · have hverdict := Option.isSome_iff_ne_none.mpr ((r.judge_eq_none_iff s.dlu.settings s.clock).not.mpr hfail)
            rw [Ev.start_s, if_pos hverdict]
            exact congrArg (s.ppu.pools.set k) (PoolRec.move_wash (by decide) hcount hquar hstock hfound)

end Sys2Proof.Machine
end

section
/-! PROOFS. The loads that are no oven's: the engine leaves them alone (R10). -/

namespace Sys2Proof.Machine

open Sys2Proof

/-- The load records that no channel hands a setpoint to: those of the warmers and of the dish line. -/
def State.ovenless (s : State) : LoadIx → Option LoadRec := fun l => if ovenOf l = none then some s.hlu.loads[l] else none

/-! ### Rules of the state's operations -/

theorem State.load_of_ovenless {s t : State} (h : t.ovenless = s.ovenless) {l : LoadIx} (hl : ovenOf l = none) :
    t.hlu.loads[l] = s.hlu.loads[l] := by
  have hload := congrFun h l
  rw [State.ovenless, State.ovenless, if_pos hl, if_pos hl] at hload
  exact Option.some.inj hload

theorem State.ovenless_of_hlu {s t : State} (h : t.hlu = s.hlu) : t.ovenless = s.ovenless := by
  unfold State.ovenless
  rw [h]

theorem State.ovenless_of_loads {s t : State} {c : Chan} {r : LoadRec} (h : t.hlu.loads = s.hlu.loads.set (ovenLoad c) r) :
    t.ovenless = s.ovenless := by
  funext l
  refine ite_congr rfl (fun hl => ?_) fun _ => rfl
  have hne : l ≠ ovenLoad c := fun he => by
    rw [he, ovenOf_ovenLoad] at hl
    cases hl
  rw [h]
  exact congrArg some (get_set_ne _ hne _)

@[simp] theorem State.setChan_ovenless (c : Chan) (r : ChanRec) (s : State) : (s.setChan c r).ovenless = s.ovenless := rfl
@[simp] theorem State.onChan_ovenless (c : Chan) (f : ChanRec → ChanRec) (s : State) :
    (s.onChan c f).ovenless = s.ovenless := rfl
@[simp] theorem State.onFse_ovenless (f : Fse → Fse) (s : State) : (s.onFse f).ovenless = s.ovenless := rfl
@[simp] theorem State.setStep_ovenless (i : StepIx) (r : StepRec) (s : State) : (s.setStep i r).ovenless = s.ovenless := rfl

@[simp] theorem State.handOven_ovenless (c : Chan) (s : State) : (s.handOven c).ovenless = s.ovenless := by
  obtain ⟨r, hset, -⟩ := State.handOven_eq c s
  exact State.ovenless_of_loads (c := c) (r := r) (congrArg (fun t : State => t.hlu.loads) hset)

@[simp] theorem State.chanNotice_ovenless (c : Chan) (code : NoticeCode) (p1 p2 p3 : Nat) (s : State) :
    (s.chanNotice c code p1 p2 p3).ovenless = s.ovenless := by
  obtain ⟨p, h, -⟩ := State.chanNotice_writes c code p1 p2 p3 s
  rw [h]
  rfl

@[simp] theorem State.closeStep_ovenless (c : Chan) (i : StepIx) (o : StepOutcome) (s : State) :
    (s.closeStep c i o).ovenless = s.ovenless := by
  obtain ⟨p, h, -⟩ := State.closeStep_writes c i o s
  rw [h]
  rfl

/-! ### The steps of an event -/

@[simp] theorem Ev.handFirst_ovenless (r : Report) (e : Ev) : (e.handFirst r).s.ovenless = e.s.ovenless := rfl

@[simp] theorem Ev.cancelHeld_ovenless (c : Chan) (e : Ev) : (e.cancelHeld c).s.ovenless = e.s.ovenless :=
  State.ovenless_of_hlu (Ev.cancelHeld_aside c e).hlu

@[simp] theorem Ev.requestPlates_ovenless (c : Chan) (kind : Byte) (n : Nat) (e : Ev) :
    (e.requestPlates c kind n).1.s.ovenless = e.s.ovenless := State.ovenless_of_hlu (Ev.requestPlates_aside c kind n e).hlu

@[simp] theorem Ev.submit_ovenless (sub : Submission) (o : Originator) (n : Option Station) (r : ReportTo) (e : Ev) :
    (e.submit sub o n r).s.ovenless = e.s.ovenless := State.ovenless_of_hlu (Ev.submit_aside sub o n r e).hlu

@[simp] theorem Ev.endChain_ovenless (c : Chan) (o : StepOutcome) (byEnd : Bool) (holdAt : Option Int) (w : Option StepIx)
    (e : Ev) : (e.endChain c o byEnd holdAt w).s.ovenless = e.s.ovenless := by
  obtain ⟨owner, stacked, last, r, -, -, hhlu, -⟩ := Ev.endChain_engine c o byEnd holdAt w e
  exact State.ovenless_of_loads (congrArg Hlu.loads hhlu)

@[simp] theorem Ev.skipStep_ovenless (c : Chan) (j : Option StepIx) (e : Ev) : (e.skipStep c j).s.ovenless = e.s.ovenless := by
  unfold Ev.skipStep
  split
  · simp
  · simp only
    split_ifs <;> simp

@[simp] theorem Ev.endStep_ovenless (c : Chan) (o : StepOutcome) (e : Ev) : (e.endStep c o).s.ovenless = e.s.ovenless := by
  unfold Ev.endStep
  split
  · rfl
  · simp only
    split_ifs <;> simp

@[simp] theorem Ev.endByKind_ovenless (c : Chan) (o : StepOutcome) (e : Ev) : (e.endByKind c o).s.ovenless = e.s.ovenless := by
  unfold Ev.endByKind
  split_ifs <;> simp

@[simp] theorem Ev.testReading_ovenless (c : Chan) (r : StepRec) (e : Ev) :
    (e.testReading c r).s.ovenless = e.s.ovenless := by
  unfold Ev.testReading
  split <;> simp

@[simp] theorem Ev.askPlates_ovenless (c : Chan) (r : StepRec) (e : Ev) : (e.askPlates c r).s.ovenless = e.s.ovenless := by
  unfold Ev.askPlates
  simp only
  split
  · simp
  · simp
  · split_ifs <;> simp

@[simp] theorem Ev.askPage_ovenless (c : Chan) (r : StepRec) (e : Ev) : (e.askPage c r).s.ovenless = e.s.ovenless := by
  unfold Ev.askPage
  split
  · rfl
  · simp only
    split_ifs <;> simp

@[simp] theorem Ev.postNote_ovenless (c : Chan) (i : StepIx) (r : StepRec) (e : Ev) :
    (e.postNote c i r).s.ovenless = e.s.ovenless := by simp [Ev.postNote]

theorem Ev.beginKind_ovenless (c : Chan) (i : StepIx) (r : StepRec) (again : Bool) (e : Ev) :
    (e.beginKind c i r again).s.ovenless = e.s.ovenless := by
  unfold Ev.beginKind
  cases r.kind with
  | heat | soak | core | waitPlates | call | finish => simp
  | drawPlates | note =>
    simp only
    split_ifs <;> simp

/-! ### The reports -/

theorem Ev.moveOn_ovenless (c : Chan) (j : Option StepIx) (e : Ev) : (e.moveOn c j).s.ovenless = e.s.ovenless := by
  unfold Ev.moveOn
  split
  · simp
  · simp only
    split_ifs
    · simp
    · simp
    · unfold Ev.beginStep
      simp [Ev.beginKind_ovenless]

theorem Ev.ovenFault_ovenless (c : Chan) (e : Ev) : (e.ovenFault c).s.ovenless = e.s.ovenless := by
  cases hs : (e.s.fse.channels[c]).state with
  | run => rw [Ev.ovenFault_run hs, Ev.endStep_ovenless]
  | hold =>
    obtain ⟨l, p, owner, stacked, last, hfault, -⟩ := Ev.ovenFault_hold hs
    rw [hfault]
    exact State.ovenless_of_loads (c := c) (r := l) rfl
  | idle => rw [Ev.ovenFault_rest (.inl hs)]
  | stopped => rw [Ev.ovenFault_rest (.inr hs)]

/-- No report writes a load but an oven's. -/
theorem Ev.take_ovenless (r : Report) (e : Ev) : (e.take r).s.ovenless = e.s.ovenless := by
  cases r with
  | moveOn c j => exact Ev.moveOn_ovenless ..
  | ovenFault c => exact Ev.ovenFault_ovenless ..
  | cavityReading c =>
    simp only [Ev.take, Ev.cavityReading]
    split
    · split_ifs <;> simp
    all_goals rfl
  | coreReading c =>
    simp only [Ev.take, Ev.coreReading]
    split
    · split_ifs <;> simp
    · rfl
  | coreFault c =>
    simp only [Ev.take, Ev.coreFault]
    split
    · split_ifs <;> simp
    · rfl
  | entryReady c i n =>
    simp only [Ev.take, Ev.entryReady]
    split
    · split_ifs <;> simp
    · rfl
  | linkLost c x =>
    simp only [Ev.take, Ev.linkLost]
    split_ifs
    · split <;> simp
    · rfl
  | entryEnded c i n short =>
    simp only [Ev.take, Ev.entryEnded]
    split
    · split
      · split_ifs <;> simp
      · rfl
    · rfl
  | pageEnded c n o =>
    simp only [Ev.take, Ev.pageEnded]
    split
    · split
      · split_ifs <;> simp
      · rfl
    · rfl
  | entryFree =>
    simp only [Ev.take, Ev.entryFree]
    split
    · rfl
    · split
      · split_ifs <;> simp
      · rfl
  | placeFree =>
    simp only [Ev.take, Ev.placeFree]
    split
    · rfl
    · split
      · split_ifs <;> simp
      · rfl

theorem Ev.drain_ovenless (n : Nat) (e : Ev) : (e.drain n).s.ovenless = e.s.ovenless := by
  induction n generalizing e with
  | zero => rfl
  | succ n ih =>
    unfold Ev.drain
    split
    · rfl
    · exact (ih _).trans (Ev.take_ovenless ..)

/-- A load that is no oven's, after the engine has taken an event's reports. -/
theorem Ev.finish_load {l : LoadIx} (hl : ovenOf l = none) (e : Ev) : e.finish.hlu.loads[l] = e.s.hlu.loads[l] :=
  State.load_of_ovenless (Ev.drain_ovenless _ e) hl

end Sys2Proof.Machine
end

section
/-! PROOFS. LABEL RACK and SET DISH (R126 to R129). -/

namespace Sys2Proof.Machine

open Sys2Proof

/-! ### LABEL RACK (R129) -/

theorem exec_labelRack (x : Station) (kind count : Byte) (s : State) :
    exec (.labelRack x kind count) s = concluded x 0x60 (cmdLabelRack kind count (Ev.start s)) := rfl

theorem cmdLabelRack_bad {kind count : Byte} (h : 3 < kind.toNat) (e : Ev) :
    cmdLabelRack kind count e = (e, refuse .badArgument) := withIndex_none h ..

section Labels
variable {kind count : Byte} {k : Kind} {e : Ev} (hk : kind.toNat = k.val)
include hk

theorem cmdLabelRack_zero (h : count = 0) : cmdLabelRack kind count e = (e, refuse .badArgument) :=
  (withIndex_some k hk ..).trans (if_pos (congrArg BitVec.toNat h))

theorem cmdLabelRack_full (h : count ≠ 0) (hlabels : 8 ≤ e.s.dlu.labels.length) :
    cmdLabelRack kind count e = (e, refuse .full) :=
  (withIndex_some k hk ..).trans ((if_neg fun h0 => h (BitVec.eq_of_toNat_eq h0)).trans (if_pos hlabels))

theorem cmdLabelRack_taken (h : count ≠ 0) (hlabels : e.s.dlu.labels.length < 8) :
    cmdLabelRack kind count e =
      (e.on (fun s => s.setDlu { s.dlu with labels := s.dlu.labels ++ [⟨k, min 60 count.toNat⟩] }),
        ⟨if 60 < count.toNat then .clamped else .ok, u8 (e.s.dlu.labels.length + 1)⟩) := by
  refine (withIndex_some k hk ..).trans
    ((if_neg fun h0 => h (BitVec.eq_of_toNat_eq h0)).trans ((if_neg (Nat.not_le.mpr hlabels)).trans ?_))
  rw [taken_decide]
  exact congrArg (fun n => (_, (⟨_, u8 n⟩ : Response))) (List.length_append ..)

end Labels

/-! ### SET DISH (R126 to R128) -/

theorem exec_setDish (x : Station) (im : DishImage) (s : State) :
    exec (.setDish x im) s = concluded x 0x61 (cmdSetDish im (Ev.start s)) := rfl

/-- The dish line once new settings stand in it (R127). -/
def Dlu.withSettings (d : Dlu) (new : DishSettings) : Dlu :=
  { d with settings := new, conveyor := if new.groupM = d.settings.groupM then d.conveyor else d.conveyor.discard }

/-- The hand-over of the setpoints writes the two loads of the dish line, each with what it is handed (R128). -/
theorem State.handDish_eq (s : State) :
    ∃ rinse wash : LoadRec, s.handDish = (s.setLoad rinseLoad rinse).setLoad washLoad wash ∧
      rinse.setpoint = s.dlu.settings.rinseSetpoint ∧ rinse.active = decide (0 < s.dlu.settings.rinseSetpoint) ∧
      wash.setpoint = s.dlu.settings.washSetpoint ∧ wash.active = decide (0 < s.dlu.settings.washSetpoint) := by
  obtain ⟨rinse, hrinse, hrset, hract, -⟩ := State.handSetpoint_eq rinseLoad s.dlu.settings.rinseSetpoint
    (decide (0 < s.dlu.settings.rinseSetpoint)) s
  obtain ⟨wash, hwash, hwset, hwact, -⟩ := State.handSetpoint_eq washLoad s.dlu.settings.washSetpoint
    (decide (0 < s.dlu.settings.washSetpoint)) (s.setLoad rinseLoad rinse)
  refine ⟨rinse, wash, ?_, hrset, hract, hwset, hwact⟩
  rw [← hwash, ← hrinse]
  rfl

/-- The two loads of the dish line, after the engine has taken an event's reports. -/
theorem Ev.finish_dishLoads {f : Ev} {u : State} {rinse wash : LoadRec}
    (h : f.s.desk = ((u.setLoad rinseLoad rinse).setLoad washLoad wash).desk) :
    f.finish.hlu.loads[rinseLoad] = rinse ∧ f.finish.hlu.loads[washLoad] = wash := by
  obtain ⟨-, -, hhlu, -⟩ := State.desk_eq h
  have hstands (l : LoadIx) (hl : ovenOf l = none) :
      f.finish.hlu.loads[l] = ((u.hlu.loads.set rinseLoad rinse).set washLoad wash)[l] :=
    (Ev.finish_load hl f).trans (congrArg (fun h : Hlu => h.loads[l]) hhlu)
  exact ⟨(hstands rinseLoad rfl).trans ((get_set_ne _ (by decide) _).trans (get_set_same ..)),
    (hstands washLoad rfl).trans (get_set_same ..)⟩

/-- SET DISH leaves on the desk the new settings and their setpoints handed on, whatever CONVEYOR FAST causes. -/
theorem cmdSetDish_eq {im : DishImage} {y : Station} (hy : im.dishStation.toNat = y.val) (e : Ev) :
    let new := (DishSettings.carried im y).inRange
    ∃ f : Ev, cmdSetDish im e = (f, ⟨taken (decide (new ≠ DishSettings.carried im y)), []⟩) ∧
      f.s.desk = ((e.s.setDlu (e.s.dlu.withSettings new)).handDish).desk := by
  intro new
  refine ⟨_, withIndex_some y hy .., ?_⟩
  simp only
  split
  · rfl
  · exact Ev.report_desk ..

/-- The settings are unchanged where none of the eleven fields that have a range was brought to it. -/
theorem DishSettings.inRange_eq_iff (d : DishSettings) :
    d.inRange = d ↔
      d.inRange.rinseSetpoint = d.rinseSetpoint ∧ d.inRange.washSetpoint = d.washSetpoint ∧ d.inRange.rinseMin = d.rinseMin ∧
        d.inRange.dwellMin = d.dwellMin ∧ d.inRange.dwellMax = d.dwellMax ∧ d.inRange.groupM = d.groupM ∧
        d.inRange.mmPerPulse = d.mmPerPulse ∧ d.inRange.machineLength = d.machineLength ∧ d.inRange.high = d.high ∧
        d.inRange.low = d.low ∧ d.inRange.holdTime = d.holdTime := by
  obtain ⟨rinseSetpoint, washSetpoint, rinseMin, dwellMin, dwellMax, groupM, mmPerPulse, machineLength, high, low, holdTime,
    clearingRole, holdMessage, releaseMessage, dishStation⟩ := d
  simp only [DishSettings.inRange, DishSettings.mk.injEq, and_true]

theorem taken_inRange (d : DishSettings) : taken (decide (d.inRange ≠ d)) = .ok ↔ d.inRange = d := by
  rw [taken_eq_ok_iff, decide_eq_false_iff_not, not_not]

theorem clampInt_pos {hi v : Int} (h : 0 < hi) : 0 < clampInt 0 hi v ↔ 0 < v := by
  unfold clampInt
  split_ifs <;> omega

/-- Settles O37, from the refusals of LABEL RACK and from what SET DISH leaves on the desk and in its two loads. -/
theorem labelRackAndSetDishRules : Obligations.LabelRackAndSetDishRules := by
  refine ⟨fun x kind count s => ⟨fun h => ?_, fun k hk => ⟨fun h => ?_, fun h hfull => ?_, fun h hroom => ?_⟩⟩,
    fun x im s => ⟨fun h => ?_, fun y hy => ?_⟩⟩
  · rw [exec_labelRack, cmdLabelRack_bad h]
    exact concluded_start ..
  · rw [exec_labelRack, cmdLabelRack_zero hk h]
    exact concluded_start ..
  · rw [exec_labelRack, cmdLabelRack_full hk h hfull]
    exact concluded_start ..
  · rw [exec_labelRack, cmdLabelRack_taken hk h hroom]
    exact concluded_quiet _ _ _ _ rfl
  · rw [exec_setDish, cmdSetDish, withIndex_none h]
    exact concluded_start ..
  · obtain ⟨f, hcmd, hdesk⟩ := cmdSetDish_eq hy (Ev.start s)
    obtain ⟨rinse, wash, hhand, hrset, hract, hwset, hwact⟩ := State.handDish_eq
      (s.setDlu (s.dlu.withSettings (DishSettings.carried im y).inRange))
    rw [Ev.start_s, hhand] at hdesk
    obtain ⟨hdlu, hpools, -, hclock, hprobes, hpba, hpending⟩ := Ev.finish_desk hdesk
    obtain ⟨hrinse, hwash⟩ := Ev.finish_dishLoads hdesk
    have hsettings : f.finish.dlu.settings = (DishSettings.carried im y).inRange := congrArg Dlu.settings hdlu
    refine ⟨f.finish.setAnswer x _, by rw [exec_setDish, hcmd]; rfl, hsettings, (congrArg Dlu.conveyor hdlu :),
      ⟨_, State.setAnswer_get .., taken_cases _, ?_⟩, (congrArg Dlu.labels hdlu :), (congrArg Dlu.racks hdlu :),
      (congrArg Dlu.nextSequence hdlu :), (congrArg Dlu.flow hdlu :), ?_, ?_, ?_, ?_, hclock, hprobes, hpba, hpools, hpending⟩
    · refine (taken_inRange _).trans ((DishSettings.inRange_eq_iff _).trans ?_)
      rw [← hsettings]
      rfl
    · exact (congrArg LoadRec.setpoint hrinse).trans hrset
    · exact (congrArg LoadRec.active hrinse).trans (hract.trans (decide_eq_decide.mpr (clampInt_pos (by decide))))
    · exact (congrArg LoadRec.setpoint hwash).trans hwset
    · exact (congrArg LoadRec.active hwash).trans (hwact.trans (decide_eq_decide.mpr (clampInt_pos (by decide))))

end Sys2Proof.Machine
end
